-- ==== Sys2Proof/Word.lean ====
section
/-! DEFINITION. The smallest unit the wire carries: one byte of a frame, a record or a reply (R189). -/

namespace Sys2Proof

/-- One byte of the cycle frame's payload, of the service area or of a record image (R189). -/
abbrev Byte := BitVec 8

end Sys2Proof
end

