-- ==== Sys2Proof/Syntax.lean ====
section
/-! DEFINITION. The commands of the block: one constructor of `Instr` for each row of the table of steps.
The operands are what the step needs from outside: the level of a line at its reading, the time of a frame's
completion, the bytes of a frame, the fields of a service area. -/

namespace Sys2Proof

/-- The two weld heads of the bridge. -/
inductive HeadId where
  | a
  | b
  deriving DecidableEq, Repr, Inhabited

/-- One served service area, less its addressee, request code and area check (R191). The selectors and the
index are held as the sender coded them, so that a code outside its table reaches the check that refuses it. -/
structure Request where
  tag     : BitVec 16
  length  : BitVec 8
  table   : BitVec 8
  head    : BitVec 8
  index   : BitVec 16
  /-- The 52 bytes of request data (R191). -/
  payload : List Byte
  deriving DecidableEq, Repr

/-- A cycle frame as it reaches the node: the payload its header announces, and whether its incoming frame
check proves good (R151). -/
structure Frame where
  payload   : List Byte
  checkGood : Bool
  deriving DecidableEq, Repr

/-- The module's inputs beside the ring, as they stand when a frame completes: the STOP and MARK lines, which
an accepted frame reads (R147, R148), and the address straps, which a reset reads (R150). -/
structure Pins where
  stop   : Bool
  mark   : Bool
  straps : BitVec 6
  deriving DecidableEq, Repr

/-- An assertion of the RESET line: how long it has lasted without a break, in microseconds (R146), and how far a
frame that passes has come by then, as the number of its payload bytes that have left the node (R151). The node
releases the service area only once it has read it whole (R169), so a number up to 63 is a reset while the area
leaves, and 0 one before it begins to leave. -/
structure ResetPulse where
  micros : Nat
  passed : Nat
  deriving DecidableEq, Repr

/-- The commands. The order is the table's. -/
inductive Instr where
  | powerOn (straps : BitVec 6)
  | supplyLoss
  | resetLine (pulse : ResetPulse)
  | resetNegated (straps : BitVec 6)
  | startTime
  | cycleFrame (f : Frame)
  | frameCompletion (now : Nat) (pins : Pins)
  | cycleWindowExpiry (stop : Bool)
  | ringLost
  | holdWindowReached
  | streamExpired
  | readStatus (r : Request)
  | readRecord (r : Request)
  | writeRecordSegment (r : Request)
  | writeRecordMap (r : Request)
  | writeRecordMapHeader (r : Request)
  | writeRecordGuard (r : Request)
  | writeRecordGantryProfile (r : Request)
  | writeRecordHeadProfile (r : Request)
  | writeRecordSlotMap (r : Request)
  | appendSegment (r : Request)
  | cancelPending (r : Request)
  | streamOpen (r : Request)
  | streamData (r : Request)
  | streamCancel (r : Request)
  | passStart (r : Request)
  | passHold (r : Request)
  | passResume (r : Request)
  | passAbort (r : Request)
  | enterReady (r : Request)
  | enterConfig (r : Request)
  | clearFault (r : Request)
  | takeEvent (r : Request)
  | setEventMask (r : Request)
  | resetNode (r : Request)
  | unknownRequest (code : BitVec 8) (r : Request)
  | filteredMarkEdge
  | arrival
  | spinupStart (h : HeadId)
  | atSpeed (h : HeadId)
  | spinupTimeout (h : HeadId)
  | contact (h : HeadId)
  | noContact (h : HeadId)
  | seatComplete (h : HeadId)
  | dwellEnd (h : HeadId)
  | repetitionEnd (h : HeadId)
  | traverseCompletesAtRest (h : HeadId)
  | starvationEnd (h : HeadId)
  | appendedStartTaken (h : HeadId)
  | brakeEnd (h : HeadId)
  | runoutEnd (h : HeadId)
  | retractEnd (h : HeadId)
  | spindownEnd (h : HeadId)
  | spinstop (h : HeadId)
  | withdrawalEnd (h : HeadId)
  | passEnd
  | holdLimit (h : HeadId)
  | saturation (h : HeadId)
  | headStale (h : HeadId)
  | xStale
  deriving DecidableEq, Repr

/-- The service area a request command carries, if the command is one. -/
def Instr.request? : Instr → Option Request
  | .powerOn _ => none
  | .supplyLoss => none
  | .resetLine _ => none
  | .resetNegated _ => none
  | .startTime => none
  | .cycleFrame _ => none
  | .frameCompletion _ _ => none
  | .cycleWindowExpiry _ => none
  | .ringLost => none
  | .holdWindowReached => none
  | .streamExpired => none
  | .readStatus r => some r
  | .readRecord r => some r
  | .writeRecordSegment r => some r
  | .writeRecordMap r => some r
  | .writeRecordMapHeader r => some r
  | .writeRecordGuard r => some r
  | .writeRecordGantryProfile r => some r
  | .writeRecordHeadProfile r => some r
  | .writeRecordSlotMap r => some r
  | .appendSegment r => some r
  | .cancelPending r => some r
  | .streamOpen r => some r
  | .streamData r => some r
  | .streamCancel r => some r
  | .passStart r => some r
  | .passHold r => some r
  | .passResume r => some r
  | .passAbort r => some r
  | .enterReady r => some r
  | .enterConfig r => some r
  | .clearFault r => some r
  | .takeEvent r => some r
  | .setEventMask r => some r
  | .resetNode r => some r
  | .unknownRequest _ r => some r
  | .filteredMarkEdge => none
  | .arrival => none
  | .spinupStart _ => none
  | .atSpeed _ => none
  | .spinupTimeout _ => none
  | .contact _ => none
  | .noContact _ => none
  | .seatComplete _ => none
  | .dwellEnd _ => none
  | .repetitionEnd _ => none
  | .traverseCompletesAtRest _ => none
  | .starvationEnd _ => none
  | .appendedStartTaken _ => none
  | .brakeEnd _ => none
  | .runoutEnd _ => none
  | .retractEnd _ => none
  | .spindownEnd _ => none
  | .spinstop _ => none
  | .withdrawalEnd _ => none
  | .passEnd => none
  | .holdLimit _ => none
  | .saturation _ => none
  | .headStale _ => none
  | .xStale => none

end Sys2Proof
end

