-- ==== Sys2Proof/Decode.lean ====
section
/-! DEFINITION. The table of steps gives no row any bits, so no word spells a command: the decoder answers
none on every word. (The service area inside a frame is read by `Machine/Operands.lean` and served by
`Machine/Service.lean`; it is a byte image of the frame, not an instruction word.) -/

namespace Sys2Proof

/-- The command that a word spells by the table's bits. No row of the table has bits, so none does. -/
def decodeTableWord (_nbits _w : Nat) : Option Instr :=
  none

end Sys2Proof
end

