-- ==== Sys2Proof/Machine/Bytes.lean ====
section
/-! DEFINITION. Byte images: every multi-byte value least significant byte first, signed values two's
complement of their width (R189). -/

namespace Sys2Proof.Machine

/-- The unsigned value of a byte image, least significant byte first (R189). -/
def readU : List Byte → Nat
  | [] => 0
  | b :: bs => b.toNat + 256 * readU bs

/-- The signed value of a byte image, two's complement of its width (R189). -/
def readS (bs : List Byte) : Int :=
  let v := readU bs
  if 2 ^ (8 * bs.length) ≤ 2 * v then (v : Int) - 2 ^ (8 * bs.length) else v

/-- The lowest `w` bytes of a natural number, least significant first (R189). -/
def bytesOfNat : Nat → Nat → List Byte
  | 0, _ => []
  | w + 1, v => BitVec.ofNat 8 v :: bytesOfNat w (v / 256)

/-- A value written in `w` bytes, two's complement, least significant byte first (R189). -/
def bytesOf (w : Nat) (v : Int) : List Byte :=
  bytesOfNat w (v % 2 ^ (8 * w)).toNat

/-- `len` bytes from offset `off`. A byte beyond the image reads as 0. -/
def slice (off len : Nat) (bs : List Byte) : List Byte :=
  let part := (bs.drop off).take len
  part ++ List.replicate (len - part.length) 0

/-- The image with `new` written from offset `off` on; nothing is written beyond the image's end. -/
def overwrite (off : Nat) (new : List Byte) (bs : List Byte) : List Byte :=
  bs.take off ++ new.take (bs.length - off) ++ bs.drop (off + new.length)

/-- An unsigned field of `len` bytes at offset `off`. -/
def fieldU (off len : Nat) (bs : List Byte) : Nat :=
  readU (slice off len bs)

/-- A signed field of `len` bytes at offset `off`. -/
def fieldS (off len : Nat) (bs : List Byte) : Int :=
  readS (slice off len bs)

/-- The exclusive-or of the half-words of an image, half-words at even offsets (R169, R177, R189). -/
def xorHalves : List Byte → BitVec 16
  | lo :: hi :: rest => (hi ++ lo) ^^^ xorHalves rest
  | [lo] => (0#8 ++ lo)
  | [] => 0

end Sys2Proof.Machine
end

