-- ==== Sys2Proof/Machine/Arith.lean ====
section
/-! DEFINITION. The arithmetic of the conventions chapter: exact integers, division toward zero unless a rule
says otherwise, limiting, the rounding of the map's interpolation and the planner's integer square root. -/

namespace Sys2Proof.Machine

/-- "Limited to the range lo to hi". -/
def limit (lo hi x : Int) : Int :=
  if x < lo then lo else if hi < x then hi else x

/-- "Every division rounds toward zero unless its rule names another rounding." -/
def divZero (n d : Int) : Int :=
  Int.tdiv n d

/-- The signed 32-bit range, to which stations and fence stations are limited (R51, R106). -/
def limit32 (x : Int) : Int :=
  limit (-2147483648) 2147483647 x

/-- The quotient n / d rounded to nearest, halves away from zero (R104). -/
def divNear (n d : Int) : Int :=
  let q : Int := ((2 * n.natAbs + d.natAbs) / (2 * d.natAbs) : Nat)
  if (n < 0) = (d < 0) then q else -q

/-- The magnitude |x|. -/
def mag (x : Int) : Int :=
  if x < 0 then -x else x

/-- Greatest root found by trying the bits below `k` from the highest down. -/
def isqrtFrom : Nat → Nat → Nat → Nat
  | 0, _, r => r
  | k + 1, n, r =>
    let c := r + 2 ^ k
    isqrtFrom k n (if c * c ≤ n then c else r)

/-- "The square root is the integer square root, rounded down" (R62). -/
def isqrt (n : Nat) : Nat :=
  isqrtFrom (n.log2 / 2 + 1) n 0

/-- A division of naturals rounded up (R39). -/
def ceilDiv (n d : Nat) : Nat :=
  (n + d - 1) / d

/-- A counter that rises by 1 and is limited to at most `top`. -/
def countUp (top n : Nat) : Nat :=
  if n < top then n + 1 else top

end Sys2Proof.Machine
end

