-- ==== Sys2Proof/Config.lean ====
section
/-! DEFINITION. What the manual leaves open, as constants without a body: nothing can be proved of their
values, so a statement that mentions one holds for every value of it. -/

namespace Sys2Proof

/-- Which of several causes found together on one set is taken first. The manual says only that one of them
is (R124, R187); the rank of cause number `item` on set `set`.`coast` is free. Log entry 3. -/
opaque Config.judgeRank : (set coast item : Nat) → Nat

/-- The bytes of a reply whose data are several numbers for which no layout is given: the items of a refused
ENTER READY or profile write, of a stream reply, of SET EVENT MASK. Log entry 4. -/
opaque Config.itemLayout : List Int → List Byte

end Sys2Proof
end

