-- ==== Sys2Proof/Machine/Records.lean ====
section
/-! DEFINITION. The records the blocks of the node hold, one structure for each record of the manual, and the
fixed sets of names they use. Everything is plain data. Positions, depths, forces and the like are exact
integers (the conventions chapter); counters are naturals; bit masks are bit vectors. -/

namespace Sys2Proof.Machine

/-! ## Names -/

/-- Node mode (R134). -/
inductive NodeMode where
  | config | ready | fault
  deriving DecidableEq, Repr

/-- Pass heads of a pass, and the heads-present field of the gantry profile (R1, R141). -/
inductive HeadSet where
  | none | a | b | both
  deriving DecidableEq, Repr

/-- Datum mode (R1). -/
inductive DatumMode where
  | given | mark
  deriving DecidableEq, Repr

/-- Pass state (R2). -/
inductive PassState where
  | idle | approach | running | held | complete | aborted
  deriving DecidableEq, Repr

/-- Hold cause (R1, R7). -/
inductive HoldCause where
  | none | request | guard | ring | halt
  deriving DecidableEq, Repr

/-- Head state (R13). -/
inductive HeadState where
  | idle | waiting | spinup | plunge | dwell | traverse | exit | spindown | withdraw | finished | stopped
  deriving DecidableEq, Repr

/-- Head order (R13, R19). -/
inductive HeadOrder where
  | none | exit | withdraw
  deriving DecidableEq, Repr

/-- Exit kind (R27). -/
inductive ExitKind where
  | inPlace | runOut
  deriving DecidableEq, Repr

/-- Phase of an EXIT (R13, R34). -/
inductive ExitPhase where
  | brake | runout | retract
  deriving DecidableEq, Repr

/-- Kind of a segment record (R27). -/
inductive SegKind where
  | start | dwell | traverse | exit
  deriving DecidableEq, Repr

/-- X mode (R48). -/
inductive XMode where
  | still | move | quickstop
  deriving DecidableEq, Repr

/-- Z mode (R70). -/
inductive ZMode where
  | park | position
  deriving DecidableEq, Repr

/-- Saturation side (R70, R78). -/
inductive SatSide where
  | none | high | low
  deriving DecidableEq, Repr

/-- Plunge phase (R70). -/
inductive PlungePhase where
  | descent | seat
  deriving DecidableEq, Repr

/-- Withdraw phase (R70). -/
inductive WithdrawPhase where
  | rising | spinstop
  deriving DecidableEq, Repr

/-- Ring state (R152). -/
inductive RingState where
  | down | up | coasting | lost
  deriving DecidableEq, Repr

/-- Loss mode (R141). -/
inductive LossMode where
  | withdraw | hold
  deriving DecidableEq, Repr

/-- Cause of a stop-point entry (R48). -/
inductive StopCause where
  | plunge | endOfRecord
  deriving DecidableEq, Repr

/-- Owner of a guard record (R114). -/
inductive Owner where
  | head (h : HeadId)
  | gantry
  deriving DecidableEq, Repr

/-- Guard channel (R116). -/
inductive Channel where
  | force | forceError | torque | temp | lateral | zFollow | spindleError | depthDemand | xSkew | xLag
  deriving DecidableEq, Repr

/-- Comparison of a guard record (R119). -/
inductive Comparison where
  | above | below | outside | inside
  deriving DecidableEq, Repr

/-- Filter of a guard record (R120). -/
inductive Filter where
  | one | twoOfTwo | twoOfThree | threeOfFive
  deriving DecidableEq, Repr

/-- Action of a guard record (R123). -/
inductive Action where
  | note | slow | hold | exit | halt
  deriving DecidableEq, Repr

/-- Event kind, in the order of priority (R183). -/
inductive EventKind where
  | ringLost | halt | headFault | guardTrip | passEnd | ringRestored | queueStarved | queueLow | datumSet
  | markLatch | mapFence | streamExpired | shortSegment | ringTiming | segmentDone
  deriving DecidableEq, Repr

/-- Fault kind, in the order of its code (R188). -/
inductive FaultKind where
  | stopLine | skew | xStale | xLag | headStale | noContact | spinupTimeout | startMissed | saturation
  | holdLimit | guardExit | guardHalt | ringLoss | noDatum | startBehind
  deriving DecidableEq, Repr

/-- Reply code (R170). -/
inductive ReplyCode where
  | done | busy | state | index | value | fence | full | order | check | unknown
  deriving DecidableEq, Repr

/-- Table that a stream may carry (R168). -/
inductive StreamTable where
  | segment | map | guard
  deriving DecidableEq, Repr, Inhabited

/-- The eighteen requests (R191). -/
inductive RequestKind where
  | readStatus | readRecord | writeRecord | appendSegment | cancelPending | streamOpen | streamData
  | streamCancel | passStart | passHold | passResume | passAbort | enterReady | enterConfig | takeEvent
  | setEventMask | clearFault | resetNode
  deriving DecidableEq, Repr

/-! ## The pass controller -/

/-- The pass record (R1). -/
structure PassRecord where
  number     : Nat
  heads      : HeadSet
  datumMode  : DatumMode
  approachX  : Int
  x0         : Int
  datumValid : Bool
  linked     : Bool
  state      : PassState
  holdCause  : HoldCause
  lossHold   : Nat
  deriving DecidableEq, Repr

/-! ## The head sequencer -/

/-- A segment record (R27, R193), within its kind the fields the kind has. -/
inductive Segment where
  | start (station rpm force depth : Int)
  | dwell (ms : Nat) (force : Int)
  | traverse (reps : Nat) (length force speed rpm depth : Int)
  | exit (last : Bool) (kind : ExitKind) (rate runOut : Int)
  deriving DecidableEq, Repr

/-- Force, speed, rpm and nominal depth: the carried set and the values of a TRAVERSE (R34, R35). -/
structure SegValues where
  force : Int
  speed : Int
  rpm   : Int
  depth : Int
  deriving DecidableEq, Repr

/-- The progress record of the executing record (R34). -/
structure Progress where
  s0         : Int
  v0         : SegValues
  v1         : SegValues
  repsDone   : Nat
  dwellLeft  : Nat
  endReached : Bool
  starved    : Bool
  exitPhase  : Option ExitPhase
  deriving DecidableEq, Repr

/-- The head sequencer (R13, R15, R25, R26, R34, R35, R128). `executing` says whether the record at index 0 is
the executing record: it is clear for a head outside the pass and for a WAITING head left without one (R46). -/
structure Sequencer where
  state        : HeadState
  order        : HeadOrder
  faultExit    : Bool
  queue        : List Segment
  executing    : Bool
  lastKind     : Option SegKind
  progress     : Progress
  carried      : SegValues
  station      : Int
  holdTimer    : Nat
  spinupTimer  : Nat
  atSpeedCount : Nat
  deriving DecidableEq, Repr

/-! ## The force regulator -/

/-- The exit record (R85). The last two fields are absent for an exit that does not run out. -/
structure ExitRecord where
  kind         : ExitKind
  rate         : Int
  runOut       : Int
  startStation : Option Int
  startDepth   : Option Int
  deriving DecidableEq, Repr

/-- The regulator record (R70). `segment` holds the segment values of the latest set (R72), which become the
carried set when a stop order takes the head out of TRAVERSE (R35); `formedError` says whether the regulator
formed a force error on the latest set (R116). -/
structure Regulator where
  accumulator  : Int
  demand       : Int
  side         : SatSide
  satRun       : Nat
  rateLimited  : Bool
  plungePhase  : PlungePhase
  seatCount    : Nat
  zMode        : ZMode
  error        : Int
  target       : Int
  nominal      : Int
  exitRecord   : Option ExitRecord
  withdraw     : WithdrawPhase
  segment      : SegValues
  formedError  : Bool
  deriving DecidableEq, Repr

/-! ## The trim unit and the compensation map -/

/-- The trim record (R93). -/
structure Trim where
  ovrV     : Int
  ovrN     : Int
  cap      : Option Int
  lateral  : Int
  vh       : Option Int
  spindle  : Int
  lastTemp : Option Int
  deriving DecidableEq, Repr

/-- A point of a compensation map (R103). -/
structure MapPoint where
  station : Int
  kf      : Int
  dz      : Int
  deriving DecidableEq, Repr

/-- A compensation map (R103). The point count is the number of points. -/
structure CompMap where
  points   : List MapPoint
  fence    : Option Int
  refusals : Nat
  deriving DecidableEq, Repr

/-! ## Profiles -/

/-- Page 0 of a head profile (R143): the depth window, the clear height and the rates. -/
structure DepthPage where
  dMin         : Int
  dMax         : Int
  clear        : Int
  plungeRate   : Int
  retractRate  : Int
  withdrawRate : Int
  rMax         : Int
  deriving DecidableEq, Repr

/-- Page 1 of a head profile (R143): the regulation's gains and the seat test. -/
structure GainPage where
  kp       : Int
  ki       : Int
  deadband : Int
  iClamp   : Int
  seatBand : Int
  seatSets : Nat
  deriving DecidableEq, Repr

/-- Page 2 of a head profile (R143): the limits of the fixed guards and the fault exit. -/
structure LimitPage where
  atSpeedTol      : Int
  spinupLimit     : Nat
  staleLimit      : Nat
  holdLimit       : Nat
  saturationLimit : Nat
  faultExit       : ExitKind
  faultRunOut     : Int
  deriving DecidableEq, Repr

/-- Page 3 of a head profile (R143): heat trim, seam tracking and the head's X offset. -/
structure TrimPage where
  tLo          : Int
  tHi          : Int
  speedStep    : Int
  speedFloor   : Int
  spindleStep  : Int
  spindleFloor : Int
  kt           : Int
  yRate        : Int
  yLim         : Int
  xOffset      : Int
  deriving DecidableEq, Repr

/-- A head profile of four pages (R143). -/
structure HeadProfile where
  depth  : DepthPage
  gains  : GainPage
  limits : LimitPage
  trim   : TrimPage
  deriving DecidableEq, Repr

/-- The gantry profile (R141). -/
structure GantryProfile where
  present       : HeadSet
  tc            : Nat
  xMax          : Int
  approachSpeed : Int
  acc           : Int
  dec           : Int
  arrivalTol    : Int
  skewLimit     : Int
  lagLimit      : Int
  xStaleLimit   : Nat
  missLimit     : Nat
  lossMode      : LossMode
  holdWindow    : Nat
  fenceMargin   : Int
  markStation   : Int
  markFilter    : Nat
  streamTimeout : Nat
  deriving DecidableEq, Repr

/-! ## One head -/

/-- The fired flags of a head's fixed guards (R126). -/
structure HeadFired where
  saturation    : Bool
  holdLimit     : Bool
  spinupTimeout : Bool
  headStale     : Bool
  deriving DecidableEq, Repr

/-- The blocks that exist once for each head, with the head's profile and its guards' fired flags. -/
structure Head where
  seq     : Sequencer
  reg     : Regulator
  trim    : Trim
  map     : CompMap
  profile : HeadProfile
  fired   : HeadFired
  deriving DecidableEq, Repr

/-! ## The traverse planner -/

/-- A stop-point entry (R48). -/
structure StopPoint where
  head  : HeadId
  cause : StopCause
  x     : Int
  deriving DecidableEq, Repr

/-- The contents of the mark latch record (R48, R55). -/
structure MarkEdge where
  x         : Int
  station   : Option Int
  setNumber : Nat
  deriving DecidableEq, Repr

/-- The planner record (R48), with the X demand that READ STATUS shows (R173), and whether the MARK line must read negated
before the next filtered edge (R53, R142). -/
structure Planner where
  xLeft      : Int
  xRight     : Int
  measuredX  : Int
  skew       : Int
  commandedX : Int
  lag        : Int
  xDemand    : Int
  xCommand   : Int
  xMode      : XMode
  stopPoints : List StopPoint
  markCount  : Nat
  markHeld   : Bool
  latchCount : Nat
  latch      : Option MarkEdge
  deriving DecidableEq, Repr

/-! ## Guards -/

/-- A guard record (R114). The arm set is held as the bits of R195. -/
structure GuardRecord where
  enabled    : Bool
  owner      : Owner
  channel    : Channel
  comparison : Comparison
  lo         : Int
  hi         : Int
  filter     : Filter
  arm        : BitVec 8
  action     : Action
  cap        : Int
  tripped    : Bool
  trips      : Nat
  window     : List Bool
  deriving DecidableEq, Repr

/-- The fired flags of the gantry's fixed guards (R126). -/
structure GantryFired where
  xStale   : Bool
  skew     : Bool
  xLag     : Bool
  stopLine : Bool
  deriving DecidableEq, Repr

/-! ## The ring port -/

/-- Set number n.k of an output set (R157). -/
structure SetNumber where
  set   : Nat
  coast : Nat
  deriving DecidableEq, Repr

/-- The output values of one head (R153). -/
structure HeadOutput where
  zDemand : Int
  zMode   : ZMode
  spindle : Int
  yTrim   : Int
  deriving DecidableEq, Repr

/-- An output set (R166). -/
structure OutputSet where
  a      : HeadOutput
  b      : HeadOutput
  xSpeed : Int
  xMode  : XMode
  number : SetNumber
  deriving DecidableEq, Repr

/-- The completion time of the latest accepted frame and the cycle period as it then stood (R161). -/
structure FrameTiming where
  completed : Nat
  tc        : Nat
  deriving DecidableEq, Repr

/-- A count for each group of input channels: head A, head B and the gantry (R159). -/
structure Groups (α : Type) where
  a : α
  b : α
  x : α
  deriving DecidableEq, Repr

/-- The ring port record (R152). `captured`, `lastGood` and `handed` hold one entry for each of the seventeen
input channels, in id order (R153); `handed` is what the ring port hands over on the latest set (R158). The
cycle window is its next expiry time while it runs; `timing` is absent until a frame has been accepted. -/
structure RingPort where
  state      : RingState
  window     : Option Nat
  timing     : Option FrameTiming
  missCount  : Nat
  setNumber  : Nat
  coastCount : Nat
  early      : Nat
  short      : Nat
  badCheck   : Nat
  reference  : Groups (Option Int)
  stale      : Groups Nat
  overRangeA : Nat
  overRangeB : Nat
  captured   : List (Option Int)
  lastGood   : List (Option Int)
  handed     : List Int
  output     : OutputSet
  deriving DecidableEq, Repr

/-- One entry of the slot map (R153). -/
structure SlotEntry where
  offset  : Nat
  enabled : Bool
  deriving DecidableEq, Repr

/-! ## Events and faults -/

/-- An entry of the pending set (R183). -/
structure EventEntry where
  kind   : EventKind
  count  : Nat
  stamp  : Nat
  detail : Nat
  deriving DecidableEq, Repr

/-- The contents of the fault record (R183). -/
structure FaultRecord where
  kind      : FaultKind
  head      : Option HeadId
  setNumber : Nat
  station   : Int
  value     : Int
  deriving DecidableEq, Repr

/-- The event unit (R183). The pending set is held in the order of priority; bit k - 1 of the mask enables
kind k. -/
structure EventUnit where
  entries    : List EventEntry
  mask       : BitVec 15
  fault      : Option FaultRecord
  faultCount : Nat
  deriving DecidableEq, Repr

/-! ## The service unit -/

/-- The fields of the stream context beside open or closed (R168). -/
structure Stream where
  table     : StreamTable
  head      : HeadId
  first     : Nat
  count     : Nat
  remaining : Nat
  expected  : BitVec 16
  idle      : Nat
  deriving DecidableEq, Repr, Inhabited

/-- The contents of the last reply record (R168). -/
structure LastReply where
  code      : Nat
  tag       : BitVec 16
  reply     : ReplyCode
  detail    : Nat
  setNumber : Nat
  deriving DecidableEq, Repr

/-- The service unit (R168). `stream` is the stream context while it is open, and `closed` holds its fields while it
is closed. `resetDue` is set from the DONE reply of RESET NODE to the completion of the frame that carries it
(R176). -/
structure ServiceUnit where
  mode      : NodeMode
  stream    : Option Stream
  closed    : Stream
  staging   : List (List Byte)
  lastReply : Option LastReply
  resetDue  : Bool
  deriving DecidableEq, Repr

/-- The fields of the stream context, open or closed, as R173 returns them. -/
def ServiceUnit.context (u : ServiceUnit) : Stream :=
  u.stream.getD u.closed

/-- The latest readings of the STOP and MARK lines and the strap address (R147, R148, R150). -/
structure Lines where
  stop  : Bool
  mark  : Bool
  strap : BitVec 6
  deriving DecidableEq, Repr

/-- Supply and readiness (R146): without supply; held in reset by the RESET line; out of reset but not yet
ready to accept a frame; ready. -/
inductive Power where
  | unpowered | inReset | starting | running
  deriving DecidableEq, Repr

end Sys2Proof.Machine
end

