-- ==== Sys2Proof/Machine/Pages.lean ====
section
/-! DEFINITION. What a reply carries: its data by content, and the status pages of READ STATUS (R173). The
manual lists the contents of each page and gives no place for any of them, so the places are constants without a
body; the content is held whole, and the items that R190 and R197 lay out are written as they say. -/

namespace Sys2Proof.Machine

/-- Pages 2 and 5: a head's sequencer (R173). -/
structure SequencerPage where
  state        : HeadState
  order        : HeadOrder
  faultExit    : Bool
  progress     : Progress
  carried      : SegValues
  lastKind     : Option SegKind
  queued       : Nat
  station      : Int
  holdTimer    : Nat
  spinupTimer  : Nat
  atSpeedCount : Nat
  fired        : HeadFired
  deriving DecidableEq, Repr

/-- Page 8: the ring port's counts and the gantry's fired flags (R173). -/
structure RingPage where
  state      : RingState
  missCount  : Nat
  early      : Nat
  short      : Nat
  badCheck   : Nat
  reference  : Groups (Option Int)
  stale      : Groups Nat
  overRangeA : Nat
  overRangeB : Nat
  fired      : GantryFired
  deriving DecidableEq, Repr

/-- The status pages (R173). The mark latch record and the fault record come with their images of R197. -/
inductive StatusPage where
  | node (lines : Lines) (setNumber coastCount : Nat) (pass : PassRecord) (lastReply : Option LastReply)
  | planner (record : Planner) (latchImage : List Byte)
  | sequencer (h : HeadId) (page : SequencerPage)
  | regulator (h : HeadId) (record : Regulator)
  | trim (h : HeadId) (record : Trim)
  | ring (page : RingPage)
  | lastGood (values : List (Option Int))
  | faults (record : Option FaultRecord) (image : List Byte) (faultCount : Nat) (mask : BitVec 15)
      (isOpen : Bool) (context : Stream) (staged : Nat)
  deriving DecidableEq, Repr

/-- The data of a reply (R171): none; one number; several numbers for which no layout is given; an image that
the layouts chapter gives; a status page. -/
inductive ReplyData where
  | empty
  | number (n : Nat)
  | items (l : List Int)
  | image (bytes : List Byte)
  | page (p : StatusPage)
  deriving DecidableEq, Repr

/-- A reply: its code and its data (R170, R171). -/
structure Reply where
  code : ReplyCode
  data : ReplyData
  deriving DecidableEq, Repr

/-- A frame that is passing the node: its payload as it arrived, whether its incoming check proves good, and the
payload offsets at which the node's writing into it begins: the answered area and each output slot (R151). -/
structure PassingFrame where
  payload   : List Byte
  checkGood : Bool
  written   : List Nat
  deriving DecidableEq, Repr

/-- How a frame's check leaves the node (R151). -/
inductive CheckOut where
  | unchanged | regenerated | bad
  deriving DecidableEq, Repr

/-- The frame as it leaves the node. -/
structure OutFrame where
  payload : List Byte
  check   : CheckOut
  deriving DecidableEq, Repr

/-- The ring connection: the frame passing the node, the frame as it leaves, and the reply to the latest area that
was offered with the area as the node wrote it (both absent when the area was sent on unchanged, R169, R171). -/
structure Port where
  passing : Option PassingFrame
  outgoing : Option OutFrame
  reply   : Option Reply
  area    : Option (List Byte)
  deriving DecidableEq, Repr

end Sys2Proof.Machine

namespace Sys2Proof

/-- The bytes of a status page beside the items that R190 and R197 lay out. The manual gives no layout for them. Log
entry 4. -/
opaque Config.pageRest : Machine.StatusPage → List Byte

/-- What the fields of the stream context hold once the stream has closed, given the context that closes. They have no
meaning while it is closed (R168). Log entry 53. -/
opaque Config.closedContext : Machine.Stream → Machine.Stream

/-- The offsets at which a status page holds the items that R190 and R197 lay out. The manual gives none. Log
entry 4. -/
opaque Config.pageOffsets : (page : Nat) → List Nat

end Sys2Proof
end

