-- ==== Sys2Proof/Machine/Defaults.lean ====
section
/-! DEFINITION. The values the chapters give each record after power-on, and the retained values a RESET line
or RESET NODE reset leaves. -/

namespace Sys2Proof.Machine

/-- The pass record after reset (R1). -/
def PassRecord.initial : PassRecord where
  number := 0
  heads := .none
  datumMode := .given
  approachX := 0
  x0 := 0
  datumValid := false
  linked := false
  state := .idle
  holdCause := .none
  lossHold := 0

/-- The carried set after reset (R35). -/
def SegValues.zero : SegValues :=
  ⟨0, 0, 0, 0⟩

/-- The progress record while no record is executing (R34). -/
def Progress.cleared : Progress where
  s0 := 0
  v0 := .zero
  v1 := .zero
  repsDone := 0
  dwellLeft := 0
  endReached := false
  starved := false
  exitPhase := none

/-- The head sequencer after reset (R13, R15, R25, R26, R34, R35, R128). -/
def Sequencer.initial : Sequencer where
  state := .idle
  order := .none
  faultExit := false
  queue := []
  executing := false
  lastKind := none
  progress := .cleared
  carried := .zero
  station := 0
  holdTimer := 0
  spinupTimer := 0
  atSpeedCount := 0

/-- The regulator record after reset, the depth demand at the clear height (R70). -/
def Regulator.initial (clear : Int) : Regulator where
  accumulator := 0
  demand := clear
  side := .none
  satRun := 0
  rateLimited := false
  plungePhase := .descent
  seatCount := 0
  zMode := .park
  error := 0
  target := 0
  nominal := 0
  exitRecord := none
  withdraw := .rising
  segment := .zero
  formedError := false

/-- The trim record after reset (R93). -/
def Trim.initial : Trim where
  ovrV := 1000
  ovrN := 1000
  cap := none
  lateral := 0
  vh := none
  spindle := 0
  lastTemp := none

/-- The map record after a reset that keeps `points` (R103). -/
def CompMap.initial (points : List MapPoint) : CompMap where
  points := points
  fence := none
  refusals := 0

/-- Page 0 at its defaults (R143). -/
def DepthPage.default : DepthPage :=
  ⟨3000, 7000, -10000, 10, 20, 100, 20⟩

/-- Page 1 at its defaults (R143). -/
def GainPage.default : GainPage :=
  ⟨100, 300, 200, 1500, 500, 50⟩

/-- Page 2 at its defaults (R143). -/
def LimitPage.default : LimitPage :=
  ⟨20, 5000, 5, 3000, 500, .inPlace, 50000⟩

/-- Page 3 at its defaults (R143). -/
def TrimPage.default : TrimPage :=
  ⟨4000, 5200, 2, 700, 2, 800, 100, 5, 3000, 0⟩

/-- A head profile at its defaults (R143). -/
def HeadProfile.default : HeadProfile :=
  ⟨.default, .default, .default, .default⟩

/-- The gantry profile at its defaults (R141). -/
def GantryProfile.default : GantryProfile where
  present := .none
  tc := 1000
  xMax := 20000
  approachSpeed := 10000
  acc := 50000
  dec := 50000
  arrivalTol := 100
  skewLimit := 2000
  lagLimit := 5000
  xStaleLimit := 5
  missLimit := 4
  lossMode := .withdraw
  holdWindow := 500
  fenceMargin := 150000
  markStation := 0
  markFilter := 2
  streamTimeout := 2000

/-- No fired flag set (R126). -/
def HeadFired.clear : HeadFired :=
  ⟨false, false, false, false⟩

/-- No fired flag set (R126). -/
def GantryFired.clear : GantryFired :=
  ⟨false, false, false, false⟩

/-- A head after a reset that keeps its profile and the points of its map. -/
def Head.initial (profile : HeadProfile) (points : List MapPoint) : Head where
  seq := .initial
  reg := .initial profile.depth.clear
  trim := .initial
  map := .initial points
  profile := profile
  fired := .clear

/-- The planner record after reset (R48). -/
def Planner.initial : Planner where
  xLeft := 0
  xRight := 0
  measuredX := 0
  skew := 0
  commandedX := 0
  lag := 0
  xDemand := 0
  xCommand := 0
  xMode := .still
  stopPoints := []
  markCount := 0
  markHeld := false
  latchCount := 0
  latch := none

/-- A guard record after power-on (R114). -/
def GuardRecord.initial : GuardRecord where
  enabled := false
  owner := .head .a
  channel := .force
  comparison := .above
  lo := 0
  hi := 0
  filter := .one
  arm := 0
  action := .note
  cap := 1000
  tripped := false
  trips := 0
  window := []

/-- A guard record with its run fields cleared and its configuration kept (R114, R115). -/
def GuardRecord.rearmed (g : GuardRecord) : GuardRecord :=
  { g with tripped := false, trips := 0, window := [] }

/-- The reset output values of one head (R166). -/
def HeadOutput.initial (clear : Int) : HeadOutput where
  zDemand := clear
  zMode := .park
  spindle := 0
  yTrim := 0

/-- The reset output set, numbered 0.0 (R166). -/
def OutputSet.initial (clearA clearB : Int) : OutputSet where
  a := .initial clearA
  b := .initial clearB
  xSpeed := 0
  xMode := .still
  number := ⟨0, 0⟩

/-- The last good values of the seven channels of a head after reset: TEMP and LATERAL absent (R152). -/
def lastGoodHead : List (Option Int) :=
  [some 0, some 0, none, none, some 0, some 0, some 0]

/-- The ring port record after reset (R152). -/
def RingPort.initial (clearA clearB : Int) : RingPort where
  state := .down
  window := none
  timing := none
  missCount := 0
  setNumber := 0
  coastCount := 0
  early := 0
  short := 0
  badCheck := 0
  reference := ⟨none, none, none⟩
  stale := ⟨0, 0, 0⟩
  overRangeA := 0
  overRangeB := 0
  captured := List.replicate 17 none
  lastGood := lastGoodHead ++ lastGoodHead ++ [some 0, some 0, some 0]
  handed := [0, 0, 65535, -32768, 0, 0, 0, 0, 0, 65535, -32768, 0, 0, 0, 0, 0, 0]
  output := .initial clearA clearB

/-- The enable mask after reset: every kind but SEGMENT_DONE, the fifteenth (R183). -/
def EventUnit.initial : EventUnit where
  entries := []
  mask := 0x3FFF
  fault := none
  faultCount := 0

/-- The stream context after reset: closed, its fields 0, which are table SEGMENT and head A in R190's codes (R168). -/
def Stream.initial : Stream :=
  ⟨.segment, .a, 0, 0, 0, 0, 0⟩

/-- The service unit after reset (R134, R168). -/
def ServiceUnit.initial : ServiceUnit where
  mode := .config
  stream := none
  closed := .initial
  staging := []
  lastReply := none
  resetDue := false

/-- The lines after reset: STOP reads asserted and MARK negated until a set reads them (R147, R148), and the
straps are read (R150). -/
def Lines.initial (straps : BitVec 6) : Lines where
  stop := true
  mark := false
  strap := straps

/-- A ring connection with no frame passing. -/
def Port.idle : Port :=
  ⟨none, none, none, none⟩

end Sys2Proof.Machine
end

