-- ==== Sys2Proof/Machine/State.lean ====
section
/-! DEFINITION. The whole state of the node as plain data, the reasons a step could stop with, and the state
right after power-on. -/

namespace Sys2Proof.Machine

/-- The machine's faults. There is none: no command of this block stops the machine, since the manual gives
every command an effect (a refused request is answered with a reply code, and a fault of the manual, R187, is an
effect on the state). An empty type is safe: nothing is claimed of a stop. -/
inductive Fault
  deriving DecidableEq, Repr

/-- The refusals. -/
inductive Refusal where
  /-- Raised by a dispatch arm that has no meaning yet; no arm of this model raises it. Safe: a step that
  answers it claims nothing of the node. -/
  | notModelled (mnemonic : String)
  deriving DecidableEq, Repr

/-- Everything the manual gives the node to hold, block by block, and the queue of commands waiting. -/
structure State where
  /-- Supply, reset and readiness (R146). -/
  power       : Power
  pass        : PassRecord
  headA       : Head
  headB       : Head
  planner     : Planner
  /-- The twelve guard records, in index order (R114). -/
  guards      : List GuardRecord
  gantryFired : GantryFired
  /-- A HALT has been taken since the latest output set was formed: the next one carries QUICKSTOP (R66). The
  model's own field (log entry 45). -/
  halted      : Bool
  ring        : RingPort
  events      : EventUnit
  service     : ServiceUnit
  gantry      : GantryProfile
  /-- The slot map as last written, one entry for each of the 28 ids (R153). -/
  slotMap     : List SlotEntry
  /-- The copy of the slot map that is in force, if one is (R154). -/
  inForce     : Option (List SlotEntry)
  lines       : Lines
  port        : Port
  /-- The commands waiting, first in, first out. -/
  pending     : List Instr
  deriving DecidableEq, Repr

/-- The state that power-on gives a module whose straps read `straps` (R146): every record at its power-on
value, out of reset and not yet ready to accept a frame. -/
def State.powerOn (straps : BitVec 6) : State where
  power := .starting
  pass := .initial
  headA := .initial .default []
  headB := .initial .default []
  planner := .initial
  guards := List.replicate 12 .initial
  gantryFired := .clear
  halted := false
  ring := .initial DepthPage.default.clear DepthPage.default.clear
  events := .initial
  service := .initial
  gantry := .default
  slotMap := List.replicate 28 ⟨0, false⟩
  inForce := none
  lines := .initial straps
  port := .idle
  pending := []

/-- The machine right after its power-on reset. The strap address is a setting of the module that no reset
gives a value; the model takes 1, an answering address (log entry 1). -/
def State.reset : State :=
  State.powerOn 1

end Sys2Proof.Machine
end

