-- ==== Sys2Proof/Machine/Ops.lean ====
section
/-! DEFINITION. The named operations over the state that every block uses: reading and updating one head, who
is in the pass, raising an event and taking a fault. -/

namespace Sys2Proof

/-- The other head. -/
def HeadId.other : HeadId → HeadId
  | .a => .b
  | .b => .a

/-- The code of a head: 0 for A, 1 for B (R190). -/
def HeadId.code : HeadId → Nat
  | .a => 0
  | .b => 1

namespace Machine

/-- The code of a head or of none: 0 A, 1 B, 2 none (R190). -/
def headCode : Option HeadId → Nat
  | some h => h.code
  | none => 2

/-! ## One head -/

/-- The blocks of one head. -/
def State.head (s : State) : HeadId → Head
  | .a => s.headA
  | .b => s.headB

/-- The state with the blocks of one head replaced. -/
def State.setHead (s : State) (h : HeadId) (x : Head) : State :=
  match h with
  | .a => { s with headA := x }
  | .b => { s with headB := x }

/-- The state with the blocks of one head changed by `f`. -/
def State.modHead (s : State) (h : HeadId) (f : Head → Head) : State :=
  s.setHead h (f (s.head h))

/-- The state with one head's sequencer changed by `f`. -/
def State.modSeq (s : State) (h : HeadId) (f : Sequencer → Sequencer) : State :=
  s.modHead h fun x => { x with seq := f x.seq }

/-- The state with one head's progress record changed by `f`. -/
def State.modProgress (s : State) (h : HeadId) (f : Progress → Progress) : State :=
  s.modSeq h fun q => { q with progress := f q.progress }

/-- The state with one head's regulator record changed by `f`. -/
def State.modReg (s : State) (h : HeadId) (f : Regulator → Regulator) : State :=
  s.modHead h fun x => { x with reg := f x.reg }

/-- The state with one head's trim record changed by `f`. -/
def State.modTrim (s : State) (h : HeadId) (f : Trim → Trim) : State :=
  s.modHead h fun x => { x with trim := f x.trim }

/-- The state with one head's map changed by `f`. -/
def State.modMap (s : State) (h : HeadId) (f : CompMap → CompMap) : State :=
  s.modHead h fun x => { x with map := f x.map }

/-- The state with one head's fired flags changed by `f`. -/
def State.modFired (s : State) (h : HeadId) (f : HeadFired → HeadFired) : State :=
  s.modHead h fun x => { x with fired := f x.fired }

/-- The head state of one head. -/
def State.headState (s : State) (h : HeadId) : HeadState :=
  (s.head h).seq.state

/-- The executing record of a head, if one is executing (R34). -/
def Sequencer.executingRecord (q : Sequencer) : Option Segment :=
  if q.executing then q.queue.head? else none

/-- The successor of the executing record: the record behind it in the queue. -/
def Sequencer.successor (q : Sequencer) : Option Segment :=
  q.queue.tail.head?

/-- The depth demand of the previous output set, D_prev (R80). -/
def State.prevDemand (s : State) : HeadId → Int
  | .a => s.ring.output.a.zDemand
  | .b => s.ring.output.b.zDemand

/-- The spindle command of the previous output set (R100). -/
def State.prevSpindle (s : State) : HeadId → Int
  | .a => s.ring.output.a.spindle
  | .b => s.ring.output.b.spindle

/-- The seven input channels of a head, in id order (R153). -/
inductive HeadInput where
  | force | torque | temp | lateral | zpos | spindle | headseq
  deriving DecidableEq, Repr

/-- Place of a head's input channel among the seven (R153). -/
def HeadInput.place : HeadInput → Nat
  | .force => 0
  | .torque => 1
  | .temp => 2
  | .lateral => 3
  | .zpos => 4
  | .spindle => 5
  | .headseq => 6

/-- The value the ring port hands over for a head's channel on the latest set (R158). -/
def State.input (s : State) (h : HeadId) (c : HeadInput) : Int :=
  s.ring.handed.getD (7 * h.code + c.place) 0

/-- The stale count of a head's group (R159). -/
def State.headStaleCount (s : State) : HeadId → Nat
  | .a => s.ring.stale.a
  | .b => s.ring.stale.b

/-! ## The pass -/

/-- The heads a set of heads names, A before B. -/
def HeadSet.members : HeadSet → List HeadId
  | .none => []
  | .a => [.a]
  | .b => [.b]
  | .both => [.a, .b]

/-- Whether a set of heads names a head. -/
def HeadSet.has (p : HeadSet) (h : HeadId) : Bool :=
  p.members.contains h

/-- A pass is active while its state is APPROACH, RUNNING or HELD (R2). -/
def PassState.active : PassState → Bool
  | .approach => true
  | .running => true
  | .held => true
  | .idle => false
  | .complete => false
  | .aborted => false

/-- Whether a pass is active (R2). -/
def State.active (s : State) : Bool :=
  s.pass.state.active

/-- Whether a head is named in the current pass. -/
def State.isPassHead (s : State) (h : HeadId) : Bool :=
  s.pass.heads.has h

/-- The X at which a head stands at a station (R51). -/
def State.xOfStation (s : State) (h : HeadId) (station : Int) : Int :=
  s.pass.x0 + station - (s.head h).profile.trim.xOffset

/-- The plunge X of a head whose executing record is a START (R5, R57). -/
def State.plungeX (s : State) (h : HeadId) : Option Int :=
  match (s.head h).seq.executingRecord with
  | some (.start station _ _ _) => some (s.xOfStation h station)
  | _ => none

/-- Commanded X set to measured X and the lag to 0 (R68). -/
def State.reseed (s : State) : State :=
  { s with planner := { s.planner with commandedX := s.planner.measuredX * 1000, lag := 0 } }

/-! ## Events and faults -/

/-- The kind number of an event kind (R183). -/
def EventKind.num : EventKind → Nat
  | .ringLost => 1
  | .halt => 2
  | .headFault => 3
  | .guardTrip => 4
  | .passEnd => 5
  | .ringRestored => 6
  | .queueStarved => 7
  | .queueLow => 8
  | .datumSet => 9
  | .markLatch => 10
  | .mapFence => 11
  | .streamExpired => 12
  | .shortSegment => 13
  | .ringTiming => 14
  | .segmentDone => 15

/-- The code of a fault kind (R188). -/
def FaultKind.code : FaultKind → Nat
  | .stopLine => 1
  | .skew => 2
  | .xStale => 3
  | .xLag => 4
  | .headStale => 5
  | .noContact => 6
  | .spinupTimeout => 7
  | .startMissed => 8
  | .saturation => 9
  | .holdLimit => 10
  | .guardExit => 11
  | .guardHalt => 12
  | .ringLoss => 13
  | .noDatum => 14
  | .startBehind => 15

/-- The HALT-class fault kinds (R187). -/
def FaultKind.haltClass : FaultKind → Bool
  | .stopLine => true
  | .skew => true
  | .xStale => true
  | .xLag => true
  | .headStale => true
  | .guardHalt => true
  | .ringLoss => true
  | .noContact => false
  | .spinupTimeout => false
  | .startMissed => false
  | .saturation => false
  | .holdLimit => false
  | .guardExit => false
  | .noDatum => false
  | .startBehind => false

/-- Two items in one detail word: the first in its low byte, the second in its high byte (R197). -/
def packDetail (lo hi : Nat) : Nat :=
  lo % 256 + 256 * (hi % 256)

/-- A number carried as a detail word, limited to 65,535 (R197). -/
def detailNumber (n : Nat) : Nat :=
  if 65535 < n then 65535 else n

/-- Whether an event kind is enabled in the mask (R183, R186). -/
def EventUnit.enables (u : EventUnit) (k : EventKind) : Bool :=
  u.mask.getLsbD (k.num - 1)

/-- The pending set after an enabled kind has been raised: its entry counts 1 more, limited to 255, and keeps
its stamp and detail; without an entry a new one is made in the place its priority gives it (R184). -/
def insertEvent (k : EventKind) (stamp detail : Nat) : List EventEntry → List EventEntry
  | [] => [⟨k, 1, stamp, detail⟩]
  | e :: es =>
    if e.kind = k then { e with count := countUp 255 e.count } :: es
    else if k.num < e.kind.num then ⟨k, 1, stamp, detail⟩ :: e :: es
    else e :: insertEvent k stamp detail es

/-- A block raises an event (R184). -/
def State.raise (s : State) (k : EventKind) (detail : Nat) : State :=
  if s.events.enables k then
    { s with events := { s.events with entries := insertEvent k s.ring.setNumber detail s.events.entries } }
  else s

/-- The fault count rises by 1, limited to 65,535, and an empty fault record is filled (R187, steps 1 and 2). -/
def State.recordFault (s : State) (k : FaultKind) (head : Option HeadId) (station value : Int) : State :=
  let record := match s.events.fault with
    | some f => f
    | none => ⟨k, head, s.ring.setNumber, station, value⟩
  { s with events := { s.events with fault := some record, faultCount := countUp 65535 s.events.faultCount } }

/-- A fault is taken: it is counted and recorded, HEAD_FAULT is raised, and HALT for a HALT-class kind
(R187). -/
def State.takeFault (s : State) (k : FaultKind) (head : Option HeadId) (station value : Int) : State :=
  let s := (s.recordFault k head station value).raise .headFault (packDetail k.code (headCode head))
  if k.haltClass then s.raise .halt (packDetail k.code 0) else s

/-! ## Guard records whose action latches -/

/-- HOLD, EXIT and HALT latch: the guard stays tripped until R122 clears it. -/
def Action.latches : Action → Bool
  | .hold => true
  | .exit => true
  | .halt => true
  | .note => false
  | .slow => false

/-- The tripped flag and the window of every latched guard record whose owner is selected are cleared
(R122). -/
def State.clearLatched (s : State) (owned : Owner → Bool) : State :=
  { s with guards := s.guards.map fun g =>
      if g.action.latches && owned g.owner then { g with tripped := false, window := [] } else g }

end Machine

end Sys2Proof
end

