-- ==== Sys2Proof/Machine/Flags.lean ====
section
/-! DEFINITION. What is read off the state rather than held: the classes of head states, the ALERT line, the
highest pending kind, the STATUS image, and the codes of R190. -/

namespace Sys2Proof.Machine

/-- A head in any state other than IDLE, FINISHED and STOPPED is working in the pass (R13). -/
def HeadState.working : HeadState → Bool
  | .idle => false
  | .finished => false
  | .stopped => false
  | .waiting => true
  | .spinup => true
  | .plunge => true
  | .dwell => true
  | .traverse => true
  | .exit => true
  | .spindown => true
  | .withdraw => true

/-- The states in which the regulator is cleared and the depth demand is the clear height (R71). -/
def HeadState.parked : HeadState → Bool
  | .idle => true
  | .waiting => true
  | .spinup => true
  | .spindown => true
  | .finished => true
  | .stopped => true
  | .plunge => false
  | .dwell => false
  | .traverse => false
  | .exit => false
  | .withdraw => false

/-- A head that has entered FINISHED or STOPPED has left the pass (R13). -/
def HeadState.left : HeadState → Bool
  | .finished => true
  | .stopped => true
  | .idle => false
  | .waiting => false
  | .spinup => false
  | .plunge => false
  | .dwell => false
  | .traverse => false
  | .exit => false
  | .spindown => false
  | .withdraw => false

/-- The Z mode of each head state (R13, R71). -/
def HeadState.zMode (st : HeadState) : ZMode :=
  if st.parked then .park else .position

/-- The exit phase of a head, if it is in EXIT. -/
def Head.exitPhase (x : Head) : Option ExitPhase :=
  if x.seq.state = .exit then x.seq.progress.exitPhase else none

/-- Whether a head is in the seam (R13): PLUNGE, DWELL, TRAVERSE, EXIT in BRAKE or RUNOUT, and EXIT in RETRACT
while the depth demand is deeper than the clear height. The demand tested is the one last formed: a HALT of a guard record,
taken after the regulator has worked the set, tests the D of that work, not that of the latest output set, so that a RETRACT
which reaches the clear height on that set has left the seam: the model's choice (R22, R70, R88, log entry 67). -/
def Head.inSeam (x : Head) : Bool :=
  match x.seq.state with
  | .plunge => true
  | .dwell => true
  | .traverse => true
  | .exit =>
    match x.seq.progress.exitPhase with
    | some .retract => decide (x.profile.depth.clear < x.reg.demand)
    | _ => true
  | .idle => false
  | .waiting => false
  | .spinup => false
  | .spindown => false
  | .withdraw => false
  | .finished => false
  | .stopped => false

/-- The pending set holds an entry of kind 1 to 5. -/
def EventUnit.alerting (u : EventUnit) : Bool :=
  u.entries.any fun e => decide (e.kind.num ≤ 5)

/-- Whether the node is out of reset and has supply. -/
def Power.alive : Power → Bool
  | .starting => true
  | .running => true
  | .unpowered => false
  | .inReset => false

/-- The ALERT line (R149). -/
def State.alert (s : State) : Bool :=
  s.power.alive && s.events.alerting

/-- The highest pending kind: the lowest kind number of the pending set, or 0 when it is empty (R183). -/
def EventUnit.highest (u : EventUnit) : Nat :=
  match u.entries with
  | [] => 0
  | e :: _ => e.kind.num

/-- The free segment count of a head (R25). -/
def State.freeSegments (s : State) (h : HeadId) : Nat :=
  16 - (s.head h).seq.queue.length

/-! ## Codes (R190) -/

def NodeMode.code : NodeMode → Nat
  | .config => 0
  | .ready => 1
  | .fault => 2

def PassState.code : PassState → Nat
  | .idle => 0
  | .approach => 1
  | .running => 2
  | .held => 3
  | .complete => 4
  | .aborted => 5

def HeadState.code : HeadState → Nat
  | .idle => 0
  | .waiting => 1
  | .spinup => 2
  | .plunge => 3
  | .dwell => 4
  | .traverse => 5
  | .exit => 6
  | .spindown => 7
  | .withdraw => 8
  | .finished => 9
  | .stopped => 10

def RingState.code : RingState → Nat
  | .down => 0
  | .up => 1
  | .coasting => 2
  | .lost => 3

def ZMode.code : ZMode → Nat
  | .park => 0
  | .position => 1

def XMode.code : XMode → Nat
  | .still => 0
  | .move => 1
  | .quickstop => 2

def ReplyCode.code : ReplyCode → Nat
  | .done => 0
  | .busy => 1
  | .state => 2
  | .index => 3
  | .value => 4
  | .fence => 5
  | .full => 6
  | .order => 7
  | .check => 8
  | .unknown => 9

def SegKind.code : SegKind → Nat
  | .start => 1
  | .dwell => 2
  | .traverse => 3
  | .exit => 4

def ExitKind.code : ExitKind → Nat
  | .inPlace => 0
  | .runOut => 1

def Action.code : Action → Nat
  | .note => 0
  | .slow => 1
  | .hold => 2
  | .exit => 3
  | .halt => 4

/-- R191 gives the codes of A, B and BOTH for the pass heads, and R196 those and the 0 of NONE for the heads present. The 0 of
pass heads NONE is the model's choice (log entry 4). -/
def HeadSet.code : HeadSet → Nat
  | .none => 0
  | .a => 1
  | .b => 2
  | .both => 3

def LossMode.code : LossMode → Nat
  | .withdraw => 0
  | .hold => 1

def StreamTable.code : StreamTable → Nat
  | .segment => 0
  | .map => 1
  | .guard => 2

/-- The code by which a request is named in the service area (R191). -/
def RequestKind.code : RequestKind → Nat
  | .readStatus => 1
  | .readRecord => 2
  | .writeRecord => 3
  | .appendSegment => 4
  | .cancelPending => 5
  | .streamOpen => 6
  | .streamData => 7
  | .streamCancel => 8
  | .passStart => 9
  | .passHold => 10
  | .passResume => 11
  | .passAbort => 12
  | .enterReady => 13
  | .enterConfig => 14
  | .takeEvent => 15
  | .setEventMask => 16
  | .clearFault => 17
  | .resetNode => 18

/-- The eighteen requests, in the order of their codes. -/
def RequestKind.all : List RequestKind :=
  [.readStatus, .readRecord, .writeRecord, .appendSegment, .cancelPending, .streamOpen, .streamData,
   .streamCancel, .passStart, .passHold, .passResume, .passAbort, .enterReady, .enterConfig, .takeEvent,
   .setEventMask, .clearFault, .resetNode]

/-- The STATUS slot and the status echo, as they stand (R167, R171, R192). -/
def State.statusBytes (s : State) : List Byte :=
  [BitVec.ofNat 8 s.service.mode.code,
   BitVec.ofNat 8 s.pass.state.code,
   BitVec.ofNat 8 s.headA.seq.state.code,
   BitVec.ofNat 8 s.headB.seq.state.code,
   BitVec.ofNat 8 s.events.highest,
   BitVec.ofNat 8 (s.freeSegments .a),
   BitVec.ofNat 8 (s.freeSegments .b),
   BitVec.ofNat 8 ((if s.alert then 1 else 0) + 2 * s.ring.state.code)]

end Sys2Proof.Machine
end

