-- ==== Sys2Proof/Machine/Orders.lean ====
section
/-! DEFINITION. What the pass controller does to the heads: entering and leaving the states outside the seam,
the end of a pass, hold orders, EXIT orders, head HALT and HALT all (Chapter 1). -/

namespace Sys2Proof.Machine

/-! ## Leaving the seam and leaving the pass -/

/-- The regulator cleared on entry to a parked state (R71). The depth demand and the Z mode are those of the
latest output set and are formed anew with the next one. -/
def Regulator.cleared (r : Regulator) : Regulator :=
  { Regulator.initial r.demand with zMode := r.zMode, segment := r.segment, formedError := r.formedError }

/-- A head enters a parked state: its regulator is cleared (R71). -/
def State.park (s : State) (h : HeadId) (st : HeadState) : State :=
  s.modHead h fun x => { x with seq := { x.seq with state := st }, reg := x.reg.cleared }

/-- No record of a head is executing any more, and its progress record is cleared (R34). -/
def State.dropExecuting (s : State) (h : HeadId) : State :=
  s.modSeq h fun q => { q with executing := false, progress := .cleared }

/-- Every pass head is FINISHED or STOPPED and the X speed command is 0, in an active pass (R12). -/
def State.passEndDue (s : State) : Bool :=
  s.active && s.pass.heads.members.all (fun h => (s.headState h).left) && decide (s.planner.xCommand = 0)

/-- The fired flags of every fixed guard cleared: none is armed once no pass is active (R126, R132). -/
def State.clearFired (s : State) : State :=
  { (s.modFired .a fun _ => .clear).modFired .b fun _ => .clear with gantryFired := .clear }

/-- The pass ends: COMPLETE if every pass head is FINISHED, ABORTED if any is STOPPED; PASS_END is raised; an X
mode of QUICKSTOP becomes STILL; the stop-point set is empty and the X demand 0, as they are while no pass is active
(R58, R61); the gantry's latched guards are cleared (R12, R122). -/
def State.endPass (s : State) : State :=
  let st := if s.pass.heads.members.all (fun h => decide (s.headState h = .finished)) then PassState.complete
    else .aborted
  let s := { s with pass := { s.pass with state := st } }
  let s := s.raise .passEnd (detailNumber s.pass.number)
  let mode := if s.planner.xMode = .quickstop then XMode.still else s.planner.xMode
  let s := { s with planner := { s.planner with xMode := mode, stopPoints := [], xDemand := 0 } }
  (s.clearLatched fun o => decide (o = .gantry)).clearFired

/-- The pass-end test of R12. -/
def State.testPassEnd (s : State) : State :=
  if s.passEndDue then s.endPass else s

/-- A head enters STOPPED: its whole queue is emptied and its last completed kind becomes none (R18), its
spindle is commanded to 0 (R20, R22) and its latched guards are cleared (R122). Its fence station stands until the
next set forms it (R106, log entry 49). The pass-end test of R12 follows once everything taken together has been
taken (log entry 44). -/
def State.stopHead (s : State) (h : HeadId) : State :=
  let s := (s.park h .stopped).dropExecuting h
  let s := s.modSeq h fun q => { q with queue := [], lastKind := none }
  let s := s.modTrim h fun t => { t with spindle := 0 }
  s.clearLatched fun o => decide (o = .head h)

/-- A head enters FINISHED: the records behind its LAST exit stay queued (R18), and its latched guards are cleared
(R122). -/
def State.finishHead (s : State) (h : HeadId) : State :=
  ((s.park h .finished).dropExecuting h).clearLatched fun o => decide (o = .head h)

/-! ## Hold orders -/

/-- The rank of a hold cause: HALT above RING, RING above GUARD, GUARD above REQUEST (R7). -/
def HoldCause.rank : HoldCause → Nat
  | .none => 0
  | .request => 1
  | .guard => 2
  | .ring => 3
  | .halt => 4

/-- A hold order is taken (R7). -/
def State.holdOrder (s : State) (c : HoldCause) : State :=
  let cause := if s.pass.holdCause.rank < c.rank then c else s.pass.holdCause
  match s.pass.state with
  | .running => { s with pass := { s.pass with state := .held, holdCause := c } }
  | .approach => { s with pass := { s.pass with holdCause := cause } }
  | .held => { s with pass := { s.pass with holdCause := cause } }
  | .idle => s
  | .complete => s
  | .aborted => s

/-! ## EXIT orders -/

/-- A head enters EXIT in a phase with its exit record filled (R85). The saturation run stands: R86 says that it is 0
throughout BRAKE by R79, and R79 writes it on accepted sets that a regulator works; a head that enters BRAKE after the
regulators of a set, between sets or on a coast set (R92) keeps the run of its TRAVERSE until the first accepted set
regulated in BRAKE: the model's choice (log entry 59). -/
def State.enterExit (s : State) (h : HeadId) (phase : ExitPhase) (r : ExitRecord) : State :=
  s.modHead h fun x =>
    { x with
      seq := { x.seq with state := .exit, progress := { x.seq.progress with exitPhase := some phase } }
      reg := { x.reg with exitRecord := some r } }

/-- Every record behind the executing one is removed from a head's queue (R20, R22, R47). -/
def State.dropPending (s : State) (h : HeadId) : State :=
  s.modSeq h fun q => { q with queue := q.queue.take 1 }

/-- The carried set takes the values of the last set computed in TRAVERSE (R35, R47). A head that entered TRAVERSE
as its plunge completed, and is ordered out before any set has been computed in TRAVERSE, carries the values of the
SEAT set, whose speed is 0: the model's choice (log entry 22). -/
def State.carryLastSet (s : State) (h : HeadId) : State :=
  s.modHead h fun x => { x with seq := { x.seq with carried := x.reg.segment } }

/-- The exit record of an exit that is performed in place. R85 has no use for its run-out length, which the model makes
0 (log entry 63). -/
def inPlaceExit (rate : Int) : ExitRecord :=
  ⟨.inPlace, rate, 0, none, none⟩

/-- The effect of an EXIT order on a working head, by the head's state, once the mark and the order are set and
the records behind the executing one are removed (R20, R85). The v_h of a head that leaves TRAVERSE between sets
stands in its trim record until the next set makes it absent: the model's choice (R94, R99, log entry 48). -/
def State.exitFrom (s : State) (h : HeadId) (kind : ExitKind) : State :=
  let x := s.head h
  let rate := x.profile.depth.retractRate
  match x.seq.state with
  | .waiting => s.stopHead h
  | .spinup => s.stopHead h
  | .plunge => s.enterExit h .retract (inPlaceExit rate)
  | .dwell => s.enterExit h .retract (inPlaceExit rate)
  | .traverse =>
    match kind with
    | .inPlace => (s.carryLastSet h).enterExit h .brake (inPlaceExit rate)
    | .runOut =>
      (s.carryLastSet h).enterExit h .runout
        ⟨.runOut, rate, x.profile.limits.faultRunOut, some x.seq.station, some (s.prevDemand h)⟩
  | .exit => s
  | .spindown => s
  | .withdraw => s
  | .idle => s
  | .finished => s
  | .stopped => s

/-- Whether an EXIT order has an effect on a head: the head is working, is not in WITHDRAW and holds no order
yet (R19, R20). -/
def Head.takesExit (x : Head) : Bool :=
  x.seq.state.working && decide (x.seq.state ≠ .withdraw) && decide (x.seq.order = .none)

/-- An EXIT order to one head (R20). -/
def State.exitOrder (s : State) (h : HeadId) (kind : ExitKind) : State :=
  if (s.head h).takesExit then
    let s := s.modSeq h fun q => { q with order := .exit, faultExit := true }
    (s.dropPending h).exitFrom h kind
  else s

/-- An EXIT order carried to the other pass head of a linked pass, as EXIT IN_PLACE (R21). -/
def State.carryExit (s : State) (h : HeadId) : State :=
  if s.pass.linked && s.isPassHead h.other then s.exitOrder h.other .inPlace else s

/-- An EXIT order from any source but PASS ABORT, taken while a pass is active and carried when the pass is
linked (R19, R21). -/
def State.exitAndCarry (s : State) (h : HeadId) (kind : ExitKind) : State :=
  if s.active then (s.exitOrder h kind).carryExit h else s

/-- The EXIT orders of a gantry guard: one to each pass head, each with the exit kind of its own profile, before
any of them is carried (R19, R21, R123). -/
def State.exitEach (s : State) : State :=
  if s.active then
    let hs := s.pass.heads.members
    let s := hs.foldl (fun s h => s.exitOrder h (s.head h).profile.limits.faultExit) s
    hs.foldl (fun s h => s.carryExit h) s
  else s

/-! ## HALT -/

/-- The X mode becomes QUICKSTOP, the X command 0 and commanded X is reseeded; a second HALT changes nothing in
the planner (R66). The next output set formed carries QUICKSTOP, even where the pass ends before it is formed (log
entry 45). -/
def State.quickStopX (s : State) : State :=
  let s := { s with halted := true }
  if s.planner.xMode = .quickstop then s
  else ({ s with planner := { s.planner with xMode := .quickstop, xCommand := 0 } } : State).reseed

/-- The planner stops the bridge, and READY becomes FAULT (R24, R66). -/
def State.quickStop (s : State) : State :=
  let s := s.quickStopX
  if s.service.mode = .ready then { s with service := { s.service with mode := .fault } } else s

/-- A head acted on by a HALT enters WITHDRAW from the seam, with its spindle held turning (R22, R90). Where the HALT comes
between two sets (the commands HEAD_STALE, X_STALE, RING_LOST and HOLD_WINDOW_REACHED), the v_h of a head that leaves
TRAVERSE stands in its trim record until the next set makes it absent: the model's choice (R94, R99, log entry 48). -/
def State.enterWithdraw (s : State) (h : HeadId) : State :=
  let s := if s.headState h = .traverse then s.carryLastSet h else s
  (s.dropPending h).modHead h fun x =>
    { x with
      seq := { x.seq with state := .withdraw }
      reg := { x.reg with withdraw := .rising, satRun := 0 } }

/-- A HALT acts on one head (R22). -/
def State.haltHead (s : State) (h : HeadId) : State :=
  let x := s.head h
  if x.seq.order = .withdraw then s
  else
    let s := s.modSeq h fun q => { q with order := .withdraw }
    if x.inSeam then s.enterWithdraw h
    else if x.seq.state.working && decide (x.seq.state ≠ .withdraw) then s.stopHead h
    else s

/-- A head HALT: it acts on the head it names, and on the other pass head when the pass is linked; in an
unlinked pass a working survivor is held with cause HALT (R22 to R24). -/
def State.headHalt (s : State) (h : HeadId) : State :=
  if s.active then
    let s := s.quickStop.haltHead h
    if s.pass.linked then
      if s.isPassHead h.other then s.haltHead h.other else s
    else
      let o := s.headState h.other
      if s.isPassHead h.other && o.working && decide (o ≠ .withdraw) then s.holdOrder .halt else s
  else s

/-- A HALT all: it acts on every pass head (R22, R24). -/
def State.haltAll (s : State) : State :=
  if s.active then s.pass.heads.members.foldl (fun s h => s.haltHead h) s.quickStop else s

end Sys2Proof.Machine
end

