-- ==== Sys2Proof/Machine/Sequencer.lean ====
section
/-! DEFINITION. The head sequencer at work: records becoming executing, completing and starving (Chapter 2), the
spin-up and the spin-down (Chapter 1), and the hold timer (Chapter 7). Each event the table of steps lists stands
here twice: whether it is due on the state as it stands, and what it does. -/

namespace Sys2Proof.Machine

/-! ## Records -/

/-- The kind of a segment record. -/
def Segment.kind : Segment → SegKind
  | .start _ _ _ _ => .start
  | .dwell _ _ => .dwell
  | .traverse _ _ _ _ _ _ => .traverse
  | .exit _ _ _ _ => .exit

/-- Whether a record is an EXIT that carries LAST. -/
def Segment.isLast : Segment → Bool
  | .exit last _ _ _ => last
  | .start _ _ _ _ => false
  | .dwell _ _ => false
  | .traverse _ _ _ _ _ _ => false

/-- The end station of the executing record (R34). -/
def Sequencer.endStation (q : Sequencer) : Int :=
  match q.executingRecord with
  | some (.start station _ _ _) => station
  | some (.traverse reps length _ _ _ _) => q.progress.s0 + reps * length
  | some (.dwell _ _) => q.progress.s0
  | some (.exit _ _ _ _) => q.progress.s0
  | none => q.progress.s0

/-- The executing record completes and leaves the queue (R26, R37). -/
def State.completeRecord (s : State) (h : HeadId) : State :=
  match (s.head h).seq.queue with
  | [] => s
  | r :: rest =>
    let s := s.modSeq h fun q => { q with queue := rest, lastKind := some r.kind }
    s.raise .segmentDone (packDetail h.code r.kind.code)

/-- QUEUE_LOW is raised for a record that becomes executing without a successor, unless it is an EXIT that
carries LAST (R36). -/
def State.raiseQueueLow (s : State) (h : HeadId) (r : Segment) : State :=
  if (s.head h).seq.successor.isNone && !r.isLast then s.raise .queueLow (packDetail h.code 0) else s

/-! ## Repetitions of a TRAVERSE -/

/-- The head station has reached the end of the current repetition of an executing TRAVERSE (R40). -/
def State.repetitionEndDue (s : State) (h : HeadId) : Bool :=
  let q := (s.head h).seq
  match q.state, q.executingRecord with
  | .traverse, some (.traverse _ length _ _ _ _) =>
    !q.progress.endReached && decide (q.progress.s0 + (q.progress.repsDone + 1) * length ≤ q.station)
  | _, _ => false

/-- One repetition ends: repetitions done rises by 1, the carried set takes v1, and the end is reached when the
record's repetitions are done (R40). -/
def State.countRepetition (s : State) (h : HeadId) : State :=
  s.modSeq h fun q =>
    match q.executingRecord with
    | some (.traverse reps _ _ _ _ _) =>
      { q with
        carried := q.progress.v1
        progress := { q.progress with
          repsDone := q.progress.repsDone + 1
          endReached := decide (reps ≤ q.progress.repsDone + 1) } }
    | _ => q

/-- The comparison made again and again on one set: several repetitions may end on it (R40). -/
def repetitionLoop : Nat → HeadId → State → State
  | 0, _, s => s
  | n + 1, h, s => if s.repetitionEndDue h then repetitionLoop n h (s.countRepetition h) else s

/-- The repetition ends of one set (R40). -/
def State.countRepetitions (s : State) (h : HeadId) : State :=
  match (s.head h).seq.executingRecord with
  | some (.traverse reps _ _ _ _ _) => repetitionLoop reps h s
  | _ => s

/-! ## A record becomes executing -/

/-- The parameters of an exit entered from its record, and its first phase (R16, R85). -/
def State.enterExitRecord (s : State) (h : HeadId) (kind : ExitKind) (rate runOut : Int) : State :=
  let x := s.head h
  let rate := if rate = 0 then x.profile.depth.retractRate else rate
  if kind = .runOut ∧ x.seq.carried.speed ≠ 0 then
    s.enterExit h .runout ⟨.runOut, rate, runOut, some x.seq.station, some (s.prevDemand h)⟩
  else s.enterExit h .brake (inPlaceExit rate)

/-- A START becomes executing: its own plunge station, and the carried set of R35 with the plunge depth limited
to the Dmax in force. -/
def State.startStart (s : State) (h : HeadId) (station rpm force depth : Int) : State :=
  let dMax := (s.head h).profile.depth.dMax
  s.modSeq h fun q =>
    { q with
      executing := true
      progress := { Progress.cleared with s0 := station }
      carried := ⟨force, 0, rpm, min depth dMax⟩ }

/-- A DWELL becomes executing with its dwell sets remaining; a count of 0 reaches its end at once (R35, R39). -/
def State.startDwell (s : State) (h : HeadId) (s0 : Int) (ms : Nat) (force : Int) : State :=
  let n := ceilDiv (ms * 1000) s.gantry.tc
  s.modSeq h fun q =>
    { q with
      state := .dwell
      executing := true
      progress := { Progress.cleared with s0 := s0, dwellLeft := n, endReached := decide (n = 0) }
      carried := { q.carried with force := force } }

/-- The progress record of a TRAVERSE that becomes executing: v0 from the carried set, a speed of 0 replaced by the
end speed, and v1 from the record (R40). -/
def State.fillTraverse (s : State) (h : HeadId) (s0 : Int) (v1 : SegValues) : State :=
  s.modSeq h fun q =>
    { q with
      state := .traverse
      executing := true
      progress := { Progress.cleared with
        s0 := s0
        v0 := { q.carried with speed := if q.carried.speed = 0 then v1.speed else q.carried.speed }
        v1 := v1 } }

/-- A short TRAVERSE reaches its end on the set on which it becomes executing, and SHORT_SEGMENT is raised
(R42). -/
def State.endShort (s : State) (h : HeadId) (reps : Nat) (v1 : SegValues) : State :=
  let s := s.modSeq h fun q =>
    { q with carried := v1, progress := { q.progress with repsDone := reps, endReached := true } }
  s.raise .shortSegment (packDetail h.code 0)

/-- A TRAVERSE becomes executing (R40). One whose station lies at or beyond its end is short (R42); otherwise its
repetitions are counted on the same set. -/
def State.startTraverse (s : State) (h : HeadId) (s0 : Int) (reps : Nat) (length : Int) (v1 : SegValues) :
    State :=
  let s := s.fillTraverse h s0 v1
  if s0 + reps * length ≤ (s.head h).seq.station then s.endShort h reps v1
  else s.countRepetitions h

/-- The record at index 0 becomes executing, with the end station of the record before it as the s0 of a DWELL
or TRAVERSE (R34 to R36). The head enters the state of the record's kind; a START's head is WAITING already. -/
def State.startRecord (s : State) (h : HeadId) (prevEnd : Int) : State :=
  match (s.head h).seq.queue with
  | [] => s
  | r :: _ =>
    let s := match r with
      | .start station rpm force depth => s.startStart h station rpm force depth
      | .dwell ms force => s.startDwell h prevEnd ms force
      | .traverse reps length force speed rpm depth =>
        s.startTraverse h prevEnd reps length ⟨force, speed, rpm, depth⟩
      | .exit _ kind rate runOut =>
        let s := s.modSeq h fun q => { q with executing := true, progress := .cleared }
        s.enterExitRecord h kind rate runOut
    s.raiseQueueLow h r

/-! ## The end of a record -/

/-- A head starves: the starved field is set and QUEUE_STARVED is raised (R45). -/
def State.starve (s : State) (h : HeadId) : State :=
  let s := s.modProgress h fun p => { p with starved := true }
  s.raise .queueStarved (packDetail h.code 0)

/-- A TRAVERSE at its end followed by a DWELL waits for the X command of the latest output set to be 0 (R41,
R56). -/
def State.waitsForRest (s : State) (h : HeadId) (next : Segment) : Bool :=
  match (s.head h).seq.executingRecord, next with
  | some (.traverse _ _ _ _ _ _), .dwell _ _ => decide (s.ring.output.xSpeed ≠ 0)
  | _, _ => false

/-- The executing record is at its end: it starves, waits, or completes into its successor, and so on through
the queue while the records passed through are at their end at once (R37, R41, R43, R45). -/
def finishRecord : Nat → HeadId → State → State
  | 0, _, s => s
  | n + 1, h, s =>
    match (s.head h).seq.successor with
    | none => s.starve h
    | some next =>
      if s.waitsForRest h next then s
      else
        let s := (s.completeRecord h).startRecord h (s.head h).seq.endStation
        if (s.head h).seq.progress.endReached then finishRecord n h s else s

/-- The run through the queue on one set; it passes through at most the records the queue holds (R43). -/
def State.finishExecuting (s : State) (h : HeadId) : State :=
  finishRecord ((s.head h).seq.queue.length + 1) h s

/-! ## Events of the records -/

/-- The dwell count of an executing DWELL is 0 and its end has not been taken (R39). -/
def State.dwellEndDue (s : State) (h : HeadId) : Bool :=
  let q := (s.head h).seq
  match q.state, q.executingRecord with
  | .dwell, some (.dwell _ _) => decide (q.progress.dwellLeft = 0) && !q.progress.endReached
  | _, _ => false

/-- DWELL_END (R39). -/
def State.dwellEnd (s : State) (h : HeadId) : State :=
  if s.dwellEndDue h then (s.modProgress h fun p => { p with endReached := true }).finishExecuting h else s

/-- REPETITION_END: one repetition ends, and where it is the last the record reaches its end (R40, R41). -/
def State.repetitionEnd (s : State) (h : HeadId) : State :=
  if s.repetitionEndDue h then
    let s := s.countRepetition h
    if (s.head h).seq.progress.endReached then s.finishExecuting h else s
  else s

/-- A TRAVERSE at its end, not starved, whose successor is a DWELL finds the X command of the latest output set 0
(R41, R56). -/
def State.atRestDue (s : State) (h : HeadId) : Bool :=
  let q := (s.head h).seq
  match q.state, q.executingRecord, q.successor with
  | .traverse, some (.traverse _ _ _ _ _ _), some (.dwell _ _) =>
    q.progress.endReached && !q.progress.starved && decide (s.ring.output.xSpeed = 0)
  | _, _, _ => false

/-- TRAVERSE_COMPLETES_AT_REST (R41). -/
def State.completeAtRest (s : State) (h : HeadId) : State :=
  if s.atRestDue h then s.finishExecuting h else s

/-- A starved head in PLUNGE, DWELL or TRAVERSE has a successor in its queue (R31, R45). -/
def State.starvationEndDue (s : State) (h : HeadId) : Bool :=
  let q := (s.head h).seq
  (decide (q.state = .plunge) || decide (q.state = .dwell) || decide (q.state = .traverse)) &&
    q.executing && q.progress.starved && q.successor.isSome

/-- STARVATION_END: the starved field is cleared and the record completes as it would have done at its end
(R45). -/
def State.starvationEnd (s : State) (h : HeadId) : State :=
  if s.starvationEndDue h then (s.modProgress h fun p => { p with starved := false }).finishExecuting h else s

/-- A WAITING head without an executing record has a START at index 0 of its queue (R31, R46). -/
def State.appendedStartDue (s : State) (h : HeadId) : Bool :=
  let q := (s.head h).seq
  match q.queue.head? with
  | some (.start _ _ _ _) => decide (q.state = .waiting) && !q.executing
  | _ => false

/-- APPENDED_START_TAKEN (R46). -/
def State.takeAppendedStart (s : State) (h : HeadId) : State :=
  if s.appendedStartDue h then s.startRecord h 0 else s

/-! ## Spin-up and spin-down -/

/-- A WAITING head with an executing START meets the three conditions of R14. -/
def State.spinupStartDue (s : State) (h : HeadId) : Bool :=
  match s.plungeX h with
  | some x =>
    decide (s.headState h = .waiting) && decide (s.pass.state = .running) &&
      decide (mag (x - s.planner.measuredX) ≤ s.gantry.arrivalTol) && decide (s.ring.output.xSpeed = 0)
  | none => false

/-- SPINUP_START: both counters become 0 and the spindle command becomes the carried rpm (R14, R15). -/
def State.startSpinup (s : State) (h : HeadId) : State :=
  if s.spinupStartDue h then
    let s := (s.park h .spinup).modSeq h fun q => { q with atSpeedCount := 0, spinupTimer := 0 }
    s.modHead h fun x => { x with trim := { x.trim with spindle := x.seq.carried.rpm } }
  else s

/-- The at-speed counter of a head in SPINUP has reached 3 (R15). -/
def State.atSpeedDue (s : State) (h : HeadId) : Bool :=
  let q := (s.head h).seq
  decide (q.state = .spinup) && decide (3 ≤ q.atSpeedCount)

/-- AT_SPEED: the head enters PLUNGE in its DESCENT phase (R15, R81). -/
def State.atSpeed (s : State) (h : HeadId) : State :=
  if s.atSpeedDue h then
    s.modHead h fun x =>
      { x with seq := { x.seq with state := .plunge }, reg := { x.reg with plungePhase := .descent } }
  else s

/-- A head in SPINDOWN has its spindle below 30 rpm (R17). -/
def State.spindownEndDue (s : State) (h : HeadId) : Bool :=
  decide (s.headState h = .spindown) && decide (s.input h .spindle < 30)

/-- The head goes on after a non-last exit: WAITING, with the record behind the EXIT executing, or with none and
QUEUE_STARVED raised (R17, R44, R46). -/
def State.waitAgain (s : State) (h : HeadId) : State :=
  let s := (s.park h .waiting).dropExecuting h
  if (s.head h).seq.queue.isEmpty then s.raise .queueStarved (packDetail h.code 0) else s.startRecord h 0

/-- SPINDOWN_END: an executing EXIT record completes; the head enters STOPPED under the fault-exit mark, FINISHED
after a LAST exit, and WAITING otherwise (R17, R44). The pass-end test follows (R12). -/
def State.spindownEnd (s : State) (h : HeadId) : State :=
  if s.spindownEndDue h then
    let q := (s.head h).seq
    match q.executingRecord with
    | some (.exit last _ _ _) =>
      let s := s.completeRecord h
      (if q.faultExit then s.stopHead h else if last then s.finishHead h else s.waitAgain h).testPassEnd
    | _ => (if q.faultExit then s.stopHead h else s.waitAgain h).testPassEnd
  else s

/-! ## The sequencer's work on one set -/

/-- The spin-up of one set: the timer rises on every set, the at-speed counter is judged on accepted sets
(R15). -/
def State.workSpinup (s : State) (accepted : Bool) (h : HeadId) : State :=
  let s := s.modSeq h fun q => { q with spinupTimer := q.spinupTimer + 1 }
  if accepted then
    let near := decide (mag (s.input h .spindle - (s.head h).trim.spindle) ≤ (s.head h).profile.limits.atSpeedTol)
    let s := s.modSeq h fun q => { q with atSpeedCount := if near then q.atSpeedCount + 1 else 0 }
    s.atSpeed h
  else s

/-- The dwell of one set (R39). -/
def State.workDwell (s : State) (accepted : Bool) (h : HeadId) : State :=
  let p := (s.head h).seq.progress
  if p.endReached then (if accepted then s.starvationEnd h else s)
  else (s.modProgress h fun p => { p with dwellLeft := p.dwellLeft - 1 }).dwellEnd h

/-- The traverse of one set: repetitions are counted until the end is reached; a starved record waits for a
successor and an accepted set; one that waits for rest completes at an X command of 0; one whose successor has
been removed starves (R32, R40, R41, R45). The wait for rest is judged on every set, also for a DWELL that was
appended in place of a cancelled one with no set between (log entry 30). -/
def State.workTraverse (s : State) (accepted : Bool) (h : HeadId) : State :=
  let p := (s.head h).seq.progress
  if !p.endReached then
    let s := s.countRepetitions h
    if (s.head h).seq.progress.endReached then s.finishExecuting h else s
  else if p.starved then (if accepted then s.starvationEnd h else s)
  else
    match (s.head h).seq.successor with
    | none => s.starve h
    | some (.dwell _ _) => s.completeAtRest h
    | some _ => if accepted then s.finishExecuting h else s

/-- The hold timer counts the sets in which the tool stands in the seam with the bridge at rest (R128). It reads the
head's state as the sequencer has settled it, before the regulator works the set, so that a set on which the regulator
finds the plunge complete or starved leaves it 0: the model's choice (log entry 50). -/
def State.workHoldTimer (s : State) (h : HeadId) : State :=
  let x := s.head h
  let stands := match x.seq.state with
    | .traverse => true
    | .dwell => true
    | .plunge => x.seq.progress.starved
    | _ => false
  s.modSeq h fun q =>
    { q with holdTimer := if stands && decide (s.ring.output.xSpeed = 0) then countUp 65535 q.holdTimer else 0 }

/-- The work of one set by the state in which the set finds the head (R14 to R17, R31, R39 to R41). A head that enters
WAITING on a set, as its non-last spin-down ends, is tested for SPINUP from the next set on, although R14 names the
first set on which its conditions hold: the model's choice (log entry 54). A starved PLUNGE that has gained a successor
completes here, before the regulator works the set, which therefore regulates it at the values of the successor: the
model's choice (R45, R83, log entry 60). -/
def State.workState (s : State) (accepted : Bool) (h : HeadId) : State :=
  match s.headState h with
  | .waiting => s.startSpinup h
  | .spinup => s.workSpinup accepted h
  | .plunge => if accepted then s.starvationEnd h else s
  | .dwell => s.workDwell accepted h
  | .traverse => s.workTraverse accepted h
  | .spindown => if accepted then s.spindownEnd h else s
  | .exit => s
  | .withdraw => s
  | .idle => s
  | .finished => s
  | .stopped => s

/-- The head sequencer works one set. An appended START is taken and a starvation ends on accepted sets alone
(R31). -/
def State.workSequencer (s : State) (accepted : Bool) (h : HeadId) : State :=
  let s := if accepted then s.takeAppendedStart h else s
  (s.workState accepted h).workHoldTimer h

end Sys2Proof.Machine
end

