-- ==== Sys2Proof/Machine/Planner.lean ====
section
/-! DEFINITION. The traverse planner (Chapter 3): measured X, stations, the datum and the MARK line at the start
of a set; stop points, demand, target, ramp and X mode at its end. -/

namespace Sys2Proof.Machine

/-! ## The start of a set -/

/-- The station of a head at measured X, with the X0 and the head's X offset in force, limited to the signed 32-bit
range (R51). -/
def State.stationNow (s : State) (h : HeadId) : Int :=
  limit32 (s.planner.measuredX - s.pass.x0 + (s.head h).profile.trim.xOffset)

/-- The station of the set of each head (R51). -/
def State.formStation (s : State) (h : HeadId) : State :=
  let station := s.stationNow h
  s.modSeq h fun q => { q with station := station }

/-- Commanded X rises by the travel of the latest output set's command (R67). -/
def Planner.advance (p : Planner) (command : Int) (tc : Nat) : Planner :=
  { p with commandedX := p.commandedX + divZero (command * tc) 1000 }

/-- Measured X and skew from the gantry samples handed over, then the lag (R49, R67). -/
def Planner.measure (p : Planner) (left right : Int) : Planner :=
  let measured := divZero (left + right) 2
  { p with
    xLeft := left
    xRight := right
    measuredX := measured
    skew := left - right
    lag := divZero p.commandedX 1000 - measured }

/-- Measured X extrapolated in a coast set from the latest output set's command (R50). -/
def Planner.extrapolate (p : Planner) (command : Int) (tc : Nat) : Planner :=
  { p with measuredX := p.measuredX + divZero (command * tc) 1000000 }

/-- A filtered MARK edge sets the datum in a MARK approach without one (R52, R54). -/
def State.edgeSetsDatum (s : State) : Bool :=
  decide (s.pass.state = .approach) && decide (s.pass.datumMode = .mark) && !s.pass.datumValid

/-- The datum is set by an edge that sets it: X0 is measured X less the mark station (R54). -/
def State.setDatum (s : State) : State :=
  if s.edgeSetsDatum then
    { s with pass := { s.pass with x0 := s.planner.measuredX - s.gantry.markStation, datumValid := true } }
  else s

/-- A filtered MARK edge is taken: it may set the datum, it fills the latch record, and it raises DATUM_SET or
MARK_LATCH (R54, R55). -/
def State.takeMarkEdge (s : State) : State :=
  let sets := s.edgeSetsDatum
  let s := s.setDatum
  let x := s.planner.measuredX
  let station := if s.pass.datumValid then some (x - s.pass.x0) else none
  let count := countUp 255 s.planner.latchCount
  let s := { s with planner := { s.planner with latchCount := count, latch := some ⟨x, station, s.ring.setNumber⟩ } }
  s.raise (if sets then .datumSet else .markLatch) (detailNumber count)

/-- The mark filter counter reaches the mark filter value from below with one more asserted reading, and the line has
read negated since the latest edge, and since a write that brought the counter down (R53, R142). -/
def State.markEdgeDue (s : State) : Bool :=
  !s.planner.markHeld && decide (s.planner.markCount < s.gantry.markFilter) &&
    decide (s.gantry.markFilter ≤ s.planner.markCount + 1)

/-- FILTERED_MARK_EDGE: the counter reaches the filter value and the edge is taken; no further one is due until the
line has read negated (R53). -/
def State.markEdge (s : State) : State :=
  if s.markEdgeDue then
    ({ s with planner := { s.planner with markCount := s.gantry.markFilter, markHeld := true } } : State).takeMarkEdge
  else s

/-- The MARK line sampled on an accepted set: a negated reading clears the counter and frees the next edge, an asserted
one raises the counter, limited to the filter value (R53). Behind an edge, and behind a write that brought it down, the
counter stays at its value until a negated reading, also where a later write raises the filter above it (R53, R142, log
entry 55). -/
def State.sampleMark (s : State) : State :=
  if !s.lines.mark then { s with planner := { s.planner with markCount := 0, markHeld := false } }
  else if s.planner.markHeld then s
  else if s.markEdgeDue then s.markEdge
  else { s with planner := { s.planner with markCount := countUp s.gantry.markFilter s.planner.markCount } }

/-- Commanded X, measured X, skew and lag at the start of a set: measured on an accepted set, extrapolated on a
coast set (R49, R50, R67). -/
def State.followX (s : State) (accepted : Bool) : State :=
  let command := s.ring.output.xSpeed
  let p := s.planner.advance command s.gantry.tc
  let p := if accepted then p.measure (s.ring.handed.getD 14 0) (s.ring.handed.getD 15 0)
    else p.extrapolate command s.gantry.tc
  { s with planner := p }

/-- The reseeds at the start of a set: while no pass is active, and on accepted sets under QUICKSTOP (R68). Whether a
pass is active is judged as the set begins, so the set on which a pass ends is not reseeded by the first of the two:
the model's choice (log entry 57). -/
def State.reseedStart (s : State) (accepted : Bool) : State :=
  if !s.active || (accepted && decide (s.planner.xMode = .quickstop)) then s.reseed else s

/-- The planner's work at the start of a set, before the other blocks work it: commanded X, measured X, skew,
lag, the reseeds of R68, the MARK line and the stations (R49 to R56, R67 to R69). The MARK line is sampled before the
stations are formed, so those of the set that sets the datum use the new X0: the model's choice (log entry 47). -/
def State.beginPlanner (s : State) (accepted : Bool) : State :=
  let s := (s.followX accepted).reseedStart accepted
  let s := if accepted then s.sampleMark else s
  (s.formStation .a).formStation .b

/-! ## Stop points and demand -/

/-- The stop-point entry of one head (R58). -/
def State.stopPoint (s : State) (h : HeadId) : Option StopPoint :=
  let q := (s.head h).seq
  match q.state with
  | .waiting =>
    match s.plungeX h with
    | some x => some ⟨h, .plunge, x⟩
    | none => none
  | .traverse =>
    match q.executingRecord, q.successor with
    | some (.traverse _ _ _ _ _ _), some (.traverse _ _ _ _ _ _) => none
    | some (.traverse _ _ _ _ _ _), some (.exit _ .runOut _ _) => none
    | some (.traverse _ _ _ _ _ _), some (.start _ _ _ _) => none
    | some (.traverse _ _ _ _ _ _), _ => some ⟨h, .endOfRecord, s.xOfStation h q.endStation⟩
    | _, _ => none
  | _ => none

/-- The stop-point set, rebuilt on every set of a RUNNING or HELD pass and empty otherwise (R58). -/
def State.formStopPoints (s : State) : List StopPoint :=
  match s.pass.state with
  | .running => s.pass.heads.members.filterMap s.stopPoint
  | .held => s.pass.heads.members.filterMap s.stopPoint
  | _ => []

/-- A pass head that holds the X demand at 0 (R59). -/
def Head.holdsX (x : Head) : Bool :=
  match x.seq.state with
  | .spinup => true
  | .plunge => true
  | .dwell => true
  | .withdraw => true
  | .exit =>
    match x.seq.progress.exitPhase with
    | some .brake => true
    | some .retract =>
      match x.reg.exitRecord with
      | some r => decide (r.kind = .inPlace)
      | none => false
    | _ => false
  | _ => false

/-- The speed a moving head asks of the bridge, absent for a head that is not moving (R60). -/
def Head.askedSpeed (x : Head) : Option Int :=
  match x.seq.state with
  | .traverse => x.trim.vh
  | .exit =>
    if x.seq.progress.exitPhase = some .runout ∧ 0 < x.reg.demand then some x.seq.carried.speed else none
  | _ => none

/-- The least of a list of numbers, if it has one. -/
def least : List Int → Option Int
  | [] => none
  | x :: xs =>
    match least xs with
    | none => some x
    | some y => some (min x y)

/-- A WAITING head's PLUNGE entry lies ahead of the bridge by more than the arrival tolerance (R60). -/
def State.plungeAhead (s : State) (points : List StopPoint) : Bool :=
  points.any fun p =>
    decide (p.cause = .plunge) && decide (s.planner.measuredX + s.gantry.arrivalTol < p.x)

/-- The X demand (R59 to R61). -/
def State.formDemand (s : State) (points : List StopPoint) : Int :=
  let heads := s.pass.heads.members
  match s.pass.state with
  | .running =>
    if heads.any fun h => (s.head h).holdsX then 0
    else
      match least (heads.filterMap fun h => (s.head h).askedSpeed) with
      | some v => v
      | none => if s.plungeAhead points then s.gantry.approachSpeed else 0
  | .approach =>
    if s.pass.holdCause = .none ∧ ¬ (heads.all fun h => decide (s.headState h = .stopped)) then
      s.gantry.approachSpeed
    else 0
  | _ => 0

/-! ## Braking, target and ramp -/

/-- The braking speed at a distance `d` (R62). -/
def brakingSpeed (dec d : Int) : Int :=
  if d ≤ 0 then 0 else (isqrt (2 * dec * d).toNat : Int)

/-- The target speed of a RUNNING or HELD pass (R62). -/
def State.brakedTarget (s : State) (points : List StopPoint) (demand : Int) : Int :=
  let cap := min demand s.gantry.xMax
  match least (points.map fun p => p.x - s.planner.measuredX) with
  | none => cap
  | some d => min cap (brakingSpeed s.gantry.dec d)

/-- The target speed of an APPROACH (R63). -/
def State.approachTarget (s : State) (demand : Int) : Int :=
  let d := s.pass.approachX - s.planner.measuredX
  if mag d ≤ s.gantry.arrivalTol then 0
  else
    let v := min (min demand (brakingSpeed s.gantry.dec (mag d))) s.gantry.xMax
    if d < 0 then -v else v

/-- The target speed of the set (R61 to R63). -/
def State.formTarget (s : State) (points : List StopPoint) (demand : Int) : Int :=
  match s.pass.state with
  | .running => s.brakedTarget points demand
  | .held => s.brakedTarget points demand
  | .approach => s.approachTarget demand
  | _ => 0

/-- A ramp step: the rate times the cycle period, rounded toward zero and raised to 1 where it would be 0
(R64). -/
def rampStep (rate : Int) (tc : Nat) : Int :=
  let v := divZero (rate * tc) 1000000
  if v = 0 then 1 else v

/-- The ramp from one command toward a target (R64). -/
def ramp (acc dec prev target : Int) : Int :=
  if prev = target then prev
  else if 0 ≤ prev ∧ 0 ≤ target then
    prev + limit (-dec) acc (target - prev)
  else if prev ≤ 0 ∧ target ≤ 0 then
    prev + limit (-acc) dec (target - prev)
  else if 0 < prev then max (prev - dec) 0
  else min (prev + dec) 0

/-- The X speed command of the output set: 0 while the X mode is QUICKSTOP, otherwise by the ramp (R64, R66). -/
def State.formCommand (s : State) (points : List StopPoint) (demand : Int) : Int :=
  if s.planner.xMode = .quickstop then 0
  else
    ramp (rampStep s.gantry.acc s.gantry.tc) (rampStep s.gantry.dec s.gantry.tc) s.planner.xCommand
      (s.formTarget points demand)

/-- The X mode formed after the command (R65). -/
def XMode.after (m : XMode) (command : Int) : XMode :=
  if m = .quickstop then .quickstop else if command = 0 then .still else .move

/-- The planner's work at the end of a set, from the states that the set leaves: stop points, demand, command and
X mode, and the pass-end test when the command becomes 0 (R12, R56 to R66). -/
def State.endPlanner (s : State) : State :=
  let points := s.formStopPoints
  let demand := s.formDemand points
  let before := s.planner.xCommand
  let command := s.formCommand points demand
  let s := { s with planner := { s.planner with
    stopPoints := points
    xDemand := demand
    xCommand := command
    xMode := s.planner.xMode.after command } }
  if before ≠ 0 ∧ command = 0 then s.testPassEnd else s

end Sys2Proof.Machine
end

