-- ==== Sys2Proof/Machine/Maps.lean ====
section
/-! DEFINITION. The compensation map (Chapter 6): the lookup, the fence, and the tests and effects of writing
points and the header. -/

namespace Sys2Proof.Machine

/-! ## The lookup -/

/-- One value interpolated between two points, its quotient rounded to nearest with halves away from zero
(R104). -/
def interpolate (v0 v1 s0 s1 s : Int) : Int :=
  v0 + divNear ((v1 - v0) * (s - s0)) (s1 - s0)

/-- The lookup at a station at or above the station of point `p`, the rest of the points following it (R104). -/
def lookupFrom (s : Int) : MapPoint → List MapPoint → Int × Int
  | p, [] => (p.kf, p.dz)
  | p, q :: rest =>
    if q.station ≤ s then lookupFrom s q rest
    else (interpolate p.kf q.kf p.station q.station s, interpolate p.dz q.dz p.station q.station s)

/-- The lookup at a station: kf and dz (R104). -/
def lookup (points : List MapPoint) (s : Int) : Int × Int :=
  match points with
  | [] => (1000, 0)
  | p :: rest => if s ≤ p.station then (p.kf, p.dz) else lookupFrom s p rest

/-! ## The fence -/

/-- The head states in which a head holds a fence (R106). -/
def HeadState.fenced : HeadState → Bool
  | .spinup => true
  | .plunge => true
  | .dwell => true
  | .traverse => true
  | .exit => true
  | .idle => false
  | .waiting => false
  | .spindown => false
  | .withdraw => false
  | .finished => false
  | .stopped => false

/-- The fence station of a head is formed from the state and the station of the set (R106). Between two sets it stands
as the latest set left it, also for a head that a request has stopped meanwhile (R105, R106, log entry 49). -/
def State.formFence (s : State) (h : HeadId) : State :=
  let q := (s.head h).seq
  let fence := if q.state.fenced then some (limit32 (q.station + s.gantry.fenceMargin)) else none
  s.modMap h fun m => { m with fence := fence }

/-- A write that would change point `k` passes the fence test against the points as they stand (R107). -/
def passesFence (fence : Option Int) (points : List MapPoint) (k : Nat) : Bool :=
  match fence with
  | none => true
  | some f =>
    match k with
    | 0 => false
    | j + 1 =>
      match points[j]? with
      | some p => decide (f ≤ p.station)
      | none => false

/-- A write refused with FENCE raises MAP_FENCE and adds 1 to the fence refusal count (R108). -/
def State.refuseFence (s : State) (h : HeadId) (k : Nat) : State :=
  let s := s.modMap h fun m => { m with refusals := countUp 65535 m.refusals }
  s.raise .mapFence (packDetail k h.code)

/-! ## Writing points -/

/-- The order test of a point written at `k` (R110). -/
def keepsOrder (points : List MapPoint) (k : Nat) (p : MapPoint) : Bool :=
  let above := match k with
    | 0 => true
    | j + 1 =>
      match points[j]? with
      | some q => decide (q.station < p.station)
      | none => true
  let below := match points[k + 1]? with
    | some q => decide (p.station < q.station)
    | none => true
  above && below

/-- The ranges of a map point (R103, R109). -/
def MapPoint.inRange (p : MapPoint) : Bool :=
  decide (500 ≤ p.kf) && decide (p.kf ≤ 1500) && decide (-2000 ≤ p.dz) && decide (p.dz ≤ 2000)

/-- Checks 2 to 5 of R109 for a point written at index `k`; `done` when all pass. -/
def checkPoint (fence : Option Int) (points : List MapPoint) (k : Nat) (p : MapPoint) : ReplyCode :=
  if k = 128 ∧ points.length = 128 then .full
  else if points.length < k ∨ 128 ≤ k then .index
  else if !p.inRange then .value
  else if !keepsOrder points k p then .value
  else if !passesFence fence points k then .fence
  else .done

/-- The points after a point has been written at an index at most the count (R109). -/
def putPoint (points : List MapPoint) (k : Nat) (p : MapPoint) : List MapPoint :=
  if k < points.length then points.set k p else points ++ [p]

/-- A stream of points tested in stream order, each against the points the ones before it would leave (R112):
the points after all of them, or the position of the first that fails and its code. -/
def checkPoints (fence : Option Int) : List MapPoint → Nat → Nat → List MapPoint → List MapPoint ⊕ (Nat × ReplyCode)
  | [], _, _, points => .inl points
  | p :: rest, pos, k, points =>
    match checkPoint fence points k p with
    | .done => checkPoints fence rest (pos + 1) (k + 1) (putPoint points k p)
    | c => .inr (pos, c)

/-- A compensation map holds at most 128 points, and their stations strictly increase with index (R103). -/
def CompMap.ordered (m : CompMap) : Prop :=
  m.points.length ≤ 128 ∧ m.points.Pairwise fun p q => p.station < q.station

end Sys2Proof.Machine
end

