-- ==== Sys2Proof/Machine/Regulator.lean ====
section
/-! DEFINITION. The force regulator (Chapter 4): targets, the regulation, the plunge, the exit phases, the
withdrawal and the coast set. Each event the table of steps lists stands here twice: whether it is due on the
state as it stands, and what it does. -/

namespace Sys2Proof.Machine

/-! ## Targets -/

/-- One value interpolated along a repetition, the offset limited to 0 to L, the quotient toward zero (R73). -/
def alongRepetition (v0 v1 offset length : Int) : Int :=
  v0 + divZero ((v1 - v0) * offset) length

/-- The segment values of a head in TRAVERSE whose end is not reached (R73). -/
def Sequencer.interpolated (q : Sequencer) (length : Int) : SegValues :=
  let p := q.progress
  let offset := limit 0 length (q.station - (p.s0 + p.repsDone * length))
  { force := alongRepetition p.v0.force p.v1.force offset length
    speed := alongRepetition p.v0.speed p.v1.speed offset length
    rpm := alongRepetition p.v0.rpm p.v1.rpm offset length
    depth := alongRepetition p.v0.depth p.v1.depth offset length }

/-- The segment values of a set in which targets are formed, from the state the set leaves (R72). -/
def Sequencer.segmentValues (q : Sequencer) : SegValues :=
  match q.state, q.executingRecord with
  | .traverse, some (.traverse _ length _ _ _ _) =>
    if q.progress.endReached then q.progress.v1 else q.interpolated length
  | _, _ => q.carried

/-- The segment values, the force target and the nominal depth of the set (R72, R74, R105). -/
def State.formTargets (s : State) (h : HeadId) : State :=
  s.modHead h fun x =>
    let v := x.seq.segmentValues
    let (kf, dz) := lookup x.map.points x.seq.station
    { x with reg := { x.reg with
        segment := v
        target := limit 0 60000 (divZero (v.force * kf) 1000)
        nominal := v.depth + dz } }

/-! ## The regulation -/

/-- The deadband (R76). -/
def deadband (db e : Int) : Int :=
  if mag e ≤ db then 0 else if 0 < e then e - db else e + db

/-- The integral step after the test against the previous side (R77). -/
def integralStep (side : SatSide) (step : Int) : Int :=
  match side with
  | .high => if 0 < step then 0 else step
  | .low => if step < 0 then 0 else step
  | .none => step

/-- The stages of R75 to R80 on one regulator record, with the force sample, the cycle period, the depth demand
of the previous output set, and whether the head is in TRAVERSE. -/
def Regulator.regulate (r : Regulator) (p : HeadProfile) (tc : Nat) (sample prev : Int) (traversing : Bool) :
    Regulator :=
  let e := limit (-20000) 20000 (r.target - sample)
  let e' := deadband p.gains.deadband e
  let prop := divZero (e' * p.gains.kp) 1000
  let step := integralStep r.side (divZero (e' * p.gains.ki * tc) 1000000)
  let bound := p.gains.iClamp * 1000
  let acc := limit (-bound) bound (r.accumulator + step)
  let raw := r.nominal + prop + divZero acc 1000
  let clamped := limit p.depth.dMin p.depth.dMax raw
  let side := if p.depth.dMax < raw then SatSide.high else if raw < p.depth.dMin then .low else .none
  let move := limit (-p.depth.rMax) p.depth.rMax (clamped - prev)
  { r with
    error := e
    formedError := true
    accumulator := acc
    side := side
    satRun := if traversing ∧ side ≠ .none then countUp 65535 r.satRun else 0
    demand := prev + move
    rateLimited := decide (move ≠ clamped - prev) }

/-- The regulation of one accepted set (R74 to R80). -/
def State.regulate (s : State) (h : HeadId) : State :=
  let s := s.formTargets h
  s.modReg h fun r =>
    r.regulate (s.head h).profile s.gantry.tc (s.input h .force) (s.prevDemand h)
      (decide (s.headState h = .traverse))

/-- The depth demand of a set set to `d`. -/
def State.setDemand (s : State) (h : HeadId) (d : Int) : State :=
  s.modReg h fun r => { r with demand := d }

/-- A regulating head in a coast set: targets are formed, the stages are not run, D holds (R92). -/
def State.coastTargets (s : State) (h : HeadId) : State :=
  (s.formTargets h).setDemand h (s.prevDemand h)

/-! ## The plunge -/

/-- The descent limit (R81). -/
def Head.descentLimit (x : Head) : Int :=
  min x.seq.carried.depth x.profile.depth.dMax

/-- A head in DESCENT has its force at half the plunge force or above (R81). -/
def State.contactDue (s : State) (h : HeadId) : Bool :=
  let x := s.head h
  decide (x.seq.state = .plunge) && decide (x.reg.plungePhase = .descent) &&
    decide (divZero x.seq.carried.force 2 ≤ s.input h .force)

/-- CONTACT: the integral, the side and the seat counter are cleared and the plunge enters SEAT (R81). -/
def State.takeContact (s : State) (h : HeadId) : State :=
  if s.contactDue h then
    s.modReg h fun r => { r with accumulator := 0, side := .none, seatCount := 0, plungePhase := .seat }
  else s

/-- A DESCENT finds no contact with the demand of the previous output set at the descent limit (R82). -/
def State.noContactDue (s : State) (h : HeadId) : Bool :=
  let x := s.head h
  decide (x.seq.state = .plunge) && decide (x.reg.plungePhase = .descent) && !s.contactDue h &&
    decide (s.prevDemand h = x.descentLimit)

/-- The seat counter of a plunge that has not starved has reached the seat count (R83). -/
def State.seatCompleteDue (s : State) (h : HeadId) : Bool :=
  let x := s.head h
  decide (x.seq.state = .plunge) && decide (x.reg.plungePhase = .seat) && !x.seq.progress.starved &&
    decide (x.profile.gains.seatSets ≤ x.reg.seatCount)

/-- SEAT_COMPLETE: the plunge and its START complete, or the head starves in SEAT (R38, R45, R83). -/
def State.seatComplete (s : State) (h : HeadId) : State :=
  if s.seatCompleteDue h then s.finishExecuting h else s

/-- The seat counter judged on the error the regulation formed; a starved plunge keeps its counter (R83). -/
def State.judgeSeat (s : State) (h : HeadId) : State :=
  s.modHead h fun x =>
    if x.seq.progress.starved then x
    else
      let n := if mag x.reg.error ≤ x.profile.gains.seatBand then countUp x.profile.gains.seatSets x.reg.seatCount
        else 0
      { x with reg := { x.reg with seatCount := n } }

/-! ## Exits -/

/-- An EXIT in BRAKE finds the X command of the previous output set 0 (R86). -/
def State.brakeEndDue (s : State) (h : HeadId) : Bool :=
  decide ((s.head h).exitPhase = some .brake) && decide (s.ring.output.xSpeed = 0)

/-- A head's exit passes to RETRACT. -/
def State.enterRetract (s : State) (h : HeadId) : State :=
  s.modProgress h fun p => { p with exitPhase := some .retract }

/-- BRAKE_END (R86). -/
def State.brakeEnd (s : State) (h : HeadId) : State :=
  if s.brakeEndDue h then s.enterRetract h else s

/-- The run-out length in use (R85). -/
def Head.runOutLength (x : Head) : Int :=
  match x.reg.exitRecord with
  | some r => r.runOut
  | none => 0

/-- An EXIT in RUNOUT has a demand of 0 or less, has a run-out length of 0, or finds the X mode QUICKSTOP
(R87). -/
def State.runoutEndDue (s : State) (h : HeadId) : Bool :=
  let x := s.head h
  decide (x.exitPhase = some .runout) &&
    (decide (x.reg.demand ≤ 0) || decide (x.runOutLength = 0) || decide (s.planner.xMode = .quickstop))

/-- RUNOUT_END (R87). -/
def State.runoutEnd (s : State) (h : HeadId) : State :=
  if s.runoutEndDue h then s.enterRetract h else s

/-- The depth demand of a run-out at a station (R87). -/
def ExitRecord.runOutDemand (r : ExitRecord) (station prev : Int) : Int :=
  match r.startStation, r.startDepth with
  | some start, some depth =>
    if r.runOut = 0 then prev
    else min (divZero (depth * limit 0 r.runOut (r.runOut - (station - start))) r.runOut) prev
  | _, _ => prev

/-- The RUNOUT phase on an accepted set (R87). -/
def State.workRunout (s : State) (h : HeadId) : State :=
  let x := s.head h
  let d := match x.reg.exitRecord with
    | some r => r.runOutDemand x.seq.station (s.prevDemand h)
    | none => s.prevDemand h
  (s.setDemand h d).runoutEnd h

/-- The retract rate in use (R85). -/
def Head.retractRate (x : Head) : Int :=
  match x.reg.exitRecord with
  | some r => r.rate
  | none => x.profile.depth.retractRate

/-- One retract step (R88). -/
def State.retractStep (s : State) (h : HeadId) : State :=
  let x := s.head h
  s.setDemand h (max (s.prevDemand h - x.retractRate) x.profile.depth.clear)

/-- An EXIT in RETRACT finds the previous demand at the clear height and ZPOS within 500 µm of it (R88). -/
def State.retractEndDue (s : State) (h : HeadId) : Bool :=
  let x := s.head h
  let clear := x.profile.depth.clear
  decide (x.exitPhase = some .retract) && decide (s.prevDemand h = clear) &&
    decide (s.input h .zpos ≤ clear + 500)

/-- RETRACT_END: the head enters SPINDOWN and its regulator is cleared (R88). -/
def State.retractEnd (s : State) (h : HeadId) : State :=
  if s.retractEndDue h then s.park h .spindown else s

/-! ## Withdrawal -/

/-- A withdrawal in RISING has its demand at the clear height (R90). -/
def State.spinstopDue (s : State) (h : HeadId) : Bool :=
  let x := s.head h
  decide (x.seq.state = .withdraw) && decide (x.reg.withdraw = .rising) &&
    decide (x.reg.demand = x.profile.depth.clear)

/-- SPINSTOP: the phase becomes SPINSTOP and the spindle command 0 (R90). -/
def State.enterSpinstop (s : State) (h : HeadId) : State :=
  if s.spinstopDue h then
    s.modHead h fun x => { x with reg := { x.reg with withdraw := .spinstop }, trim := { x.trim with spindle := 0 } }
  else s

/-- One withdraw step (R90). -/
def State.withdrawStep (s : State) (h : HeadId) : State :=
  let x := s.head h
  (s.setDemand h (max (s.prevDemand h - x.profile.depth.withdrawRate) x.profile.depth.clear)).enterSpinstop h

/-- A withdrawal in SPINSTOP has its spindle below 30 rpm, or samples stale for the stale limit (R91). -/
def State.withdrawalEndDue (s : State) (h : HeadId) : Bool :=
  let x := s.head h
  decide (x.seq.state = .withdraw) && decide (x.reg.withdraw = .spinstop) &&
    (decide (s.input h .spindle < 30) || decide (x.profile.limits.staleLimit ≤ s.headStaleCount h))

/-- WITHDRAWAL_END: the head enters STOPPED, and the pass-end test follows (R12, R91). -/
def State.withdrawalEnd (s : State) (h : HeadId) : State :=
  if s.withdrawalEndDue h then (s.stopHead h).testPassEnd else s

/-! ## The regulator's work on one set -/

/-- The demand of a head in EXIT, WITHDRAW or a parked state: the ramps, which need no regulation (R71, R86 to R88,
R90, R92). A BRAKE that finds the X command of the previous output set 0 ends, with the first retract step, on this
set, be it the set on which it is entered (R16, R86, log entry 46); otherwise its demand stands (R123). In the other
states the demand stands. -/
def State.formRamp (s : State) (accepted : Bool) (h : HeadId) : State :=
  let x := s.head h
  match x.seq.state with
  | .exit =>
    match x.seq.progress.exitPhase with
    | some .runout => if accepted then s.workRunout h else s.setDemand h (s.prevDemand h)
    | some .retract => s.retractStep h
    | _ => if s.brakeEndDue h then (s.brakeEnd h).retractStep h else s
  | .withdraw =>
    match x.reg.withdraw with
    | .rising => s.withdrawStep h
    | .spinstop => s.setDemand h x.profile.depth.clear
  | .plunge => s
  | .dwell => s
  | .traverse => s
  | .idle => s.setDemand h x.profile.depth.clear
  | .waiting => s.setDemand h x.profile.depth.clear
  | .spinup => s.setDemand h x.profile.depth.clear
  | .spindown => s.setDemand h x.profile.depth.clear
  | .finished => s.setDemand h x.profile.depth.clear
  | .stopped => s.setDemand h x.profile.depth.clear

/-- The SEAT phase on an accepted set (R83). A plunge whose end runs through the queue into an EXIT has the demand of
the EXIT's first phase on this set, since R86 and R87 form it on the set of entry (R43, log entry 46). -/
def State.workSeat (s : State) (h : HeadId) : State :=
  let s := ((s.regulate h).judgeSeat h).seatComplete h
  if s.headState h = .exit then s.formRamp true h else s

/-- The DESCENT phase on an accepted set: the contact test first, then the step; a descent at its limit makes no
step, and NO_CONTACT is judged when both regulators have worked (R81, R82). -/
def State.workDescent (s : State) (h : HeadId) : State :=
  if s.contactDue h then (s.takeContact h).workSeat h
  else
    let x := s.head h
    let d := s.prevDemand h
    if d = x.descentLimit then s.setDemand h d
    else s.setDemand h (min (d + x.profile.depth.plungeRate) x.descentLimit)

/-- The regulation of a set, or its coast form (R74 to R80, R92). -/
def State.workRegulated (s : State) (accepted : Bool) (h : HeadId) : State :=
  if accepted then s.regulate h else s.coastTargets h

/-- The EXIT phases on one set (R86 to R88, R92). -/
def State.workExit (s : State) (accepted : Bool) (h : HeadId) : State :=
  match (s.head h).seq.progress.exitPhase with
  | some .runout => s.formRamp accepted h
  | some .retract => if accepted && s.retractEndDue h then s.retractEnd h else s.formRamp accepted h
  | _ => if s.brakeEndDue h then s.formRamp accepted h else s.workRegulated accepted h

/-- The regulator's work on one set by the head's state and phase (R71, R81 to R92). -/
def State.workPhase (s : State) (accepted : Bool) (h : HeadId) : State :=
  match s.headState h with
  | .plunge =>
    match (s.head h).reg.plungePhase with
    | .descent => if accepted then s.workDescent h else s.setDemand h (s.prevDemand h)
    | .seat => if accepted then s.workSeat h else s.coastTargets h
  | .dwell => s.workRegulated accepted h
  | .traverse => s.workRegulated accepted h
  | .exit => s.workExit accepted h
  | .withdraw =>
    match (s.head h).reg.withdraw with
    | .rising => s.formRamp accepted h
    | .spinstop =>
      if accepted then (s.formRamp accepted h).withdrawalEnd h else s.formRamp accepted h
  | .idle => s.formRamp accepted h
  | .waiting => s.formRamp accepted h
  | .spinup => s.formRamp accepted h
  | .spindown => s.formRamp accepted h
  | .finished => s.formRamp accepted h
  | .stopped => s.formRamp accepted h

/-- The force regulator works one set, after the head sequencer has settled the head's state for it (R71). -/
def State.workRegulator (s : State) (accepted : Bool) (h : HeadId) : State :=
  (s.modReg h fun r => { r with formedError := false }).workPhase accepted h

/-- What R123 compares: a head's state, exit phase and withdraw phase. -/
def Head.phaseKey (x : Head) : HeadState × Option ExitPhase :=
  (x.seq.state, x.exitPhase)

/-- The demand formed again for a head that an order has moved into a new state or phase on this set; a head
whose state and phase stand as `before` keeps the demand it has (R71, R123). Where R123 lets the demand of a BRAKE
stand and R86 ends the BRAKE on this very set, the model follows R86 (log entry 46). -/
def State.reformDemand (s : State) (accepted : Bool) (before : State) (h : HeadId) : State :=
  if (s.head h).phaseKey = (before.head h).phaseKey then s else s.formRamp accepted h

/-- The depth demand of a parked head is the clear height in force, and the Z mode follows the state that the
set leaves (R71). -/
def State.settleDemand (s : State) (h : HeadId) : State :=
  s.modHead h fun x =>
    { x with reg := { x.reg with
        demand := if x.seq.state.parked then x.profile.depth.clear else x.reg.demand
        zMode := x.seq.state.zMode } }

end Sys2Proof.Machine
end

