-- ==== Sys2Proof/Machine/Guards.lean ====
section
/-! DEFINITION. The guard unit (Chapter 7) and the causes of stop orders that other blocks find themselves: what
is due on the state as it stands, and what each cause does when it is taken. Causes found together are taken in
an order that the manual leaves open. -/

namespace Sys2Proof.Machine

/-! ## Causes -/

/-- A cause of a stop order or of a guard trip, with the value of R188 or R123 as it stood when it was found. -/
inductive Cause where
  | guard (index : Nat) (value : Int)
  | saturation (h : HeadId) (value : Int)
  | holdLimit (h : HeadId) (value : Int)
  | spinupTimeout (h : HeadId) (value : Int)
  | headStale (h : HeadId) (value : Int)
  | xStale (value : Int)
  | skew (value : Int)
  | xLag (value : Int)
  | stopLine
  | startMissed (h : HeadId) (value : Int)
  | noContact (h : HeadId) (value : Int)
  | ringLoss (value : Int)
  deriving DecidableEq, Repr

/-- The number by which a cause is ranked among those found together. -/
def Cause.item : Cause → Nat
  | .guard i _ => 100 + i
  | .saturation h _ => 10 + h.code
  | .holdLimit h _ => 12 + h.code
  | .spinupTimeout h _ => 14 + h.code
  | .headStale h _ => 16 + h.code
  | .xStale _ => 18
  | .skew _ => 19
  | .xLag _ => 20
  | .stopLine => 21
  | .startMissed h _ => 22 + h.code
  | .noContact h _ => 24 + h.code
  | .ringLoss _ => 26

/-- The free rank of a cause on the set being worked (R124, R187). -/
def State.rankOf (s : State) (c : Cause) : Nat :=
  Config.judgeRank s.ring.setNumber s.ring.coastCount c.item

/-- A cause put before the first that ranks above it. -/
def State.insertCause (s : State) (c : Cause) : List Cause → List Cause
  | [] => [c]
  | d :: ds => if s.rankOf c ≤ s.rankOf d then c :: d :: ds else d :: s.insertCause c ds

/-- Causes found together, in the order in which they are taken. -/
def State.orderCauses (s : State) : List Cause → List Cause
  | [] => []
  | c :: cs => s.insertCause c (s.orderCauses cs)

/-! ## Channels and results -/

/-- The value of a head channel on an accepted set, absent where the channel has none (R116). FORCE_ERROR has the e that
the regulator formed on the set, also where the head has left the regulated states and phases on that set before the
guards are judged: by a NO_CONTACT order that reaches it with the bridge at rest, or by a seat end that runs through the
queue into an exit which is no longer in BRAKE: the model's choice (R82, R83, R86, R116, log entry 68). -/
def State.headChannel (s : State) (h : HeadId) (c : Channel) : Option Int :=
  match c with
  | .force => some (s.input h .force)
  | .forceError => if (s.head h).reg.formedError then some (s.head h).reg.error else none
  | .torque => some (s.input h .torque)
  | .temp => some (s.input h .temp)
  | .lateral => some (s.input h .lateral)
  | .zFollow => some (s.prevDemand h - s.input h .zpos)
  | .spindleError => some (s.input h .spindle - s.prevSpindle h)
  | .depthDemand => some (s.head h).reg.demand
  | .xSkew => none
  | .xLag => none

/-- The value of the channel a guard record watches (R116). X_LAG is the lag as the guards find it: on a set whose arrival or
HALT has reseeded the lag before them it is 0, although the fixed guard X_LAG judged the lag before the reseed: the
model's choice (R67, R68, log entry 64). -/
def State.channelValue (s : State) (g : GuardRecord) : Option Int :=
  match g.owner with
  | .head h => s.headChannel h g.channel
  | .gantry =>
    match g.channel with
    | .xSkew => some s.planner.skew
    | .xLag => some s.planner.lag
    | _ => none

/-- The result of a comparison (R119). -/
def GuardRecord.result (g : GuardRecord) (v : Int) : Bool :=
  match g.comparison with
  | .above => decide (g.hi < v)
  | .below => decide (v < g.lo)
  | .outside => decide (v < g.lo) || decide (g.hi < v)
  | .inside => decide (g.lo ≤ v) && decide (v ≤ g.hi)

/-- The window length n of a filter (R120). -/
def Filter.length : Filter → Nat
  | .one => 1
  | .twoOfTwo => 2
  | .twoOfThree => 3
  | .threeOfFive => 5

/-- The number m of true results that trips a filter (R120). -/
def Filter.needed : Filter → Nat
  | .one => 1
  | .twoOfTwo => 2
  | .twoOfThree => 2
  | .threeOfFive => 3

/-- The window after a result has joined it as its newest entry (R120). -/
def Filter.join (f : Filter) (window : List Bool) (result : Bool) : List Bool :=
  let w := window ++ [result]
  w.drop (w.length - f.length)

/-- The filter condition: the window holds at least m true results (R120). -/
def Filter.holds (f : Filter) (window : List Bool) : Bool :=
  decide (f.needed ≤ window.count true)

/-! ## Arming -/

/-- The arm-set bit of a head state (R117, R195). -/
def HeadState.armBit : HeadState → Option Nat
  | .spinup => some 0
  | .plunge => some 1
  | .dwell => some 2
  | .traverse => some 3
  | .exit => some 4
  | .idle => none
  | .waiting => none
  | .spindown => none
  | .withdraw => none
  | .finished => none
  | .stopped => none

/-- The arm-set bit of a pass state (R117, R195). -/
def PassState.armBit : PassState → Option Nat
  | .approach => some 0
  | .running => some 1
  | .held => some 2
  | .idle => none
  | .complete => none
  | .aborted => none

/-- Whether a guard record is armed on the state as it stands (R117). -/
def State.armed (s : State) (g : GuardRecord) : Bool :=
  let bit := match g.owner with
    | .head h => if s.isPassHead h then (s.headState h).armBit else none
    | .gantry => s.pass.state.armBit
  g.enabled && s.active &&
    match bit with
    | some b => g.arm.getLsbD b
    | none => false

/-- A guard record that is not armed has its window emptied, and a NOTE or SLOW guard is untripped (R118). -/
def GuardRecord.disarm (g : GuardRecord) : GuardRecord :=
  { g with window := [], tripped := g.tripped && g.action.latches }

/-- The disarming of R118 over all guard records. A record that is not enabled keeps its run fields (R114). -/
def State.disarmGuards (s : State) : State :=
  { s with guards := s.guards.map fun g => if s.armed g || !g.enabled then g else g.disarm }

/-! ## Judging the guard records -/

/-- Whether an armed guard record forms a result: not while a latched trip stands (R119). -/
def GuardRecord.forms (g : GuardRecord) : Bool :=
  !(g.tripped && g.action.latches)

/-- A guard record after a result has joined its window: it trips, untrips or stands (R120 to R122). -/
def GuardRecord.judge (g : GuardRecord) (v : Int) : GuardRecord :=
  let w := g.filter.join g.window (g.result v)
  if g.filter.holds w then
    if g.tripped then { g with window := w }
    else { g with window := w, tripped := true, trips := countUp 255 g.trips }
  else { g with window := w, tripped := false }

/-- The value on which a guard record is judged on this accepted set, if it is judged at all. -/
def State.judgedValue (s : State) (g : GuardRecord) : Option Int :=
  if s.armed g && g.forms then s.channelValue g else none

/-- One guard record after this accepted set's judgement (R119 to R122). -/
def State.judgeGuard (s : State) (g : GuardRecord) : GuardRecord :=
  match s.judgedValue g with
  | some v => g.judge v
  | none => g

/-- The trip of a guard record on this accepted set, if it trips. -/
def State.guardTrip (s : State) (index : Nat) (g : GuardRecord) : Option Cause :=
  match s.judgedValue g with
  | some v => if !g.tripped && (g.judge v).tripped then some (.guard index v) else none
  | none => none

/-- The guard records that trip on this accepted set, from index `k` on. -/
def State.guardTripsFrom (s : State) : Nat → List GuardRecord → List Cause
  | _, [] => []
  | k, g :: gs =>
    match s.guardTrip k g with
    | some c => c :: s.guardTripsFrom (k + 1) gs
    | none => s.guardTripsFrom (k + 1) gs

/-- The records after the judgement of an accepted set; the trips are read before it. -/
def State.judgeGuards (s : State) : State :=
  { s with guards := s.guards.map s.judgeGuard }

/-! ## Fixed guards -/

/-- SATURATION is armed, its condition holds and its fired flag is clear (R126, R127). -/
def State.saturationDue (s : State) (h : HeadId) : Bool :=
  let x := s.head h
  decide (x.seq.state = .traverse) && s.active && !x.fired.saturation &&
    decide (x.profile.limits.saturationLimit ≤ x.reg.satRun)

/-- HOLD_LIMIT is armed, its condition holds and its fired flag is clear (R126, R128). -/
def State.holdLimitDue (s : State) (h : HeadId) : Bool :=
  let x := s.head h
  (decide (x.seq.state = .traverse) || decide (x.seq.state = .dwell) ||
      (decide (x.seq.state = .plunge) && x.seq.progress.starved)) &&
    s.active && !x.fired.holdLimit && decide (x.profile.limits.holdLimit ≤ x.seq.holdTimer)

/-- SPINUP_TIMEOUT is armed, its condition holds and its fired flag is clear (R126, R129). -/
def State.spinupTimeoutDue (s : State) (h : HeadId) : Bool :=
  let x := s.head h
  decide (x.seq.state = .spinup) && s.active && !x.fired.spinupTimeout &&
    decide (x.profile.limits.spinupLimit ≤ x.seq.spinupTimer)

/-- HEAD_STALE is armed, its condition holds and its fired flag is clear (R126, R130). -/
def State.headStaleDue (s : State) (h : HeadId) : Bool :=
  let x := s.head h
  x.seq.state.working && s.active && !x.fired.headStale &&
    decide (x.profile.limits.staleLimit ≤ s.headStaleCount h)

/-- X_STALE is armed, its condition holds and its fired flag is clear (R126, R131). -/
def State.xStaleDue (s : State) : Bool :=
  s.active && !s.gantryFired.xStale && decide (s.gantry.xStaleLimit ≤ s.ring.stale.x)

/-- SKEW is armed, its condition holds and its fired flag is clear (R126, R131). -/
def State.skewDue (s : State) : Bool :=
  s.active && !s.gantryFired.skew && decide (s.gantry.skewLimit < mag s.planner.skew)

/-- X_LAG is armed, its condition holds and its fired flag is clear (R126, R131). -/
def State.xLagDue (s : State) : Bool :=
  s.active && !s.gantryFired.xLag && decide (s.gantry.lagLimit < mag s.planner.lag)

/-- The STOP guard is armed, the line reads asserted and its fired flag is clear (R126, R132). -/
def State.stopLineDue (s : State) : Bool :=
  s.active && !s.gantryFired.stopLine && s.lines.stop

/-- The plunge X of a WAITING head lies behind measured X by more than the arrival tolerance in a RUNNING pass:
the distance behind (R57). -/
def State.startMissedBy (s : State) (h : HeadId) : Option Int :=
  match s.plungeX h with
  | some x =>
    if s.headState h = .waiting ∧ s.pass.state = .running ∧ x < s.planner.measuredX - s.gantry.arrivalTol then
      some (s.planner.measuredX - x)
    else none
  | none => none

/-- The fired flag of a fixed guard is set as it sends its order (R126). -/
def State.setFired (s : State) (c : Cause) : State :=
  match c with
  | .saturation h _ => s.modFired h fun f => { f with saturation := true }
  | .holdLimit h _ => s.modFired h fun f => { f with holdLimit := true }
  | .spinupTimeout h _ => s.modFired h fun f => { f with spinupTimeout := true }
  | .headStale h _ => s.modFired h fun f => { f with headStale := true }
  | .xStale _ => { s with gantryFired := { s.gantryFired with xStale := true } }
  | .skew _ => { s with gantryFired := { s.gantryFired with skew := true } }
  | .xLag _ => { s with gantryFired := { s.gantryFired with xLag := true } }
  | .stopLine => { s with gantryFired := { s.gantryFired with stopLine := true } }
  | .guard _ _ => s
  | .startMissed _ _ => s
  | .noContact _ _ => s
  | .ringLoss _ => s

/-- The fired flags of one head's fixed guards that are no longer armed are cleared (R126). -/
def State.dropHeadFired (s : State) (h : HeadId) : State :=
  let st := s.headState h
  let starved := (s.head h).seq.progress.starved
  s.modFired h fun f =>
    { saturation := f.saturation && decide (st = .traverse) && s.active
      holdLimit := f.holdLimit && s.active &&
        (decide (st = .traverse) || decide (st = .dwell) || (decide (st = .plunge) && starved))
      spinupTimeout := f.spinupTimeout && decide (st = .spinup) && s.active
      headStale := f.headStale && st.working && s.active }

/-- The fired flags of fixed guards that are no longer armed are cleared (R126). -/
def State.dropFired (s : State) : State :=
  let s := (s.dropHeadFired .a).dropHeadFired .b
  if s.active then s else { s with gantryFired := .clear }

/-! ## A cause is taken -/

/-- The head and the station a fault with an owner carries: the owner head and its station, or no head and
measured X (R123, R126, R188). -/
def State.ownerStation (s : State) : Owner → Option HeadId × Int
  | .head h => (some h, (s.head h).seq.station)
  | .gantry => (none, s.planner.measuredX)

/-- A fault with its owner's head and station (R188). -/
def State.faultOf (s : State) (k : FaultKind) (o : Owner) (value : Int) : State :=
  let (head, station) := s.ownerStation o
  s.takeFault k head station value

/-- The order of a guard record that has tripped, after its GUARD_TRIP (R123). -/
def State.guardOrder (s : State) (g : GuardRecord) (value : Int) : State :=
  match g.action, g.owner with
  | .note, _ => s
  | .slow, _ => s
  | .hold, _ => s.holdOrder .guard
  | .exit, .head h =>
    (s.faultOf .guardExit (.head h) value).exitAndCarry h (s.head h).profile.limits.faultExit
  | .exit, .gantry => (s.faultOf .guardExit .gantry value).exitEach
  | .halt, .head h => (s.faultOf .guardHalt (.head h) value).headHalt h
  | .halt, .gantry => (s.faultOf .guardHalt .gantry value).haltAll

/-- GUARD_TRIP is raised for guard record `i`, and its order is sent (R121 to R123). -/
def State.takeGuardTrip (s : State) (i : Nat) (value : Int) : State :=
  match s.guards[i]? with
  | some g => (s.raise .guardTrip (packDetail i g.action.code)).guardOrder g value
  | none => s

/-- A cause is taken: its fault is raised and its order sent, each in full (R19, R82, R123, R124, R126). -/
def State.takeCause (s : State) (c : Cause) : State :=
  let s := s.setFired c
  match c with
  | .guard i v => s.takeGuardTrip i v
  | .saturation h v =>
    (s.faultOf .saturation (.head h) v).exitAndCarry h (s.head h).profile.limits.faultExit
  | .holdLimit h v => (s.faultOf .holdLimit (.head h) v).exitAndCarry h .inPlace
  | .spinupTimeout h v => (s.faultOf .spinupTimeout (.head h) v).exitAndCarry h .inPlace
  | .startMissed h v => (s.faultOf .startMissed (.head h) v).exitAndCarry h .inPlace
  | .noContact h v => (s.faultOf .noContact (.head h) v).exitAndCarry h .inPlace
  | .headStale h v => (s.faultOf .headStale (.head h) v).headHalt h
  | .xStale v => (s.faultOf .xStale .gantry v).haltAll
  | .skew v => (s.faultOf .skew .gantry v).haltAll
  | .xLag v => (s.faultOf .xLag .gantry v).haltAll
  | .stopLine => (s.faultOf .stopLine .gantry 0).haltAll
  | .ringLoss v => (s.faultOf .ringLoss .gantry v).haltAll

/-- Causes found together are each taken in full, in the free order (R124). The pass-end test follows them all, so
that no order of the set is dropped because another one has stopped the last head (R12, R124, log entry 44). -/
def State.takeCauses (s : State) (cs : List Cause) : State :=
  ((s.orderCauses cs).foldl State.takeCause s).testPassEnd

/-! ## Causes found on a set -/

/-- A cause that is due, or none. -/
def causeIf (due : Bool) (c : Cause) : List Cause :=
  if due then [c] else []

/-- The causes found on inputs and planner values, before the head sequencers work the set (R57, R126). The STOP
line is judged on every set, the others on accepted sets (R125). START_MISSED is judged here as well, before the
sequencers: a START that becomes executing on the set, as an appended START is taken or as a non-last spin-down ends, is
judged from the next accepted set on, the model's choice (R46, R57, log entry 61). -/
def State.inputCauses (s : State) (accepted : Bool) : List Cause :=
  let stop := causeIf s.stopLineDue .stopLine
  if accepted then
    causeIf (s.headStaleDue .a) (.headStale .a (s.headStaleCount .a)) ++
    causeIf (s.headStaleDue .b) (.headStale .b (s.headStaleCount .b)) ++
    causeIf s.xStaleDue (.xStale s.ring.stale.x) ++
    causeIf s.skewDue (.skew s.planner.skew) ++
    causeIf s.xLagDue (.xLag s.planner.lag) ++ stop ++
    ((s.startMissedBy .a).map (Cause.startMissed .a)).toList ++
    ((s.startMissedBy .b).map (Cause.startMissed .b)).toList
  else stop

/-- The NO_CONTACT causes of an accepted set, found when both regulators have worked it (R82). -/
def State.contactCauses (s : State) : List Cause :=
  causeIf (s.noContactDue .a) (.noContact .a (s.input .a .force)) ++
  causeIf (s.noContactDue .b) (.noContact .b (s.input .b .force))

/-- The fixed guards on one head's counters that are due: SATURATION on accepted sets, HOLD_LIMIT and
SPINUP_TIMEOUT on every set (R125, R126). -/
def State.counterCauses (s : State) (accepted : Bool) (h : HeadId) : List Cause :=
  causeIf (accepted && s.saturationDue h) (.saturation h (s.head h).reg.satRun) ++
  causeIf (s.holdLimitDue h) (.holdLimit h (s.head h).seq.holdTimer) ++
  causeIf (s.spinupTimeoutDue h) (.spinupTimeout h (s.head h).seq.spinupTimer)

/-- NO_CONTACT is taken with the regulators' other findings, and the demands are formed for the phases it leaves
(R71, R82). -/
def State.workNoContact (s : State) (accepted : Bool) : State :=
  if accepted then
    let t := s.takeCauses s.contactCauses
    (t.reformDemand accepted s .a).reformDemand accepted s .b
  else s

/-- The guard unit works a set after the head sequencers and the regulators: disarming, results and trips on
accepted sets, the fixed guards on head counters, the orders, the demands formed again, and the flags of guards
that the set leaves disarmed (R118 to R126). A guard is armed by the states that the head sequencers and the regulators
leave, before the guard orders of the same set move a head: one that such an order would arm forms no result on the set,
and one that the states before its order disarm is emptied: the model's choice (R117, R118, log entry 58). Every record
that trips is tripped before any of the orders is taken, so that an order that stops a head clears the latched guards of
that head which have tripped on the same set as well: the model's choice (R122, log entry 65). -/
def State.workGuards (s : State) (accepted : Bool) : State :=
  let s := s.disarmGuards
  let trips := if accepted then s.guardTripsFrom 0 s.guards else []
  let causes := trips ++ s.counterCauses accepted .a ++ s.counterCauses accepted .b
  let s := if accepted then s.judgeGuards else s
  let t := s.takeCauses causes
  let t := (t.reformDemand accepted s .a).reformDemand accepted s .b
  t.disarmGuards.dropFired

/-! ## The SLOW cap -/

/-- Whether a tripped SLOW guard bears on a head (R98, R121). -/
def GuardRecord.slows (g : GuardRecord) (h : HeadId) : Bool :=
  g.tripped && decide (g.action = .slow) && (decide (g.owner = .head h) || decide (g.owner = .gantry))

/-- The SLOW cap that bears on a head: the least cap of the tripped SLOW guards, or none (R98). -/
def State.slowCap (s : State) (h : HeadId) : Option Int :=
  least ((s.guards.filter fun g => g.slows h).map GuardRecord.cap)

/-- The hand-over of the SLOW caps, on accepted sets alone (R98). -/
def State.handCaps (s : State) (accepted : Bool) : State :=
  if accepted then
    let a := s.slowCap .a
    let b := s.slowCap .b
    (s.modTrim .a fun t => { t with cap := a }).modTrim .b fun t => { t with cap := b }
  else s

end Sys2Proof.Machine
end

