-- ==== Sys2Proof/Machine/Trims.lean ====
section
/-! DEFINITION. The trim unit (Chapter 5): overrides, SLOW cap, speed demand, spindle command, lateral trim. -/

namespace Sys2Proof.Machine

/-- An override after a step down, limited to at least its floor; one at or below the floor holds (R96, R97). -/
def stepDown (ovr step floor : Int) : Int :=
  if ovr ≤ floor then ovr else max (ovr - step) floor

/-- An override after a step up, limited to at most 1000 (R96, R97). -/
def stepUp (ovr step : Int) : Int :=
  min (ovr + step) 1000

/-- The temperature of a set: a TEMP other than 65535 is valid and becomes the last good temperature (R95). -/
def Trim.takeTemp (t : Trim) (temp : Int) : Trim :=
  if temp = 65535 then t else { t with lastTemp := some temp }

/-- The overrides stepped on the temperature the set uses; without one they hold (R95 to R97). -/
def Trim.stepOverrides (t : Trim) (p : TrimPage) : Trim :=
  match t.lastTemp with
  | none => t
  | some temp =>
    if temp < p.tLo then { t with ovrV := stepDown t.ovrV p.speedStep p.speedFloor }
    else if p.tHi < temp then { t with ovrN := stepDown t.ovrN p.spindleStep p.spindleFloor }
    else { t with ovrV := stepUp t.ovrV p.speedStep, ovrN := stepUp t.ovrN p.spindleStep }

/-- The effective speed override: the lesser of the override and the SLOW cap (R99). -/
def Trim.effective (t : Trim) : Int :=
  match t.cap with
  | none => t.ovrV
  | some c => min t.ovrV c

/-- The speed demand of a head in TRAVERSE (R99). -/
def Trim.speedDemand (t : Trim) (segmentSpeed : Int) : Int :=
  max (divZero (segmentSpeed * t.effective) 1000) 1

/-- The spindle command by head state and phase (R100). -/
def Head.spindleCommand (x : Head) : Int :=
  match x.seq.state with
  | .idle => 0
  | .waiting => 0
  | .spindown => 0
  | .finished => 0
  | .stopped => 0
  | .spinup => x.seq.carried.rpm
  | .plunge => x.seq.carried.rpm
  | .dwell => x.seq.carried.rpm
  | .traverse => max (divZero (x.reg.segment.rpm * x.trim.ovrN) 1000) 1
  | .exit => x.seq.carried.rpm
  | .withdraw =>
    match x.reg.withdraw with
    | .rising => x.seq.carried.rpm
    | .spinstop => 0

/-- The lateral trim stepped toward a valid LATERAL value (R101). -/
def Trim.stepLateral (t : Trim) (p : TrimPage) (lateral : Int) : Trim :=
  if lateral = -32768 then t
  else
    let step := limit (-p.yRate) p.yRate (divZero ((lateral - t.lateral) * p.kt) 1000)
    { t with lateral := limit (-p.yLim) p.yLim (t.lateral + step) }

/-- The trim unit works one set, from the state that the set leaves (R94). The SLOW cap has been handed over
before it (R98). -/
def State.workTrim (s : State) (accepted : Bool) (h : HeadId) : State :=
  let stepping := accepted && decide (s.headState h = HeadState.traverse)
  let temp := s.input h .temp
  let lateral := s.input h .lateral
  s.modHead h fun x =>
    let t := if stepping then (x.trim.takeTemp temp).stepOverrides x.profile.trim else x.trim
    let t := { t with vh := if x.seq.state = HeadState.traverse then some (t.speedDemand x.reg.segment.speed) else none }
    let t := { t with spindle := Head.spindleCommand { x with trim := t } }
    { x with trim := if stepping then t.stepLateral x.profile.trim lateral else t }

/-- The trim unit's overrides and lateral trim at their start values (R4, R93). -/
def State.startTrim (s : State) (h : HeadId) : State :=
  s.modTrim h fun t => { t with ovrV := 1000, ovrN := 1000, lateral := 0 }

end Sys2Proof.Machine
end

