-- ==== Sys2Proof/Machine/Pass.lean ====
section
/-! DEFINITION. The pass controller: starting a pass, arrival, resuming, aborting and the loss hold counter
(Chapter 1). -/

namespace Sys2Proof.Machine

/-! ## Starting a pass -/

/-- What a PASS START that is taken carries (R3). -/
structure PassOrder where
  number : Nat
  heads  : HeadSet
  mode   : DatumMode
  linked : Bool
  datum  : Int
  deriving DecidableEq, Repr

/-- The pass record set by PASS START, before the approach X of a GIVEN pass is computed (R4). -/
def PassOrder.record (o : PassOrder) : PassRecord where
  number := o.number
  heads := o.heads
  datumMode := o.mode
  approachX := match o.mode with
    | .given => 0
    | .mark => o.datum
  x0 := match o.mode with
    | .given => o.datum
    | .mark => 0
  datumValid := decide (o.mode = .given)
  linked := o.linked && decide (o.heads = .both)
  state := .approach
  holdCause := .none
  lossHold := 0

/-- One head at PASS START: a named head enters WAITING with its START executing, another enters IDLE and keeps
its queue; the head order and the fault-exit mark are cleared on both (R4, R13). -/
def State.startHead (s : State) (h : HeadId) : State :=
  let s := s.modSeq h fun q => { q with order := .none, faultExit := false }
  if s.isPassHead h then ((s.park h .waiting).dropExecuting h).startRecord h 0
  else (s.park h .idle).dropExecuting h

/-- In GIVEN mode the approach X is the lowest plunge X among the pass heads (R5). -/
def State.setApproach (s : State) : State :=
  match s.pass.datumMode with
  | .given =>
    let x := match least (s.pass.heads.members.filterMap s.plungeX) with
      | some x => x
      | none => s.pass.approachX
    { s with pass := { s.pass with approachX := x } }
  | .mark => s

/-- PASS START is taken: the pass record, the heads, the reseed, the trim units, the latched guards and the
fired flags (R4, R68, R93, R122, R126). Head A starts before head B, so the first QUEUE_LOW is that of head A: the
model's choice (R184, log entry 62). -/
def State.startPass (s : State) (o : PassOrder) : State :=
  let s := { s with pass := o.record }
  let s := (s.startHead .a).startHead .b
  let s := s.setApproach.reseed
  let s := (s.startTrim .a).startTrim .b
  (s.clearLatched fun _ => true).clearFired

/-! ## Arrival -/

/-- Every pass head has entered STOPPED: the approach is abandoned (R5). -/
def State.abandoned (s : State) : Bool :=
  s.pass.heads.members.all fun h => decide (s.headState h = .stopped)

/-- The bridge has arrived: in an APPROACH that is neither paused nor abandoned, the approach X lies within the
arrival tolerance of measured X and the X command of the latest output set is 0 (R6, R56). -/
def State.arrivalDue (s : State) : Bool :=
  decide (s.pass.state = .approach) && decide (s.pass.holdCause = .none) && !s.abandoned &&
    decide (mag (s.pass.approachX - s.planner.measuredX) ≤ s.gantry.arrivalTol) && decide (s.ring.output.xSpeed = 0)

/-- Whether a pass head's executing START lies behind the bridge by more than the arrival tolerance (R6). -/
def State.startBehind (s : State) (h : HeadId) : Bool :=
  s.isPassHead h &&
    match s.plungeX h with
    | some x => decide (x < s.planner.measuredX - s.gantry.arrivalTol)
    | none => false

/-- Every pass head enters STOPPED, and the pass-end test follows (R6, R12). -/
def State.stopEvery (s : State) : State :=
  (s.pass.heads.members.foldl (fun s h => s.stopHead h) s).testPassEnd

/-- The fault START_BEHIND against a head, with its distance behind the bridge as value. Its station is formed with the X0
in force at arrival, also where the datum has been set since the latest set formed the stations (R6, R188). -/
def State.faultBehind (s : State) (h : HeadId) : State :=
  s.takeFault .startBehind (some h) (s.stationNow h) (match s.plungeX h with
    | some x => s.planner.measuredX - x
    | none => 0)

/-- The pass becomes RUNNING, and commanded X is reseeded (R6, R68). -/
def State.toRunning (s : State) : State :=
  ({ s with pass := { s.pass with state := .running } } : State).reseed

/-- The two checks of arrival, and RUNNING with commanded X reseeded when both pass (R6, R68). -/
def State.arrive (s : State) : State :=
  if s.pass.datumMode = .mark ∧ s.pass.datumValid = false then (s.faultOf .noDatum .gantry 0).stopEvery
  else if s.startBehind .a then (s.faultBehind .a).stopEvery
  else if s.startBehind .b then (s.faultBehind .b).stopEvery
  else s.toRunning

/-- ARRIVAL (R6). -/
def State.arrival (s : State) : State :=
  if s.arrivalDue then s.arrive else s

/-! ## Resume and abort -/

/-- A held pass returns to RUNNING and a paused approach resumes; the hold cause and the loss hold counter are
cleared (R9). -/
def State.resumePass (s : State) : State :=
  let st := if s.pass.state = .held then PassState.running else s.pass.state
  { s with pass := { s.pass with state := st, holdCause := .none, lossHold := 0 } }

/-- Every pass head receives an EXIT order of kind IN_PLACE, which is not carried, and the pass-end test follows
(R11, R12). Where the pass goes on, the stop points and the X demand of the planner record stand until the next set
forms them, though a head that the order has stopped contributes no entry any more and an abandoned approach has the
demand 0 (R5, R58, R61): the model's choice (log entry 56). -/
def State.abortPass (s : State) : State :=
  (s.pass.heads.members.foldl (fun s h => s.exitOrder h .inPlace) s).testPassEnd

/-! ## Ring holds -/

/-- The loss hold counter has reached the hold window in an active pass held for RING (R10). -/
def State.holdWindowDue (s : State) : Bool :=
  s.active && decide (s.pass.holdCause = .ring) && decide (s.pass.lossHold = s.gantry.holdWindow)

/-- The cause by which a ring loss sends its HALT all: RING_LOSS with the miss count as value (R188). -/
def State.lossCause (s : State) : Cause :=
  .ringLoss s.ring.missCount

/-- The loss hold counter counts one expiry, limited to 10,000; whether it has thereby reached the hold window
(R10). A hold cause that a pass has kept at RING beyond its end is counted on as well, since R10 asks for the cause
alone: the model's choice (log entry 20). -/
def State.countLossHold (s : State) : State × Bool :=
  if s.pass.holdCause = .ring then
    let n := countUp 10000 s.pass.lossHold
    let s' := { s with pass := { s.pass with lossHold := n } }
    (s', decide (n ≠ s.pass.lossHold) && s'.holdWindowDue)
  else (s, false)

/-- The effects of a loss on an active pass: in HOLD mode the hold order with cause RING, which with a hold
window of 0 is at once a HALT all; in WITHDRAW mode the HALT all (R10, R164, R165). The HALT all is left to be
taken as a cause; the answer says whether it is due. -/
def State.loseRing (s : State) : State × Bool :=
  if s.active then
    match s.gantry.lossMode with
    | .withdraw => (s, true)
    | .hold =>
      let s' := s.holdOrder .ring
      (s', decide (s.pass.holdCause ≠ .ring) && s'.holdWindowDue)
  else (s, false)

end Sys2Proof.Machine
end

