-- ==== Sys2Proof/Machine/Sets.lean ====
section
/-! DEFINITION. The work of one set by every block, accepted or coast, and the output set it forms. The order
follows R56, R71, R94, R106, R123 and R126; where the manual leaves an order open the log says so (log entry 6). -/

namespace Sys2Proof.Machine

/-- The output values of one head (R166). -/
def Head.outputs (x : Head) : HeadOutput where
  zDemand := x.reg.demand
  zMode := x.reg.zMode
  spindle := x.trim.spindle
  yTrim := x.trim.lateral

/-- The output set of the set just worked replaces the pending output set whole (R166). Its X mode is QUICKSTOP where
a HALT has been taken since the one before it, even if the pass has ended with the HALT (R66). -/
def State.formOutputs (s : State) : State :=
  { s with
    halted := false
    ring := { s.ring with output :=
      { a := s.headA.outputs
        b := s.headB.outputs
        xSpeed := s.planner.xCommand
        xMode := if s.halted then .quickstop else s.planner.xMode
        number := ⟨s.ring.setNumber, s.ring.coastCount⟩ } } }

/-- The first part of a set: the planner's start, the causes found on inputs and planner values (`loss` adds a
ring loss), and arrival (R6, R56, R126). -/
def State.openSet (s : State) (accepted : Bool) (loss : Bool) : State :=
  let causes := causeIf loss s.lossCause ++ s.inputCauses accepted
  (s.takeCauses causes).arrival

/-- The head sequencers and the regulators work the set (R71). -/
def State.workHeads (s : State) (accepted : Bool) : State :=
  let s := (s.workSequencer accepted .a).workSequencer accepted .b
  let s := (s.workRegulator accepted .a).workRegulator accepted .b
  s.workNoContact accepted

/-- The last part of a set: the trim units, the depth demands and fences of the states it leaves, the planner's
end, the disarming of guards of a pass that has ended with it, and the output set (R56, R71, R94, R106, R118, R166). -/
def State.closeSet (s : State) (accepted : Bool) : State :=
  let s := (s.workTrim accepted .a).workTrim accepted .b
  let s := (s.settleDemand .a).settleDemand .b
  let s := (s.formFence .a).formFence .b
  s.endPlanner.disarmGuards.formOutputs

/-- Everything after the planner has formed measured X and the stations. -/
def State.workSet (s : State) (accepted : Bool) (loss : Bool) : State :=
  let s := (s.openSet accepted loss).workHeads accepted
  ((s.workGuards accepted).handCaps accepted).closeSet accepted

/-- An accepted sample set is worked (R155). -/
def State.sampleSet (s : State) : State :=
  (s.beginPlanner true).workSet true false

/-- A coast set is worked (R162): the loss hold counter counts the expiry if the pass was held for RING before
it, and `lost` says that this expiry makes a loss (R164, R165). -/
def State.coastSet (s : State) (lost : Bool) : State :=
  let (s, reached) := (s.beginPlanner false).countLossHold
  let (s, halted) := if lost then s.loseRing else (s, false)
  s.workSet false (reached || halted)

end Sys2Proof.Machine
end

