-- ==== Sys2Proof/Machine/Ring.lean ====
section
/-! DEFINITION. The ring port (Chapter 9): the channels and their slots, freshness and validity, the tests of a
completed frame, the cycle window and the ring states; and the idle timer of an open stream, which counts with
them (R182). -/

namespace Sys2Proof.Machine

/-! ## Channels and slots -/

/-- The widths of the 28 channels in id order (R153). -/
def channelWidths : List Nat :=
  [2, 2, 2, 2, 4, 2, 1,
   2, 2, 2, 2, 4, 2, 1,
   4, 4, 1,
   4, 1, 2, 2,
   4, 1, 2, 2,
   4, 1, 8]

/-- The width in bytes of a channel (R153). -/
def channelWidth (id : Nat) : Nat :=
  channelWidths.getD id 0

/-- The input channels whose value is signed: LATERAL and ZPOS of each head, XLEFT and XRIGHT (R153). -/
def inputSigned (id : Nat) : Bool :=
  [3, 4, 10, 11, 14, 15].contains id

/-- A slot lies wholly within a payload of `length` bytes (R155, R166). -/
def SlotEntry.within (e : SlotEntry) (id length : Nat) : Bool :=
  decide (e.offset + channelWidth id ≤ length)

/-- The raw value of an input channel in a payload, absent for a disabled channel (R158). -/
def captureChannel (slots : List SlotEntry) (payload : List Byte) (id : Nat) : Option Int :=
  match slots[id]? with
  | some e =>
    if e.enabled then
      some (if inputSigned id then fieldS e.offset (channelWidth id) payload
        else (fieldU e.offset (channelWidth id) payload : Int))
    else none
  | none => none

/-- The captured inputs of a frame by the slot map in force; none without one (R154, R158). -/
def captureInputs (inForce : Option (List SlotEntry)) (payload : List Byte) : List (Option Int) :=
  match inForce with
  | none => List.replicate 17 none
  | some slots => (List.range 17).map (captureChannel slots payload)

/-- The bytes of an output channel other than STATUS (R153, R166, R190). -/
def OutputSet.channelBytes (o : OutputSet) (id : Nat) : List Byte :=
  match id with
  | 17 => bytesOf 4 o.a.zDemand
  | 18 => bytesOf 1 o.a.zMode.code
  | 19 => bytesOf 2 o.a.spindle
  | 20 => bytesOf 2 o.a.yTrim
  | 21 => bytesOf 4 o.b.zDemand
  | 22 => bytesOf 1 o.b.zMode.code
  | 23 => bytesOf 2 o.b.spindle
  | 24 => bytesOf 2 o.b.yTrim
  | 25 => bytesOf 4 o.xSpeed
  | 26 => bytesOf 1 o.xMode.code
  | _ => []

/-- The bytes the node writes for an output channel: the pending output set's value, or STATUS as it stands
(R166, R167). -/
def State.outputBytes (s : State) (id : Nat) : List Byte :=
  if id = 27 then s.statusBytes else s.ring.output.channelBytes id

/-- The ids of the output channels that are written into a payload of `length` bytes: in READY and FAULT, those
enabled in the slot map in force whose slot lies wholly within it (R166, R167). -/
def State.writtenIds (s : State) (length : Nat) : List Nat :=
  match s.service.mode, s.inForce with
  | .config, _ => []
  | _, none => []
  | _, some slots =>
    [17, 18, 19, 20, 21, 22, 23, 24, 25, 26, 27].filter fun id =>
      match slots[id]? with
      | some e => e.enabled && e.within id length
      | none => false

/-- The payload offset of a channel's slot in the slot map in force. -/
def State.slotOffset (s : State) (id : Nat) : Nat :=
  match s.inForce with
  | some slots =>
    match slots[id]? with
    | some e => e.offset
    | none => 0
  | none => 0

/-- The payload with the output slots and STATUS written (R166, R167). -/
def State.writeSlots (s : State) (payload : List Byte) : List Byte :=
  (s.writtenIds payload.length).foldl (fun p id => overwrite (s.slotOffset id) (s.outputBytes id) p) payload

/-! ## Freshness and validity -/

/-- What the sequence channel of a group says on a set (R159): whether the group is stale, the new reference and
the new stale count. Without a captured sequence value the group is taken as fresh and both stand. -/
def judgeFreshness (captured reference : Option Int) (stale : Nat) : Bool × Option Int × Nat :=
  match captured with
  | none => (false, reference, stale)
  | some v => if reference = some v then (true, some v, countUp 65535 stale) else (false, some v, 0)

/-- The ids of FORCE A and FORCE B. -/
def isForce (id : Nat) : Bool := id == 0 || id == 7

/-- The ids of TEMP A and TEMP B. -/
def isTemp (id : Nat) : Bool := id == 2 || id == 9

/-- The ids of LATERAL A and LATERAL B. -/
def isLateral (id : Nat) : Bool := id == 3 || id == 10

/-- The value handed over for a last good value that is absent: the invalid marker of TEMP or LATERAL (R160). -/
def absentMarker (id : Nat) : Int :=
  if isTemp id then 65535 else if isLateral id then -32768 else 0

/-- The value handed over for an input channel, and its last good value afterwards (R158 to R160). -/
def handChannel (id : Nat) (stale : Bool) (captured lastGood : Option Int) : Int × Option Int :=
  match captured with
  | none => (lastGood.getD (absentMarker id), lastGood)
  | some v =>
    if stale then (lastGood.getD (absentMarker id), lastGood)
    else if isForce id then (min v 65000, some (min v 65000))
    else if isTemp id ∧ v = 65535 then (v, lastGood)
    else if isLateral id ∧ v = -32768 then (v, lastGood)
    else (v, some v)

/-- An over-range count after a set: FORCE above 65,000 in a fresh group adds 1 (R160). -/
def countOverRange (stale : Bool) (force : Option Int) (n : Nat) : Nat :=
  match force with
  | some v => if !stale && decide (65000 < v) then countUp 65535 n else n
  | none => n

/-- Whether an input channel belongs to a stale group, given the staleness of the three groups. -/
def staleOf (a b x : Bool) (id : Nat) : Bool :=
  if id < 7 then a else if id < 14 then b else x

/-- The ring port takes the samples of an accepted frame (R158 to R160). -/
def RingPort.takeSamples (r : RingPort) (captured : List (Option Int)) : RingPort :=
  let at' := fun id => captured.getD id none
  let (sa, ra, na) := judgeFreshness (at' 6) r.reference.a r.stale.a
  let (sb, rb, nb) := judgeFreshness (at' 13) r.reference.b r.stale.b
  let (sx, rx, nx) := judgeFreshness (at' 16) r.reference.x r.stale.x
  let hand := (List.range 17).map fun id =>
    handChannel id (staleOf sa sb sx id) (at' id) (r.lastGood.getD id none)
  { r with
    reference := ⟨ra, rb, rx⟩
    stale := ⟨na, nb, nx⟩
    overRangeA := countOverRange sa (at' 0) r.overRangeA
    overRangeB := countOverRange sb (at' 7) r.overRangeB
    captured := captured
    lastGood := hand.map Prod.snd
    handed := hand.map Prod.fst }

/-! ## The idle timer of a stream -/

/-- What the context of a closed stream holds behind its closing: no value that the manual gives (R168, log entry
53). A stream that was closed before keeps what it held. -/
def ServiceUnit.leftBehind (u : ServiceUnit) : Stream :=
  match u.stream with
  | some c => Config.closedContext c
  | none => u.closed

/-- The stream is closed and the staging buffer emptied (R180 to R182). -/
def State.closeStream (s : State) : State :=
  { s with service := { s.service with stream := none, closed := s.service.leftBehind, staging := [] } }

/-- An open stream whose idle timer has reached or passed the stream timeout (R182). -/
def State.streamDue (s : State) : Option Stream :=
  match s.service.stream with
  | some c => if s.gantry.streamTimeout ≤ c.idle then some c else none
  | none => none

/-- STREAM_EXPIRED, for a stream that is due (R182). -/
def State.expireStream (s : State) : State :=
  match s.streamDue with
  | some c => s.closeStream.raise .streamExpired (packDetail c.table.code c.remaining)
  | none => s

/-- The idle timer of an open stream rises by 1, and the stream expires if the timer is then due (R182). -/
def State.countIdle (s : State) : State :=
  match s.service.stream with
  | some c =>
    ({ s with service := { s.service with stream := some { c with idle := countUp 65535 c.idle } } } : State).expireStream
  | none => s

/-! ## Frame completion -/

/-- The payload covers every enabled slot of the slot map in force and the service area (R155). -/
def State.covers (s : State) (length : Nat) : Bool :=
  decide (64 ≤ length) &&
    match s.inForce with
    | none => true
    | some slots => (List.range 28).all fun id =>
        match slots[id]? with
        | some e => !e.enabled || e.within id length
        | none => true

/-- A frame completes less than half a cycle period after the previous accepted frame (R155, R161). -/
def RingPort.isEarly (r : RingPort) (now : Nat) : Bool :=
  match r.timing with
  | some t => decide (2 * now < 2 * t.completed + t.tc)
  | none => false

/-- The ring port's counts, window, lines and state at the acceptance of a frame (R155, R161, R163). -/
def State.countAccepted (s : State) (now : Nat) (pins : Pins) : State :=
  let tc := s.gantry.tc
  { s with
    ring := { s.ring with
      setNumber := (s.ring.setNumber + 1) % 4294967296
      coastCount := 0
      missCount := 0
      state := .up
      timing := some ⟨now, tc⟩
      window := some (now + 3 * tc / 2) }
    lines := { s.lines with stop := pins.stop, mark := pins.mark } }

/-- RING_RESTORED at the first accepted frame after a loss, with the miss count before the frame; the loss hold
counter returns to 0 (R10, R163). -/
def State.restoreRing (s : State) (misses : Nat) : State :=
  let s := s.raise .ringRestored (detailNumber misses)
  { s with pass := { s.pass with lossHold := 0 } }

/-- A frame is accepted: it becomes the next sample set, and every block works it (R155). -/
def State.acceptFrame (s : State) (payload : List Byte) (now : Nat) (pins : Pins) : State :=
  let misses := s.ring.missCount
  let lost := decide (s.ring.state = .lost)
  let captured := captureInputs s.inForce payload
  let s := s.countAccepted now pins
  let s := { s with ring := s.ring.takeSamples captured }
  let s := if lost then s.restoreRing misses else s
  s.countIdle.sampleSet

/-- A frame refused as BAD (R156). -/
def State.refuseBad (s : State) : State :=
  { s with ring := { s.ring with badCheck := countUp 65535 s.ring.badCheck } }

/-- A frame refused as SHORT (R156). -/
def State.refuseShort (s : State) : State :=
  { s with ring := { s.ring with short := countUp 65535 s.ring.short } }

/-- A frame refused as EARLY (R156). -/
def State.refuseEarly (s : State) : State :=
  let n := countUp 65535 s.ring.early
  ({ s with ring := { s.ring with early := n } } : State).raise .ringTiming (detailNumber n)

/-- The tests of a completed frame, in order (R155). -/
def State.testFrame (s : State) (f : PassingFrame) (now : Nat) (pins : Pins) : State :=
  if !f.checkGood then s.refuseBad
  else if !s.covers f.payload.length then s.refuseShort
  else if s.ring.isEarly now then s.refuseEarly
  else s.acceptFrame f.payload now pins

/-! ## Window expiry -/

/-- The ring state is UP or COASTING, and the miss count has reached the miss limit (R163). -/
def State.lossDue (s : State) : Bool :=
  (decide (s.ring.state = .up) || decide (s.ring.state = .coasting)) &&
    decide (s.gantry.missLimit ≤ s.ring.missCount)

/-- The ring state becomes LOST and RING_LOST is raised with the miss limit (R163). -/
def State.markLost (s : State) : State :=
  ({ s with ring := { s.ring with state := .lost } } : State).raise .ringLost (detailNumber s.gantry.missLimit)

/-- The ring port's counts, window, STOP reading and state at an expiry that does not make a loss (R162,
R163). -/
def State.countMiss (s : State) (due tc : Nat) (stop : Bool) : State :=
  { s with
    ring := { s.ring with
      missCount := countUp 65535 s.ring.missCount
      coastCount := countUp 4294967295 s.ring.coastCount
      window := some (due + tc)
      state := if s.ring.state = .up then .coasting else s.ring.state }
    lines := { s.lines with stop := stop } }

/-- The cycle window expires, if it is running: the miss is counted and a coast set runs (R161 to R165). -/
def State.expireWindow (s : State) (stop : Bool) : State :=
  match s.ring.window, s.ring.timing with
  | some due, some t =>
    let s := s.countMiss due t.tc stop
    let lost := s.lossDue
    let s := if lost then s.markLost else s
    s.countIdle.coastSet lost
  | _, _ => s

/-- A ring loss by itself: the ring becomes LOST, RING_LOST is raised, and the loss effects follow (R163 to
R165). -/
def State.ringLoss (s : State) : State :=
  if s.lossDue then
    let (s, halted) := s.markLost.loseRing
    if halted then (s.takeCause s.lossCause).testPassEnd else s
  else s

/-- The hold window is reached: the HALT all with the fault RING_LOSS follows (R10). -/
def State.holdWindowReached (s : State) : State :=
  if s.holdWindowDue then (s.takeCause s.lossCause).testPassEnd else s

end Sys2Proof.Machine
end

