-- ==== Sys2Proof/Machine/Lines.lean ====
section
/-! DEFINITION. Supply, the RESET line and readiness (R146, R150), the values a reset leaves, and the meanings of
their commands. -/

namespace Sys2Proof.Machine

/-- A frame that a reset meets when `passed` bytes of its payload have left the node: the node stops writing, so that
the rest leaves as it arrived, within the service area as behind it; the check is bad if the node has written a byte
before, and passes unchanged otherwise (R151, log entry 18). -/
def Port.cutAt (p : Port) (passed : Nat) : Port :=
  match p.passing, p.outgoing with
  | some f, some o =>
    { p with
      passing := none
      outgoing := some
        { payload := o.payload.take passed ++ f.payload.drop passed
          check := if f.written.any fun start => decide (start < passed) then .bad else .unchanged } }
  | _, _ => { p with passing := none }

/-- The values that a RESET line or RESET NODE reset gives: every record as after power-on, except the gantry
profile, the head profiles, the map points, the guard configuration and the slot map, which are retained (R103,
R114, R141, R143, R153). The straps are read again (R150). -/
def State.afterReset (s : State) (straps : BitVec 6) (power : Power) : State :=
  { State.powerOn straps with
    power := power
    headA := .initial s.headA.profile s.headA.map.points
    headB := .initial s.headB.profile s.headB.map.points
    guards := s.guards.map GuardRecord.rearmed
    ring := .initial s.headA.profile.depth.clear s.headB.profile.depth.clear
    gantry := s.gantry
    slotMap := s.slotMap
    port := { s.port with passing := none }
    pending := s.pending }

/-- POWER_ON: supply rises, and every item takes its power-on value (R146). -/
def execPowerOn (straps : BitVec 6) (s : State) : Host.Outcome State Fault Refusal :=
  .next { State.powerOn straps with pending := s.pending }

/-- SUPPLY_LOSS: from here the ring connection passes frames unchanged and ALERT is negated (R146, R149). -/
def execSupplyLoss (s : State) : Host.Outcome State Fault Refusal :=
  .next { s with power := .unpowered, port := { s.port with passing := none } }

/-- RESET_LINE: an assertion of at least 100 µs takes a node that has supply into reset; a shorter one is ignored
(R146). A frame that passes is cut where it stands (R151, log entry 18). -/
def execResetLine (pulse : ResetPulse) (s : State) : Host.Outcome State Fault Refusal :=
  .next (if 100 ≤ pulse.micros ∧ s.power.alive then
      { s with power := .inReset, port := s.port.cutAt pulse.passed }
    else s)

/-- RESET_NEGATED: a node held in reset leaves it with the reset values and reads its straps (R146, R150). -/
def execResetNegated (straps : BitVec 6) (s : State) : Host.Outcome State Fault Refusal :=
  .next (if s.power = .inReset then s.afterReset straps .starting else s)

/-- START_TIME: a node that is starting becomes ready to accept frames (R146). -/
def execStartTime (s : State) : Host.Outcome State Fault Refusal :=
  .next (if s.power = .starting then { s with power := .running } else s)

end Sys2Proof.Machine
end

