-- ==== Sys2Proof/Machine/Operands.lean ====
section
/-! DEFINITION. The operand forms of the requests: the codes of the service area's fields and the images of the
records, read and written (Chapter 12), with the range each field must lie in. -/

namespace Sys2Proof.Machine

/-- Whether a value lies from `lo` to `hi`. -/
def within (lo hi x : Int) : Bool :=
  decide (lo ≤ x) && decide (x ≤ hi)

/-! ## Codes -/

/-- The request a code names (R191). -/
def RequestKind.ofCode (code : Nat) : Option RequestKind :=
  RequestKind.all.find? fun k => k.code == code

/-- The tables of the table selector (R174, R190). -/
inductive Table where
  | segment | map | guard | gantryProfile | headProfile | slotMap
  deriving DecidableEq, Repr

/-- The table a selector code names (R190). -/
def Table.ofCode : Nat → Option Table
  | 0 => some .segment
  | 1 => some .map
  | 2 => some .guard
  | 3 => some .gantryProfile
  | 4 => some .headProfile
  | 5 => some .slotMap
  | _ => none

/-- The code of a table (R190). -/
def Table.code : Table → Nat
  | .segment => 0
  | .map => 1
  | .guard => 2
  | .gantryProfile => 3
  | .headProfile => 4
  | .slotMap => 5

/-- The table a stream may carry that a selector code names (R178). -/
def streamTableOfCode : Nat → Option StreamTable
  | 0 => some .segment
  | 1 => some .map
  | 2 => some .guard
  | _ => none

/-- The head a selector code names: 0 A, 1 B (R190). -/
def headOfCode : Nat → Option HeadId
  | 0 => some .a
  | 1 => some .b
  | _ => none

/-- The heads a code names: 1 A, 2 B, 3 BOTH; 0 NONE in the gantry profile (R191, R196). -/
def headSetOfCode : Nat → Option HeadSet
  | 0 => some .none
  | 1 => some .a
  | 2 => some .b
  | 3 => some .both
  | _ => none

/-- Exit kind by code (R190). -/
def exitKindOfCode : Nat → Option ExitKind
  | 0 => some .inPlace
  | 1 => some .runOut
  | _ => none

/-- Loss mode by code (R196). -/
def lossModeOfCode : Nat → Option LossMode
  | 0 => some .withdraw
  | 1 => some .hold
  | _ => none

/-- Datum mode by code (R191). -/
def datumModeOfCode : Nat → Option DatumMode
  | 0 => some .given
  | 1 => some .mark
  | _ => none

/-- The linked flag of a PASS START by code (R191). -/
def linkedOfCode : Nat → Option Bool
  | 0 => some false
  | 1 => some true
  | _ => none

/-- Guard channel by code (R195). -/
def channelOfCode : Nat → Option Channel
  | 0 => some .force
  | 1 => some .forceError
  | 2 => some .torque
  | 3 => some .temp
  | 4 => some .lateral
  | 5 => some .zFollow
  | 6 => some .spindleError
  | 7 => some .depthDemand
  | 8 => some .xSkew
  | 9 => some .xLag
  | _ => none

/-- The code of a guard channel (R195). -/
def Channel.code : Channel → Nat
  | .force => 0
  | .forceError => 1
  | .torque => 2
  | .temp => 3
  | .lateral => 4
  | .zFollow => 5
  | .spindleError => 6
  | .depthDemand => 7
  | .xSkew => 8
  | .xLag => 9

/-- Comparison by code (R195). -/
def comparisonOfCode : Nat → Option Comparison
  | 0 => some .above
  | 1 => some .below
  | 2 => some .outside
  | 3 => some .inside
  | _ => none

/-- The code of a comparison (R195). -/
def Comparison.code : Comparison → Nat
  | .above => 0
  | .below => 1
  | .outside => 2
  | .inside => 3

/-- Filter by code (R195). -/
def filterOfCode : Nat → Option Filter
  | 0 => some .one
  | 1 => some .twoOfTwo
  | 2 => some .twoOfThree
  | 3 => some .threeOfFive
  | _ => none

/-- The code of a filter (R195). -/
def Filter.code : Filter → Nat
  | .one => 0
  | .twoOfTwo => 1
  | .twoOfThree => 2
  | .threeOfFive => 3

/-- Action by code (R195). -/
def actionOfCode : Nat → Option Action
  | 0 => some .note
  | 1 => some .slow
  | 2 => some .hold
  | 3 => some .exit
  | 4 => some .halt
  | _ => none

/-- Owner by code (R195). -/
def ownerOfCode : Nat → Option Owner
  | 0 => some (.head .a)
  | 1 => some (.head .b)
  | 2 => some .gantry
  | _ => none

/-- The code of an owner (R195). -/
def Owner.code : Owner → Nat
  | .head h => h.code
  | .gantry => 2

/-! ## Segment records (R193) -/

/-- The fields of a START in range (R27). -/
def startFields (dMax station rpm force depth : Int) : Option Segment :=
  if within 100 3000 rpm && within 0 60000 force && within 1 25000 depth && decide (depth ≤ dMax) then
    some (.start station rpm force depth)
  else none

/-- The fields of a DWELL in range (R27). -/
def dwellFields (ms : Nat) (force : Int) : Option Segment :=
  if decide (ms ≤ 60000) && within 0 60000 force then some (.dwell ms force) else none

/-- The fields of a TRAVERSE in range (R27). -/
def traverseFields (reps : Nat) (length force speed rpm depth : Int) : Option Segment :=
  if within 1 64 reps && within 1 40000000 length && decide (reps * length ≤ 40000000) && within 0 60000 force &&
      within 1 40000 speed && within 100 3000 rpm && within 0 25000 depth then
    some (.traverse reps length force speed rpm depth)
  else none

/-- The fields of an EXIT in range (R27). -/
def exitFields (last : Bool) (kind : Nat) (rate runOut : Int) : Option Segment :=
  match exitKindOfCode kind with
  | none => none
  | some k =>
    if within 0 1000 rate && within 0 2000000 runOut && (decide (k = .inPlace) || decide (1 ≤ runOut)) then
      some (.exit last k rate runOut)
    else none

/-- A segment record read from its image, if every field is in range against the Dmax in force (R27, R193). The
flag bits other than LAST are not read (R189). -/
def readSegment (dMax : Int) (bs : List Byte) : Option Segment :=
  let last := (fieldU 1 1 bs).testBit 0
  let reps := fieldU 2 1 bs
  match fieldU 0 1 bs with
  | 1 =>
    if last || reps != 1 then none
    else startFields dMax (fieldS 4 4 bs) (fieldU 8 2 bs) (fieldU 10 2 bs) (fieldU 12 2 bs)
  | 2 => if last || reps != 1 then none else dwellFields (fieldU 4 2 bs) (fieldU 6 2 bs)
  | 3 =>
    if last then none
    else traverseFields reps (fieldU 4 4 bs) (fieldU 8 2 bs) (fieldU 10 2 bs) (fieldU 12 2 bs) (fieldU 14 2 bs)
  | 4 => if reps != 1 then none else exitFields last (fieldU 4 1 bs) (fieldU 6 2 bs) (fieldU 8 4 bs)
  | _ => none

/-- The image of a segment record (R193). -/
def Segment.image : Segment → List Byte
  | .start station rpm force depth =>
    [1, 0, 1, 0] ++ bytesOf 4 station ++ bytesOf 2 rpm ++ bytesOf 2 force ++ bytesOf 2 depth ++ [0, 0]
  | .dwell ms force =>
    [2, 0, 1, 0] ++ bytesOf 2 ms ++ bytesOf 2 force ++ List.replicate 8 0
  | .traverse reps length force speed rpm depth =>
    [3, 0] ++ bytesOf 1 reps ++ [0] ++ bytesOf 4 length ++ bytesOf 2 force ++ bytesOf 2 speed ++ bytesOf 2 rpm ++
      bytesOf 2 depth
  | .exit last kind rate runOut =>
    [4, if last then 1 else 0, 1, 0, BitVec.ofNat 8 kind.code, 0] ++ bytesOf 2 rate ++ bytesOf 4 runOut ++
      List.replicate 4 0

/-! ## Map records (R194) -/

/-- A map point read from its image; its ranges are tested by `checkPoint` (R109, R194). -/
def readPoint (bs : List Byte) : MapPoint :=
  ⟨fieldS 0 4 bs, fieldU 4 2 bs, fieldS 6 2 bs⟩

/-- The image of a map point (R194). -/
def MapPoint.image (p : MapPoint) : List Byte :=
  bytesOf 4 p.station ++ bytesOf 2 p.kf ++ bytesOf 2 p.dz

/-- The image of the map header (R194). -/
def CompMap.headerImage (m : CompMap) : List Byte :=
  bytesOf 2 m.points.length ++ [if m.fence.isSome then 1 else 0, 0] ++ bytesOf 4 (m.fence.getD 0) ++
    bytesOf 2 m.refusals

/-! ## Guard records (R195) -/

/-- Check 2 of R115: the channel belongs to the owner. -/
def Owner.watches (o : Owner) (c : Channel) : Bool :=
  let gantry := decide (c = .xSkew) || decide (c = .xLag)
  match o with
  | .head _ => !gantry
  | .gantry => gantry

/-- Check 6 of R115: every arm-set bit belongs to the owner's list (R195). -/
def Owner.arms (o : Owner) (bits : Nat) : Bool :=
  match o with
  | .head _ => decide (bits < 32)
  | .gantry => decide (bits < 8)

/-- Check 4 of R115: the limits are in order where both are used. -/
def Comparison.limitsOk (c : Comparison) (lo hi : Int) : Bool :=
  match c with
  | .outside => decide (lo ≤ hi)
  | .inside => decide (lo ≤ hi)
  | .above => true
  | .below => true

/-- A guard record read from its image with its run fields cleared, if its eight checks pass (R115, R195). -/
def readGuard (bs : List Byte) : Option GuardRecord := do
  let flags := fieldU 0 1 bs
  let owner ← ownerOfCode (flags % 4)
  let channel ← channelOfCode (fieldU 1 1 bs)
  let comparison ← comparisonOfCode (fieldU 2 1 bs)
  let filter ← filterOfCode (fieldU 3 1 bs)
  let lo := fieldS 4 4 bs
  let hi := fieldS 8 4 bs
  let arm := fieldU 12 1 bs
  let action ← actionOfCode (fieldU 13 1 bs)
  let cap := fieldU 14 2 bs
  if owner.watches channel && comparison.limitsOk lo hi && owner.arms arm && decide (cap ≤ 1000) then
    some {
      enabled := flags.testBit 7
      owner := owner
      channel := channel
      comparison := comparison
      lo := lo
      hi := hi
      filter := filter
      arm := BitVec.ofNat 8 arm
      action := action
      cap := cap
      tripped := false
      trips := 0
      window := [] }
  else none

/-- The result window as bits, bit 0 the oldest result (R195). -/
def windowBits : List Bool → Nat
  | [] => 0
  | b :: bs => (if b then 1 else 0) + 2 * windowBits bs

/-- The image of a guard record with its run fields (R133, R195). -/
def GuardRecord.image (g : GuardRecord) : List Byte :=
  [BitVec.ofNat 8 (g.owner.code + if g.enabled then 128 else 0), BitVec.ofNat 8 g.channel.code,
    BitVec.ofNat 8 g.comparison.code, BitVec.ofNat 8 g.filter.code] ++
  bytesOf 4 g.lo ++ bytesOf 4 g.hi ++ [g.arm, BitVec.ofNat 8 g.action.code] ++ bytesOf 2 g.cap ++
  [if g.tripped then 1 else 0, BitVec.ofNat 8 g.trips, BitVec.ofNat 8 g.window.length,
    BitVec.ofNat 8 (windowBits g.window)]

/-! ## The gantry profile (R141, R196) -/

/-- The place of the first false entry, counted from 0. -/
def firstFalse : List Bool → Option Nat
  | [] => none
  | true :: bs => (firstFalse bs).map (· + 1)
  | false :: _ => some 0

/-- Whether each field of a gantry profile's image lies in its range, in the order of R141. -/
def gantryChecks (bs : List Byte) : List Bool :=
  [(headSetOfCode (fieldU 0 1 bs)).isSome,
   [500, 1000, 2000].contains (fieldU 4 2 bs),
   within 1000 40000 (fieldU 6 2 bs),
   within 1000 40000 (fieldU 8 2 bs),
   within 1000 500000 (fieldU 10 4 bs),
   within 1000 500000 (fieldU 14 4 bs),
   within 1 10000 (fieldU 18 2 bs),
   within 1 100000 (fieldU 20 4 bs),
   within 1 1000000 (fieldU 24 4 bs),
   within 1 255 (fieldU 28 1 bs),
   within 1 16 (fieldU 2 1 bs),
   (lossModeOfCode (fieldU 1 1 bs)).isSome,
   within 0 10000 (fieldU 30 2 bs),
   within 0 5000000 (fieldU 32 4 bs),
   true,
   within 1 8 (fieldU 3 1 bs),
   within 10 65535 (fieldU 40 2 bs)]

/-- The gantry profile an image holds; meant for images whose checks all pass. -/
def readGantry (bs : List Byte) : GantryProfile where
  present := (headSetOfCode (fieldU 0 1 bs)).getD .none
  tc := fieldU 4 2 bs
  xMax := fieldU 6 2 bs
  approachSpeed := fieldU 8 2 bs
  acc := fieldU 10 4 bs
  dec := fieldU 14 4 bs
  arrivalTol := fieldU 18 2 bs
  skewLimit := fieldU 20 4 bs
  lagLimit := fieldU 24 4 bs
  xStaleLimit := fieldU 28 1 bs
  missLimit := fieldU 2 1 bs
  lossMode := (lossModeOfCode (fieldU 1 1 bs)).getD .withdraw
  holdWindow := fieldU 30 2 bs
  fenceMargin := fieldU 32 4 bs
  markStation := fieldS 36 4 bs
  markFilter := fieldU 3 1 bs
  streamTimeout := fieldU 40 2 bs

/-- The image of the gantry profile (R196). -/
def GantryProfile.image (g : GantryProfile) : List Byte :=
  [BitVec.ofNat 8 g.present.code, BitVec.ofNat 8 g.lossMode.code, BitVec.ofNat 8 g.missLimit,
    BitVec.ofNat 8 g.markFilter] ++
  bytesOf 2 g.tc ++ bytesOf 2 g.xMax ++ bytesOf 2 g.approachSpeed ++ bytesOf 4 g.acc ++ bytesOf 4 g.dec ++
  bytesOf 2 g.arrivalTol ++ bytesOf 4 g.skewLimit ++ bytesOf 4 g.lagLimit ++
  [BitVec.ofNat 8 g.xStaleLimit, 0] ++ bytesOf 2 g.holdWindow ++ bytesOf 4 g.fenceMargin ++
  bytesOf 4 g.markStation ++ bytesOf 2 g.streamTimeout

/-! ## Head profile pages (R143, R196) -/

/-- The length of a head profile page (R175, R196). -/
def pageLength : Nat → Nat
  | 0 => 16
  | 1 => 12
  | 2 => 16
  | _ => 22

/-- Whether each field of a page's image lies in its range, in page order (R143, R196). -/
def pageChecks (page : Nat) (bs : List Byte) : List Bool :=
  match page with
  | 0 =>
    [within 0 25000 (fieldU 0 2 bs),
     within 1 25000 (fieldU 2 2 bs),
     within (-50000) (-1000) (fieldS 4 4 bs),
     within 1 1000 (fieldU 8 2 bs),
     within 1 1000 (fieldU 10 2 bs),
     within 1 5000 (fieldU 12 2 bs),
     within 1 1000 (fieldU 14 2 bs)]
  | 1 =>
    [within 0 10000 (fieldU 0 2 bs),
     within 0 10000 (fieldU 2 2 bs),
     within 0 5000 (fieldU 4 2 bs),
     within 0 10000 (fieldU 6 2 bs),
     within 0 20000 (fieldU 8 2 bs),
     within 1 10000 (fieldU 10 2 bs)]
  | 2 =>
    [within 1 500 (fieldU 0 2 bs),
     within 1 65535 (fieldU 2 2 bs),
     within 1 255 (fieldU 4 2 bs),
     within 1 65535 (fieldU 6 2 bs),
     within 1 65535 (fieldU 8 2 bs),
     (exitKindOfCode (fieldU 10 1 bs)).isSome,
     within 0 2000000 (fieldU 12 4 bs)]
  | _ =>
    [within 0 20000 (fieldU 0 2 bs),
     within 0 20000 (fieldU 2 2 bs),
     within 1 100 (fieldU 4 2 bs),
     within 0 1000 (fieldU 6 2 bs),
     within 1 100 (fieldU 8 2 bs),
     within 0 1000 (fieldU 10 2 bs),
     within 0 1000 (fieldU 12 2 bs),
     within 0 1000 (fieldU 14 2 bs),
     within 0 20000 (fieldU 16 2 bs),
     within (-500000) 500000 (fieldS 18 4 bs)]

/-- Page 0 from its image (R196). -/
def readDepthPage (bs : List Byte) : DepthPage :=
  ⟨fieldU 0 2 bs, fieldU 2 2 bs, fieldS 4 4 bs, fieldU 8 2 bs, fieldU 10 2 bs, fieldU 12 2 bs, fieldU 14 2 bs⟩

/-- Page 1 from its image (R196). -/
def readGainPage (bs : List Byte) : GainPage :=
  ⟨fieldU 0 2 bs, fieldU 2 2 bs, fieldU 4 2 bs, fieldU 6 2 bs, fieldU 8 2 bs, fieldU 10 2 bs⟩

/-- Page 2 from its image (R196); meant for images whose checks all pass. -/
def readLimitPage (bs : List Byte) : LimitPage :=
  ⟨fieldU 0 2 bs, fieldU 2 2 bs, fieldU 4 2 bs, fieldU 6 2 bs, fieldU 8 2 bs,
    (exitKindOfCode (fieldU 10 1 bs)).getD .inPlace, fieldU 12 4 bs⟩

/-- Page 3 from its image (R196). -/
def readTrimPage (bs : List Byte) : TrimPage :=
  ⟨fieldU 0 2 bs, fieldU 2 2 bs, fieldU 4 2 bs, fieldU 6 2 bs, fieldU 8 2 bs, fieldU 10 2 bs, fieldU 12 2 bs,
    fieldU 14 2 bs, fieldU 16 2 bs, fieldS 18 4 bs⟩

/-- A head profile with one page replaced from its image (R144, R196). -/
def HeadProfile.withPage (p : HeadProfile) (page : Nat) (bs : List Byte) : HeadProfile :=
  match page with
  | 0 => { p with depth := readDepthPage bs }
  | 1 => { p with gains := readGainPage bs }
  | 2 => { p with limits := readLimitPage bs }
  | _ => { p with trim := readTrimPage bs }

/-- The image of a page (R196). -/
def HeadProfile.pageImage (p : HeadProfile) : Nat → List Byte
  | 0 =>
    bytesOf 2 p.depth.dMin ++ bytesOf 2 p.depth.dMax ++ bytesOf 4 p.depth.clear ++ bytesOf 2 p.depth.plungeRate ++
      bytesOf 2 p.depth.retractRate ++ bytesOf 2 p.depth.withdrawRate ++ bytesOf 2 p.depth.rMax
  | 1 =>
    bytesOf 2 p.gains.kp ++ bytesOf 2 p.gains.ki ++ bytesOf 2 p.gains.deadband ++ bytesOf 2 p.gains.iClamp ++
      bytesOf 2 p.gains.seatBand ++ bytesOf 2 p.gains.seatSets
  | 2 =>
    bytesOf 2 p.limits.atSpeedTol ++ bytesOf 2 p.limits.spinupLimit ++ bytesOf 2 p.limits.staleLimit ++
      bytesOf 2 p.limits.holdLimit ++ bytesOf 2 p.limits.saturationLimit ++
      [BitVec.ofNat 8 p.limits.faultExit.code, 0] ++ bytesOf 4 p.limits.faultRunOut
  | _ =>
    bytesOf 2 p.trim.tLo ++ bytesOf 2 p.trim.tHi ++ bytesOf 2 p.trim.speedStep ++ bytesOf 2 p.trim.speedFloor ++
      bytesOf 2 p.trim.spindleStep ++ bytesOf 2 p.trim.spindleFloor ++ bytesOf 2 p.trim.kt ++
      bytesOf 2 p.trim.yRate ++ bytesOf 2 p.trim.yLim ++ bytesOf 4 p.trim.xOffset

/-- The field by which a page breaks its relation, if it breaks it: Dmax, the fault run-out, T_hi (R143,
R144). -/
def HeadProfile.brokenRelation (p : HeadProfile) : Nat → Option Nat
  | 0 => if p.depth.dMin < p.depth.dMax then none else some 1
  | 1 => none
  | 2 => if p.limits.faultExit = .runOut ∧ p.limits.faultRunOut < 1 then some 6 else none
  | _ => if p.trim.tLo ≤ p.trim.tHi then none else some 1

/-- The first page and field by which a profile breaks a relation, in page order (R136). -/
def HeadProfile.firstBroken (p : HeadProfile) : Option (Nat × Nat) :=
  ([0, 2, 3].filterMap fun page => (p.brokenRelation page).map fun field => (page, field)).head?

/-! ## Slot map entries (R196) -/

/-- A slot map entry from its image, if its enabled field holds one of its two values (R153, R196). -/
def readSlot (bs : List Byte) : Option SlotEntry :=
  match fieldU 2 1 bs with
  | 0 => some ⟨fieldU 0 2 bs, false⟩
  | 1 => some ⟨fieldU 0 2 bs, true⟩
  | _ => none

/-- The image of a slot map entry (R196). -/
def SlotEntry.image (e : SlotEntry) : List Byte :=
  bytesOf 2 e.offset ++ [if e.enabled then 1 else 0]

/-! ## Events, faults and the latch (R197) -/

/-- The reply data of TAKE EVENT; kind 0 for an empty pending set (R185, R197). -/
def eventImage : Option EventEntry → List Byte
  | some e => bytesOf 2 e.kind.num ++ bytesOf 2 e.count ++ bytesOf 4 e.stamp ++ bytesOf 2 e.detail
  | none => List.replicate 10 0

/-- The image of the fault record (R197). -/
def faultImage : Option FaultRecord → List Byte
  | some f =>
    [1, BitVec.ofNat 8 f.kind.code, BitVec.ofNat 8 (headCode f.head), 0] ++ bytesOf 4 f.setNumber ++
      bytesOf 4 f.station ++ bytesOf 4 f.value
  | none => List.replicate 16 0

/-- The image of the mark latch record (R197). -/
def latchImage (count : Nat) : Option MarkEdge → List Byte
  | some e =>
    [BitVec.ofNat 8 count, if e.station.isSome then 1 else 0, 0, 0] ++ bytesOf 4 e.x ++
      bytesOf 4 (e.station.getD 0) ++ bytesOf 4 e.setNumber
  | none => BitVec.ofNat 8 count :: List.replicate 15 0

/-! ## The service area (R191) -/

/-- The fields of a service area that a request carries. -/
def readArea (area : List Byte) : Request where
  tag := BitVec.ofNat 16 (fieldU 2 2 area)
  length := BitVec.ofNat 8 (fieldU 5 1 area)
  table := BitVec.ofNat 8 (fieldU 6 1 area)
  head := BitVec.ofNat 8 (fieldU 7 1 area)
  index := BitVec.ofNat 16 (fieldU 8 2 area)
  payload := slice 12 52 area

/-! ## The status pages (R173) -/

/-- The number of a status page (R173). -/
def StatusPage.number : StatusPage → Nat
  | .node _ _ _ _ _ => 0
  | .planner _ _ => 1
  | .sequencer h _ => 2 + 3 * h.code
  | .regulator h _ => 3 + 3 * h.code
  | .trim h _ => 4 + 3 * h.code
  | .ring _ => 8
  | .lastGood _ => 9
  | .faults _ _ _ _ _ _ _ => 10

/-- The code of a last completed kind: 0 for none (R190). -/
def lastKindCode : Option SegKind → Nat
  | some k => k.code
  | none => 0

/-- The code of a datum mode (R191). -/
def DatumMode.code : DatumMode → Nat
  | .given => 0
  | .mark => 1

/-- An item of one byte that holds a code. -/
def codedByte (n : Nat) : Nat × Option (List Byte) :=
  (1, some [BitVec.ofNat 8 n])

/-- An item of one byte that holds a code, or is absent. -/
def codedOption (n : Option Nat) : Nat × Option (List Byte) :=
  (1, n.map fun n => [BitVec.ofNat 8 n])

/-- The items of a status page whose bytes R190, R191 and R197 give, each with its width: the codes of enumerated
fields, and the images of the latch and fault records. An absent item leaves its bytes open (log entry 4). On page 0 the
pass heads, the datum mode and the linked flag have the codes that R191 gives them in PASS START; pass heads NONE, which
no PASS START carries, have the code 0 that R196 gives NONE among the heads present: the model's choice (log entry 4). -/
def StatusPage.coded : StatusPage → List (Nat × Option (List Byte))
  | .node _ _ _ p l =>
    [codedByte p.heads.code, codedByte p.datumMode.code, codedByte (if p.linked then 1 else 0),
      codedByte p.state.code, codedOption (l.map fun l => l.code), codedOption (l.map fun l => l.reply.code)]
  | .planner p latch =>
    [(16, some latch), codedByte p.xMode.code, codedOption (p.stopPoints[0]?.map fun e => e.head.code),
      codedOption (p.stopPoints[1]?.map fun e => e.head.code)]
  | .sequencer _ p => [codedByte p.state.code, codedByte (lastKindCode p.lastKind)]
  | .regulator _ r => [codedByte r.zMode.code, codedOption (r.exitRecord.map fun e => e.kind.code)]
  | .trim _ _ => []
  | .ring p => [codedByte p.state.code]
  | .lastGood _ => []
  | .faults _ image _ _ _ c _ => [(16, some image), codedByte c.table.code, codedByte c.head.code]

/-- Items at the given offsets, each with its width, lie apart within the 44 bytes of reply data. -/
def placesFit : List (Nat × Nat) → Bool
  | [] => true
  | p :: rest =>
    decide (p.1 + p.2 ≤ 44) && rest.all (fun q => decide (p.1 + p.2 ≤ q.1) || decide (q.1 + q.2 ≤ p.1)) &&
      placesFit rest

/-- Offsets of items that stand one behind the other from `o` on. -/
def packedPlaces : Nat → List Nat → List Nat
  | _, [] => []
  | o, w :: ws => o :: packedPlaces (o + w) ws

/-- The offsets of the coded items of a page: the free ones where they are a layout, that is, lie apart within the
reply data (log entry 4). -/
def pagePlaces (page : Nat) (widths : List Nat) : List Nat :=
  let free := Config.pageOffsets page
  if free.length = widths.length ∧ placesFit (free.zip widths) then free else packedPlaces 0 widths

/-- An item written at an offset of a page; an absent one leaves the page as it is. -/
def putItem (page : List Byte) (o : Nat) : Option (List Byte) → List Byte
  | some bytes => overwrite o bytes (slice 0 (max page.length (o + bytes.length)) page)
  | none => page

/-- The coded items written over a page one after another. -/
def putItems (page : List Byte) : List (Nat × Option (List Byte)) → List Byte
  | [] => page
  | (o, item) :: rest => putItems (putItem page o item) rest

/-- The bytes of a status page: its coded items at their offsets over the free rest (R173, R190, R197, log
entry 4). -/
def StatusPage.bytes (p : StatusPage) : List Byte :=
  let places := pagePlaces p.number (p.coded.map Prod.fst)
  putItems (Config.pageRest p) (places.zip (p.coded.map Prod.snd))

/-- The bytes of a reply's data. The layout of several numbers is not given by the manual (log entry 4). -/
def ReplyData.bytes : ReplyData → List Byte
  | .empty => []
  | .number n => bytesOf 2 n
  | .items l => Config.itemLayout l
  | .image bs => bs
  | .page p => p.bytes

/-- The reply data as it stands in the area: at most 44 bytes (R171). -/
def Reply.dataBytes (r : Reply) : List Byte :=
  r.data.bytes.take 44

/-- The detail of a reply: its first half-word of data, or 0 without data (R172). -/
def Reply.detail (r : Reply) : Nat :=
  fieldU 0 2 r.dataBytes

/-- The area check that makes the exclusive-or of an area 0 (R169, R171); `area` holds 0 in its place. -/
def sealArea (area : List Byte) : List Byte :=
  let c := xorHalves area
  overwrite 10 [c.setWidth 8, (c >>> 8).setWidth 8] area

/-- The reply written over a served area (R171, R191): `status` is the status echo. -/
def replyArea (strap : Nat) (code : BitVec 8) (q : Request) (r : Reply) (status : List Byte) : List Byte :=
  let data := r.dataBytes
  sealArea
    ([BitVec.ofNat 8 (128 + strap), code] ++ bytesOf 2 q.tag.toNat ++
      [BitVec.ofNat 8 r.code.code, BitVec.ofNat 8 data.length, q.table, q.head] ++
      bytesOf 2 q.index.toNat ++ [0, 0] ++ slice 0 44 data ++ status)

end Sys2Proof.Machine
end

