-- ==== Sys2Proof/Machine/Service.lean ====
section
/-! DEFINITION. The service unit (Chapter 10): the checks and the effects of each request on the state and its
reply, the last reply record, and the area as the node sends it on. A request's answer does not touch the ring
connection; `State.serve` writes the reply there. -/

namespace Sys2Proof.Machine

/-- What a request does: the state after it and its reply. -/
structure Answer where
  state : State
  reply : Reply
  deriving DecidableEq, Repr

/-- A request refused: no state changes (R170). -/
def State.refuse (s : State) (c : ReplyCode) : Answer :=
  ⟨s, c, .empty⟩

/-- A request refused with data in its reply. -/
def State.refuseWith (s : State) (c : ReplyCode) (d : ReplyData) : Answer :=
  ⟨s, c, d⟩

/-- A request taken, with the data of its reply. -/
def State.done (s : State) (d : ReplyData) : Answer :=
  ⟨s, .done, d⟩

/-! ## READ STATUS (R173) -/

/-- A head's sequencer page. -/
def Head.sequencerPage (x : Head) : SequencerPage where
  state := x.seq.state
  order := x.seq.order
  faultExit := x.seq.faultExit
  progress := x.seq.progress
  carried := x.seq.carried
  lastKind := x.seq.lastKind
  queued := x.seq.queue.length
  station := x.seq.station
  holdTimer := x.seq.holdTimer
  spinupTimer := x.seq.spinupTimer
  atSpeedCount := x.seq.atSpeedCount
  fired := x.fired

/-- The ring port's page. -/
def State.ringPage (s : State) : RingPage where
  state := s.ring.state
  missCount := s.ring.missCount
  early := s.ring.early
  short := s.ring.short
  badCheck := s.ring.badCheck
  reference := s.ring.reference
  stale := s.ring.stale
  overRangeA := s.ring.overRangeA
  overRangeB := s.ring.overRangeB
  fired := s.gantryFired

/-- The status page an index names (R173). -/
def State.statusPage (s : State) (index : Nat) : Option StatusPage :=
  match index with
  | 0 => some (.node s.lines s.ring.setNumber s.ring.coastCount s.pass s.service.lastReply)
  | 1 => some (.planner s.planner (latchImage s.planner.latchCount s.planner.latch))
  | 2 => some (.sequencer .a s.headA.sequencerPage)
  | 3 => some (.regulator .a s.headA.reg)
  | 4 => some (.trim .a s.headA.trim)
  | 5 => some (.sequencer .b s.headB.sequencerPage)
  | 6 => some (.regulator .b s.headB.reg)
  | 7 => some (.trim .b s.headB.trim)
  | 8 => some (.ring s.ringPage)
  | 9 => some (.lastGood s.ring.lastGood)
  | 10 => some (.faults s.events.fault (faultImage s.events.fault) s.events.faultCount s.events.mask
      s.service.stream.isSome s.service.context s.service.staging.length)
  | _ => none

/-- READ STATUS (R173). -/
def answerReadStatus (s : State) (r : Request) : Answer :=
  match s.statusPage r.index.toNat with
  | some p => s.done (.page p)
  | none => s.refuse .index

/-! ## READ RECORD (R174) -/

/-- A segment of a head's queue, with the number queued (R33). -/
def readSegmentRecord (s : State) (h : HeadId) (index : Nat) : Answer :=
  let q := (s.head h).seq.queue
  match q[index]? with
  | some g => s.done (.image (g.image ++ bytesOf 2 q.length))
  | none => s.refuse .index

/-- A point of a head's map with the count, or the map header (R111). -/
def readMapRecord (s : State) (h : HeadId) (index : Nat) : Answer :=
  let m := (s.head h).map
  if index = 65535 then s.done (.image m.headerImage)
  else
    match m.points[index]? with
    | some p => s.done (.image (p.image ++ bytesOf 2 m.points.length))
    | none => s.refuse .index

/-- A guard record with its run fields (R133). -/
def readGuardRecord (s : State) (index : Nat) : Answer :=
  match s.guards[index]? with
  | some g => s.done (.image g.image)
  | none => s.refuse .index

/-- The gantry profile (R142). -/
def readGantryRecord (s : State) (index : Nat) : Answer :=
  if index = 0 then s.done (.image s.gantry.image) else s.refuse .index

/-- A page of a head profile (R144). -/
def readPageRecord (s : State) (h : HeadId) (index : Nat) : Answer :=
  if index ≤ 3 then s.done (.image ((s.head h).profile.pageImage index)) else s.refuse .index

/-- A slot map entry as last written (R153). -/
def readSlotRecord (s : State) (index : Nat) : Answer :=
  match s.slotMap[index]? with
  | some e => s.done (.image e.image)
  | none => s.refuse .index

/-- A request on a head's table: the head selector names A or B (R30, R32, R109, R144, R174). -/
def State.onHead (s : State) (r : Request) (f : HeadId → Answer) : Answer :=
  match headOfCode r.head.toNat with
  | some h => f h
  | none => s.refuse .value

/-- READ RECORD (R174). -/
def answerReadRecord (s : State) (r : Request) : Answer :=
  let i := r.index.toNat
  match Table.ofCode r.table.toNat with
  | none => s.refuse .value
  | some .segment => s.onHead r fun h => readSegmentRecord s h i
  | some .map => s.onHead r fun h => readMapRecord s h i
  | some .guard => readGuardRecord s i
  | some .gantryProfile => readGantryRecord s i
  | some .headProfile => s.onHead r fun h => readPageRecord s h i
  | some .slotMap => readSlotRecord s i

/-! ## WRITE RECORD (R175) -/

/-- The length field of a write equals the length of its record (R175). -/
def State.ofLength (s : State) (r : Request) (n : Nat) (a : Answer) : Answer :=
  if r.length.toNat = n then a else s.refuse .value

/-- A map point, tested and written (R109, R110). -/
def writePoint (s : State) (h : HeadId) (k : Nat) (p : MapPoint) : Answer :=
  let m := (s.head h).map
  match checkPoint m.fence m.points k p with
  | .done =>
    let points := putPoint m.points k p
    (s.modMap h fun m => { m with points := points }).done (.number points.length)
  | .fence => (s.refuseFence h k).refuse .fence
  | c => s.refuse c

/-- A head is IDLE, FINISHED or STOPPED. -/
def State.outOfPass (s : State) (h : HeadId) : Bool :=
  !(s.headState h).working

/-- The map header: its point count may only fall (R111). -/
def writeHeader (s : State) (h : HeadId) (n : Nat) : Answer :=
  let m := (s.head h).map
  if m.points.length < n then s.refuse .value
  else if n = m.points.length then s.done (.number n)
  else if !(s.outOfPass h || !s.active) then s.refuse .state
  else if !passesFence m.fence m.points n then (s.refuseFence h n).refuse .fence
  else (s.modMap h fun m => { m with points := m.points.take n }).done (.number n)

/-- A guard record is replaced whole (R115). -/
def State.putGuard (s : State) (i : Nat) (g : GuardRecord) : State :=
  { s with guards := s.guards.set i g }

/-- A guard record, written while no pass is active (R115, R175). -/
def writeGuard (s : State) (i : Nat) (bs : List Byte) : Answer :=
  if s.active then s.refuse .state
  else if 12 ≤ i then s.refuse .index
  else
    match readGuard bs with
    | some g => (s.putGuard i g).done .empty
    | none => s.refuse .value

/-- The gantry profile is replaced; a mark filter counter above the new filter comes down to it, and the line must then
read negated before a further edge (R142). -/
def State.putGantry (s : State) (g : GantryProfile) : State :=
  { s with
    gantry := g
    planner := { s.planner with
      markCount := min s.planner.markCount g.markFilter
      markHeld := s.planner.markHeld || decide (g.markFilter < s.planner.markCount) } }

/-- The gantry profile, written in CONFIG (R142). -/
def writeGantry (s : State) (i : Nat) (bs : List Byte) : Answer :=
  if s.service.mode ≠ .config then s.refuse .state
  else if i ≠ 0 then s.refuse .index
  else
    match firstFalse (gantryChecks bs) with
    | some field => s.refuseWith .value (.number field)
    | none => (s.putGantry (readGantry bs)).done .empty

/-- The mode and the head state admit a write to a head's profile (R144). -/
def State.profileOpen (s : State) (h : HeadId) : Bool :=
  decide (s.service.mode = .config) || s.outOfPass h || decide (s.headState h = .waiting)

/-- Checks 3 to 5 of R144 and the write of a page. -/
def writePage (s : State) (h : HeadId) (page : Nat) (bs : List Byte) : Answer :=
  let refuseField := fun (field : Nat) => s.refuseWith .value (.items [page, field])
  if !s.profileOpen h then s.refuse .state
  else
    match firstFalse (pageChecks page bs) with
    | some field => refuseField field
    | none =>
      let p := (s.head h).profile.withPage page bs
      match s.service.mode, p.brokenRelation page with
      | .config, _ => (s.modHead h fun x => { x with profile := p }).done .empty
      | _, none => (s.modHead h fun x => { x with profile := p }).done .empty
      | _, some field => refuseField field

/-- A slot map entry, written in CONFIG (R153). -/
def writeSlot (s : State) (i : Nat) (bs : List Byte) : Answer :=
  if s.service.mode ≠ .config then s.refuse .state
  else if 28 ≤ i then s.refuse .index
  else
    match readSlot bs with
    | some e => ({ s with slotMap := s.slotMap.set i e } : State).done .empty
    | none => s.refuse .value

/-- The bytes of a WRITE RECORD's payload that hold a record of `n` bytes. -/
def recordOf (r : Request) (n : Nat) : List Byte :=
  slice 0 n r.payload

/-- WRITE RECORD naming a segment queue is refused in every mode (R33, R175). -/
def answerWriteSegment (s : State) (r : Request) : Answer :=
  s.onHead r fun _ => s.refuse .value

/-- WRITE RECORD naming a map's header (R111, R175). -/
def answerWriteMapHeader (s : State) (r : Request) : Answer :=
  s.onHead r fun h => s.ofLength r 10 (writeHeader s h (fieldU 0 2 r.payload))

/-- WRITE RECORD naming a map's point, or its header at index 65535 (R109, R111, R175). -/
def answerWriteMap (s : State) (r : Request) : Answer :=
  if r.index.toNat = 65535 then answerWriteMapHeader s r
  else s.onHead r fun h => s.ofLength r 8 (writePoint s h r.index.toNat (readPoint (recordOf r 8)))

/-- WRITE RECORD naming the guard table (R115, R175). -/
def answerWriteGuard (s : State) (r : Request) : Answer :=
  s.ofLength r 16 (writeGuard s r.index.toNat (recordOf r 16))

/-- WRITE RECORD naming the gantry profile (R142, R175). -/
def answerWriteGantry (s : State) (r : Request) : Answer :=
  s.ofLength r 42 (writeGantry s r.index.toNat (recordOf r 42))

/-- WRITE RECORD naming a head profile (R144, R175). -/
def answerWriteHeadProfile (s : State) (r : Request) : Answer :=
  let page := r.index.toNat
  s.onHead r fun h =>
    if 3 < page then s.refuse .index
    else s.ofLength r (pageLength page) (writePage s h page (recordOf r (pageLength page)))

/-- WRITE RECORD naming the slot map (R153, R175). -/
def answerWriteSlotMap (s : State) (r : Request) : Answer :=
  s.ofLength r 3 (writeSlot s r.index.toNat (recordOf r 3))

/-- WRITE RECORD (R175). -/
def answerWriteRecord (s : State) (r : Request) : Answer :=
  match Table.ofCode r.table.toNat with
  | none => s.refuse .value
  | some .segment => answerWriteSegment s r
  | some .map => answerWriteMap s r
  | some .guard => answerWriteGuard s r
  | some .gantryProfile => answerWriteGantry s r
  | some .headProfile => answerWriteHeadProfile s r
  | some .slotMap => answerWriteSlotMap s r

/-! ## Queues -/

/-- The successor order: the kinds that may follow a reference kind (R28). -/
def mayFollow (reference : Option SegKind) (k : SegKind) : Bool :=
  match reference, k with
  | none, .start => true
  | some .start, .dwell => true
  | some .start, .traverse => true
  | some .dwell, .dwell => true
  | some .dwell, .traverse => true
  | some .dwell, .exit => true
  | some .traverse, .traverse => true
  | some .traverse, .dwell => true
  | some .traverse, .exit => true
  | some .exit, .start => true
  | _, _ => false

/-- The reference kind of an append: the last record's, or the last completed kind of an empty queue (R29). -/
def Sequencer.reference (q : Sequencer) : Option SegKind :=
  match q.queue.getLast? with
  | some g => some g.kind
  | none => q.lastKind

/-- A record placed at the tail of a head's queue (R30). -/
def State.append (s : State) (h : HeadId) (g : Segment) : State :=
  s.modSeq h fun q => { q with queue := q.queue ++ [g] }

/-- Checks 2 to 4 of R30 and the append. -/
def appendRecord (s : State) (h : HeadId) (bs : List Byte) : Answer :=
  let x := s.head h
  if 16 ≤ x.seq.queue.length then s.refuse .full
  else
    match readSegment x.profile.depth.dMax bs with
    | none => s.refuse .value
    | some g =>
      if mayFollow x.seq.reference g.kind then (s.append h g).done (.number (x.seq.queue.length + 1))
      else s.refuse .order

/-- APPEND SEGMENT (R30). -/
def answerAppend (s : State) (r : Request) : Answer :=
  s.onHead r fun h => appendRecord s h (recordOf r 16)

/-- The records CANCEL PENDING removes from a working head, or from one out of the pass (R32). -/
def State.cancel (s : State) (h : HeadId) : State :=
  if s.outOfPass h then s.modSeq h fun q => { q with queue := [], lastKind := none } else s.dropPending h

/-- CANCEL PENDING (R32). -/
def answerCancel (s : State) (r : Request) : Answer :=
  s.onHead r fun h =>
    let t := s.cancel h
    t.done (.number ((s.head h).seq.queue.length - (t.head h).seq.queue.length))

/-! ## Streams -/

/-- STREAM OPEN (R178). The head of a GUARD stream is not tested: the context keeps the one the request names, and
head A where it names neither, which nothing reads (R168, log entry 51). -/
def answerStreamOpen (s : State) (r : Request) : Answer :=
  let head := headOfCode (fieldU 1 1 r.payload)
  let count := fieldU 4 2 r.payload
  match s.service.stream with
  | some _ => s.refuse .busy
  | none =>
    match streamTableOfCode (fieldU 0 1 r.payload) with
    | none => s.refuse .value
    | some table =>
      if (decide (table ≠ .guard) && head.isNone) || !within 1 64 count then s.refuse .value
      else
        let c : Stream :=
          { table := table
            head := head.getD .a
            first := fieldU 2 2 r.payload
            count := count
            remaining := count
            expected := BitVec.ofNat 16 (fieldU 6 2 r.payload)
            idle := 0 }
        ({ s with service := { s.service with stream := some c, staging := [] } } : State).done .empty

/-- A SEGMENT stream's records tested from position `pos`: read, and in successor order (R33, R180). -/
def checkSegments (dMax : Int) : Option SegKind → Nat → List (List Byte) → List Segment ⊕ (Nat × ReplyCode)
  | _, _, [] => .inl []
  | reference, pos, bs :: rest =>
    match readSegment dMax bs with
    | none => .inr (pos, .value)
    | some g =>
      if mayFollow reference g.kind then
        match checkSegments dMax (some g.kind) (pos + 1) rest with
        | .inl gs => .inl (g :: gs)
        | .inr e => .inr e
      else .inr (pos, .order)

/-- A completed SEGMENT stream (R33, R180). -/
def applySegments (s : State) (h : HeadId) (records : List (List Byte)) : Answer :=
  let q := (s.head h).seq
  if 16 < q.queue.length + records.length then s.refuseWith .full (.number 0)
  else
    match checkSegments (s.head h).profile.depth.dMax q.reference 0 records with
    | .inl gs => (s.modSeq h fun q => { q with queue := q.queue ++ gs }).done (.number gs.length)
    | .inr (pos, c) => s.refuseWith c (.number pos)

/-- A completed MAP stream (R112, R180). -/
def applyPoints (s : State) (h : HeadId) (first : Nat) (records : List (List Byte)) : Answer :=
  let m := (s.head h).map
  match checkPoints m.fence (records.map readPoint) 0 first m.points with
  | .inl points => (s.modMap h fun m => { m with points := points }).done (.number records.length)
  | .inr (pos, c) =>
    let t := if c = .fence then s.refuseFence h (first + pos) else s
    t.refuseWith c (.items [pos, (first + pos : Nat)])

/-- A GUARD stream's records tested from position `pos`, bound for index `k` (R115, R180). -/
def checkGuards : Nat → Nat → List (List Byte) → List GuardRecord ⊕ (Nat × ReplyCode)
  | _, _, [] => .inl []
  | pos, k, bs :: rest =>
    if 12 ≤ k then .inr (pos, .index)
    else
      match readGuard bs with
      | none => .inr (pos, .value)
      | some g =>
        match checkGuards (pos + 1) (k + 1) rest with
        | .inl gs => .inl (g :: gs)
        | .inr e => .inr e

/-- Guard records written at consecutive indices from `k` on. -/
def putGuards : Nat → List GuardRecord → State → State
  | _, [], s => s
  | k, g :: gs, s => putGuards (k + 1) gs (s.putGuard k g)

/-- A completed GUARD stream (R180). -/
def applyGuards (s : State) (first : Nat) (records : List (List Byte)) : Answer :=
  if s.active then s.refuseWith .state (.items [0, first])
  else
    match checkGuards 0 first records with
    | .inl gs => (putGuards first gs s).done (.number gs.length)
    | .inr (pos, c) => s.refuseWith c (.items [pos, (first + pos : Nat)])

/-- A stream is complete: its check is compared, and its records are applied all together or not at all. The
stream closes in every case (R180). -/
def completeStream (s : State) (c : Stream) (records : List (List Byte)) : Answer :=
  let formed := xorHalves records.flatten
  let s := s.closeStream
  if formed ≠ c.expected then s.refuseWith .check (.number formed.toNat)
  else
    match c.table with
    | .segment => applySegments s c.head records
    | .map => applyPoints s c.head c.first records
    | .guard => applyGuards s c.first records

/-- The `n` stream records that a STREAM DATA carries (R177, R179). -/
def streamRecordsOf (r : Request) (n : Nat) : List (List Byte) :=
  (List.range n).map fun i => slice (16 * i) 16 r.payload

/-- STREAM DATA (R179, R180). -/
def answerStreamData (s : State) (r : Request) : Answer :=
  let n := r.length.toNat / 16
  match s.service.stream with
  | none => s.refuse .state
  | some c =>
    if c.remaining < n then s.refuse .value
    else
      let records := s.service.staging ++ streamRecordsOf r n
      if c.remaining = n then completeStream s c records
      else
        let c := { c with remaining := c.remaining - n, idle := 0 }
        ({ s with service := { s.service with stream := some c, staging := records } } : State).done
          (.number c.remaining)

/-- STREAM CANCEL (R181). -/
def answerStreamCancel (s : State) (_r : Request) : Answer :=
  match s.service.stream with
  | some c => s.closeStream.done (.items [1, c.remaining])
  | none => s.done (.number 0)

/-! ## Passes -/

/-- The order a PASS START carries, if its heads, its datum mode and its linked byte are codes of their tables (R3,
R189, R191, log entry 5). -/
def readPassOrder (bs : List Byte) : Option PassOrder :=
  match headSetOfCode (fieldU 2 1 bs), datumModeOfCode (fieldU 3 1 bs), linkedOfCode (fieldU 4 1 bs) with
  | some .none, _, _ => none
  | some heads, some mode, some linked =>
    some { number := fieldU 0 2 bs, heads := heads, mode := mode, linked := linked, datum := fieldS 6 4 bs }
  | _, _, _ => none

/-- A head whose oldest queued record is a START. -/
def State.startsWithStart (s : State) (h : HeadId) : Bool :=
  match (s.head h).seq.queue.head? with
  | some (.start _ _ _ _) => true
  | _ => false

/-- PASS START (R3, R4). -/
def answerPassStart (s : State) (r : Request) : Answer :=
  if s.service.mode ≠ .ready then s.refuse .state
  else if s.active then s.refuse .state
  else if s.lines.stop then s.refuse .state
  else
    match readPassOrder r.payload with
    | none => s.refuse .value
    | some o =>
      if !(o.heads.members.all fun h => s.gantry.present.has h) then s.refuse .value
      else
        match o.heads.members.find? fun h => !s.startsWithStart h with
        | some h => s.refuseWith .state (.number h.code)
        | none => (s.startPass o).done .empty

/-- PASS HOLD (R8). -/
def answerPassHold (s : State) (_r : Request) : Answer :=
  if s.service.mode ≠ .ready then s.refuse .state
  else if !s.active then s.refuse .state
  else (s.holdOrder .request).done .empty

/-- PASS RESUME (R9). -/
def answerPassResume (s : State) (_r : Request) : Answer :=
  let held := decide (s.pass.state = .held) ||
    (decide (s.pass.state = .approach) && decide (s.pass.holdCause ≠ .none))
  if s.service.mode ≠ .ready then s.refuse .state
  else if !held then s.refuse .state
  else if s.planner.xMode = .quickstop then s.refuse .state
  else if s.pass.holdCause = .ring ∧ s.ring.state ≠ .up then s.refuse .state
  else s.resumePass.done .empty

/-- PASS ABORT (R11). -/
def answerPassAbort (s : State) (_r : Request) : Answer :=
  if s.service.mode ≠ .ready then s.refuse .state
  else if !s.active then s.refuse .state
  else s.abortPass.done .empty

/-! ## Node modes -/

/-- The first of some channels that is not enabled in the slot map (R136). -/
def State.firstDisabled (s : State) (ids : List Nat) : Option Nat :=
  ids.find? fun id =>
    match s.slotMap[id]? with
    | some e => !e.enabled
    | none => true

/-- The channels of the present heads, in id order (R136, check 6). -/
def HeadSet.channels (p : HeadSet) : List Nat :=
  (if p.has .a then [0, 1, 2, 3, 4, 5, 6] else []) ++ (if p.has .b then [7, 8, 9, 10, 11, 12, 13] else []) ++
    (if p.has .a then [17, 18, 19, 20] else []) ++ (if p.has .b then [21, 22, 23, 24] else [])

/-- The enabled entries of the slot map, with their ids, in id order. -/
def State.enabledSlots (s : State) : List (Nat × SlotEntry) :=
  (List.range 28).filterMap fun id =>
    match s.slotMap[id]? with
    | some e => if e.enabled then some (id, e) else none
    | none => none

/-- An enabled slot lies within payload bytes 64 to 1023 (R136, check 7). -/
def slotInside (e : Nat × SlotEntry) : Bool :=
  decide (64 ≤ e.2.offset) && e.2.within e.1 1024

/-- Two slots share a byte (R136, check 8). -/
def slotsOverlap (e f : Nat × SlotEntry) : Bool :=
  decide (e.2.offset < f.2.offset + channelWidth f.1) && decide (f.2.offset < e.2.offset + channelWidth e.1)

/-- The first overlapping pair: the lowest id that overlaps a lower id, and the lowest id it overlaps (R136,
check 8). `seen` holds the lower ids in id order. -/
def firstOverlap (seen : List (Nat × SlotEntry)) : List (Nat × SlotEntry) → Option (Nat × Nat)
  | [] => none
  | e :: rest =>
    match seen.find? fun f => slotsOverlap e f with
    | some f => some (e.1, f.1)
    | none => firstOverlap (seen ++ [e]) rest

/-- The relations of a present head's profile (R136, checks 3 and 4). -/
def State.presentBroken (s : State) (h : HeadId) : Option (Nat × Nat) :=
  if s.gantry.present.has h then (s.head h).profile.firstBroken else none

/-- The eight checks of ENTER READY in order: the data of the reply of the first that fails (R136). -/
def State.readyFailure (s : State) : Option ReplyData :=
  if s.gantry.present = .none then some (.number 1)
  else if s.gantry.xMax < s.gantry.approachSpeed then some (.number 2)
  else
    match s.presentBroken .a, s.presentBroken .b with
    | some (page, field), _ => some (.items [3, page, field])
    | none, some (page, field) => some (.items [4, page, field])
    | none, none =>
      match s.firstDisabled [14, 15, 16, 25, 26, 27], s.firstDisabled s.gantry.present.channels with
      | some id, _ => some (.items [5, id])
      | none, some id => some (.items [6, id])
      | none, none =>
        match s.enabledSlots.find? fun e => !slotInside e with
        | some e => some (.items [7, e.1])
        | none =>
          match firstOverlap [] s.enabledSlots with
          | some (i, j) => some (.items [8, i, j])
          | none => none

/-- The slot map is put in force, the sequence references are cleared and the mode becomes READY (R137). -/
def State.enterReady (s : State) : State :=
  { s with
    service := { s.service with mode := .ready }
    inForce := some s.slotMap
    ring := { s.ring with reference := ⟨none, none, none⟩ } }

/-- ENTER READY (R136, R137). -/
def answerEnterReady (s : State) (_r : Request) : Answer :=
  if s.service.mode ≠ .config then s.refuse .state
  else
    match s.readyFailure with
    | some d => s.refuseWith .value d
    | none => s.enterReady.done .empty

/-- ENTER CONFIG (R138). -/
def answerEnterConfig (s : State) (_r : Request) : Answer :=
  if s.service.mode = .config then s.done .empty
  else if s.active then s.refuse .state
  else ({ s with service := { s.service with mode := .config }, inForce := none } : State).done .empty

/-- A head is in WITHDRAW or SPINDOWN (R140). -/
def State.clearing (s : State) (h : HeadId) : Bool :=
  decide (s.headState h = .withdraw) || decide (s.headState h = .spindown)

/-- The fault record is emptied, the fault count becomes 0, and FAULT becomes READY (R140, R187). -/
def State.clearFault (s : State) : State :=
  { s with
    events := { s.events with fault := none, faultCount := 0 }
    service := { s.service with mode := if s.service.mode = .fault then .ready else s.service.mode } }

/-- CLEAR FAULT (R140). -/
def answerClearFault (s : State) (_r : Request) : Answer :=
  if s.clearing .a || s.clearing .b then s.refuse .state
  else if s.lines.stop then s.refuse .state
  else s.clearFault.done .empty

/-! ## Events and reset -/

/-- TAKE EVENT (R185): the pending set is held in the order of priority. -/
def answerTakeEvent (s : State) (_r : Request) : Answer :=
  ({ s with events := { s.events with entries := s.events.entries.tail } } : State).done
    (.image (eventImage s.events.entries.head?))

/-- The entries of the kinds a mask enables. -/
def keepEnabled (mask : BitVec 15) (entries : List EventEntry) : List EventEntry :=
  entries.filter fun e => mask.getLsbD (e.kind.num - 1)

/-- SET EVENT MASK (R186). -/
def answerSetEventMask (s : State) (r : Request) : Answer :=
  let flags := fieldU 0 2 r.payload
  if 32768 ≤ flags then s.refuse .value
  else
    let kept := keepEnabled (BitVec.ofNat 15 flags) s.events.entries
    ({ s with events := { s.events with mask := BitVec.ofNat 15 flags, entries := kept } } : State).done
      (.items [(flags : Int), (s.events.entries.length - kept.length : Nat)])

/-- RESET NODE: the reset is taken at the completion of the frame that carries the reply (R176). -/
def answerResetNode (s : State) (_r : Request) : Answer :=
  if s.active then s.refuse .state
  else ({ s with service := { s.service with resetDue := true } } : State).done .empty

/-- An area whose code names no request (R170). -/
def answerUnknown (s : State) (_r : Request) : Answer :=
  s.refuse .unknown

/-! ## Serving -/

/-- Check 2 of R170: the length of the request's layout (R191). WRITE RECORD tests its own. -/
def RequestKind.lengthOk (k : RequestKind) (n : Nat) : Bool :=
  match k with
  | .writeRecord => true
  | .appendSegment => decide (n = 16)
  | .streamOpen => decide (n = 8)
  | .streamData => decide (n = 16) || decide (n = 32) || decide (n = 48)
  | .passStart => decide (n = 10)
  | .setEventMask => decide (n = 2)
  | .readStatus => decide (n = 0)
  | .readRecord => decide (n = 0)
  | .cancelPending => decide (n = 0)
  | .streamCancel => decide (n = 0)
  | .passHold => decide (n = 0)
  | .passResume => decide (n = 0)
  | .passAbort => decide (n = 0)
  | .enterReady => decide (n = 0)
  | .enterConfig => decide (n = 0)
  | .takeEvent => decide (n = 0)
  | .clearFault => decide (n = 0)
  | .resetNode => decide (n = 0)

/-- The checks and effects of each request (10.4). -/
def RequestKind.answer : RequestKind → State → Request → Answer
  | .readStatus => answerReadStatus
  | .readRecord => answerReadRecord
  | .writeRecord => answerWriteRecord
  | .appendSegment => answerAppend
  | .cancelPending => answerCancel
  | .streamOpen => answerStreamOpen
  | .streamData => answerStreamData
  | .streamCancel => answerStreamCancel
  | .passStart => answerPassStart
  | .passHold => answerPassHold
  | .passResume => answerPassResume
  | .passAbort => answerPassAbort
  | .enterReady => answerEnterReady
  | .enterConfig => answerEnterConfig
  | .takeEvent => answerTakeEvent
  | .setEventMask => answerSetEventMask
  | .clearFault => answerClearFault
  | .resetNode => answerResetNode

/-- READ STATUS and READ RECORD leave the last reply record as it stands (R172). -/
def RequestKind.reads : RequestKind → Bool
  | .readStatus => true
  | .readRecord => true
  | _ => false

/-- The last reply record takes a request's answer (R172). -/
def State.recordReply (s : State) (code : Nat) (r : Request) (reply : Reply) : State :=
  { s with service := { s.service with
      lastReply := some ⟨code, r.tag, reply.code, reply.detail, s.ring.setNumber⟩ } }

/-- The reply is written over the area, with the status echo after the request's effects (R171). -/
def State.writeReply (s : State) (code : BitVec 8) (r : Request) (reply : Reply) : State :=
  { s with port := { s.port with
      reply := some reply
      area := some (replyArea s.lines.strap.toNat code r reply s.statusBytes) } }

/-- A request answered: checks 1 and 2 of R170, the request's own checks and effects, and the last reply record
(R170, R172). -/
def State.answerRequest (s : State) (k : RequestKind) (r : Request) : Answer :=
  let a := if k.lengthOk r.length.toNat then k.answer s r else s.refuse .value
  if k.reads then a else ⟨a.state.recordReply k.code r a.reply, a.reply⟩

/-- A request served on its area (R169 to R172). -/
def State.serve (s : State) (k : RequestKind) (r : Request) : State :=
  let a := s.answerRequest k r
  a.state.writeReply (BitVec.ofNat 8 k.code) r a.reply

/-- An area whose code names no request, served (R170 to R172). -/
def State.serveUnknown (s : State) (code : BitVec 8) (r : Request) : State :=
  let a := answerUnknown s r
  (a.state.recordReply code.toNat r a.reply).writeReply code r a.reply

/-- A served area, by its request code (R170). -/
def State.serveCode (s : State) (code : BitVec 8) (r : Request) : State :=
  match RequestKind.ofCode code.toNat with
  | some k => s.serve k r
  | none => s.serveUnknown code r

/-- The strap address is an answering address (R150, R169). -/
def Lines.answers (l : Lines) : Bool :=
  decide (1 ≤ l.strap.toNat) && decide (l.strap.toNat ≤ 62)

/-- The node serves areas addressed to it: it is ready and its strap address is an answering one (R146, R150,
R169). -/
def State.serving (s : State) : Bool :=
  decide (s.power = .running) && s.lines.answers

/-- An area sent on unchanged: no reply is written (R169). -/
def State.passArea (s : State) : State :=
  { s with port := { s.port with reply := none, area := none } }

/-- A request addressed to the node whose area check is good. A node that does not serve sends the area on
(R169). -/
def State.request (s : State) (k : RequestKind) (r : Request) : State :=
  if s.serving then s.serve k r else s.passArea

/-- The same for an area whose code names no request (R169, R170). -/
def State.requestUnknown (s : State) (code : BitVec 8) (r : Request) : State :=
  if s.serving then s.serveUnknown code r else s.passArea

/-! ## A frame passes the node -/

/-- The area of a frame is addressed to the node, and its exclusive-or is 0 (R169). -/
def State.addressed (s : State) (area : List Byte) : Bool :=
  decide (fieldU 0 1 area = s.lines.strap.toNat) && decide (xorHalves area = 0)

/-- The service area of a passing frame, served or sent on (R169). -/
def State.serveArea (s : State) (payload : List Byte) : State :=
  let area := payload.take 64
  if 64 ≤ payload.length ∧ s.serving ∧ s.addressed area then
    s.serveCode (BitVec.ofNat 8 (fieldU 1 1 area)) (readArea area)
  else s.passArea

/-- The payload with the area as the node sends it on (R151, R171). -/
def State.payloadOut (s : State) (payload : List Byte) : List Byte :=
  match s.port.area with
  | some area => overwrite 0 area payload
  | none => payload

/-- How the frame check leaves the node (R151). -/
def checkOut (written good : Bool) : CheckOut :=
  if !written then .unchanged else if good then .regenerated else .bad

/-- A frame passes a ready node: its area is served, the output slots and STATUS are written, and its check
leaves by R151. It then waits for its completion. -/
def State.carryFrame (s : State) (f : Frame) : State :=
  let t := s.serveArea f.payload
  let slots := (t.writtenIds f.payload.length).map t.slotOffset
  let written := if t.port.area.isSome then 0 :: slots else slots
  let out := t.writeSlots (t.payloadOut f.payload)
  { t with port := { t.port with
      passing := some ⟨f.payload, f.checkGood, written⟩
      outgoing := some ⟨out, checkOut (!written.isEmpty) f.checkGood⟩ } }

/-- A frame passes a node that is not ready: it leaves as it arrived (R146). -/
def State.passFrame (s : State) (f : Frame) : State :=
  { s with port := ⟨none, some ⟨f.payload, .unchanged⟩, none, none⟩ }

end Sys2Proof.Machine
end

