-- ==== Sys2Proof/Machine/Frames.lean ====
section
/-! DEFINITION. The meanings of the commands of the ring: a frame passes, a frame completes, the cycle window
expires, and the ring port's own events (Chapter 9, R182). -/

namespace Sys2Proof.Machine

/-- An event of the node's blocks: it comes about only in a node that is ready (R146). -/
def State.ifRunning (s t : State) : State :=
  if s.power = .running then t else s

/-- The completion of the frame that is passing: the reset of RESET NODE is taken, or the frame is tested (R155,
R176). Without a frame there is nothing to complete. -/
def State.completeFrame (s : State) (now : Nat) (pins : Pins) : State :=
  if s.service.resetDue then s.afterReset pins.straps .running
  else
    match s.port.passing with
    | some f => ({ s with port := { s.port with passing := none } } : State).testFrame f now pins
    | none => s

/-- CYCLE_FRAME (R151). -/
def execCycleFrame (f : Frame) (s : State) : Host.Outcome State Fault Refusal :=
  .next (if s.power = .running then s.carryFrame f else s.passFrame f)

/-- FRAME_COMPLETION (R155). -/
def execFrameCompletion (now : Nat) (pins : Pins) (s : State) : Host.Outcome State Fault Refusal :=
  .next (s.ifRunning (s.completeFrame now pins))

/-- CYCLE_WINDOW_EXPIRY (R162). -/
def execCycleWindowExpiry (stop : Bool) (s : State) : Host.Outcome State Fault Refusal :=
  .next (s.ifRunning (s.expireWindow stop))

/-- RING_LOST (R163). Taken by itself, a HALT all that it sends forms no withdraw step, and v_h of a head that leaves
TRAVERSE stands, until the next set: the model's choice (R90, R99, log entries 48 and 66). -/
def execRingLost (s : State) : Host.Outcome State Fault Refusal :=
  .next (s.ifRunning s.ringLoss)

/-- HOLD_WINDOW_REACHED (R10). Taken by itself, its HALT all forms no withdraw step, and v_h of a head that leaves
TRAVERSE stands, until the next set: the model's choice (R90, R99, log entries 48 and 66). -/
def execHoldWindowReached (s : State) : Host.Outcome State Fault Refusal :=
  .next (s.ifRunning s.holdWindowReached)

/-- STREAM_EXPIRED (R182). -/
def execStreamExpired (s : State) : Host.Outcome State Fault Refusal :=
  .next (s.ifRunning s.expireStream)

end Sys2Proof.Machine
end

