-- ==== Sys2Proof/Machine/Occurrences.lean ====
section
/-! DEFINITION. The meanings of the events that come about inside a set, each as a command of its own: it is
judged on the state as it stands, and changes nothing where its condition does not hold (log entry 2). Taken by itself
such a command does what its rule gives for the event, and what the rules form on a set (the demand and the Z mode, the
targets, v_h and the spindle command of a TRAVERSE, the stations, the fences, the fired flags and windows of guards that
are disarmed) stands until the next set: the model's choice (log entries 48, 49, 56, 59 and 66). -/

namespace Sys2Proof.Machine

/-- A cause is taken if it is due, and the pass-end test follows (R12). Taken by itself, outside the work of a set, it
leaves its fired flag set and the demand, the Z mode and v_h as they were, although its order may have disarmed the guard
and moved the head; the next set clears the one and forms the others: the model's choice (R99, R123, R126, R127, log
entries 48 and 66). -/
def State.takeIf (s : State) (due : Bool) (c : Cause) : State :=
  if due then (s.takeCause c).testPassEnd else s

/-- FILTERED_MARK_EDGE (R53). The head stations stand until the next set forms them with the new X0: the model's choice
(R51, R54, log entry 66). -/
def execFilteredMarkEdge (s : State) : Host.Outcome State Fault Refusal :=
  .next (s.ifRunning s.markEdge)

/-- ARRIVAL (R6). -/
def execArrival (s : State) : Host.Outcome State Fault Refusal :=
  .next (s.ifRunning s.arrival)

/-- SPINUP_START (R14). The regulator is cleared and the spindle commanded; the demand, the Z mode and the fence stand
until the next set: the model's choice (R71, R106, log entries 49 and 66). -/
def execSpinupStart (h : HeadId) (s : State) : Host.Outcome State Fault Refusal :=
  .next (s.ifRunning (s.startSpinup h))

/-- AT_SPEED (R15). The head is in DESCENT without the first descent step, which R81 forms on the set of entry, and its
Z mode stands until the next set: the model's choice (log entry 66). -/
def execAtSpeed (h : HeadId) (s : State) : Host.Outcome State Fault Refusal :=
  .next (s.ifRunning (s.atSpeed h))

/-- SPINUP_TIMEOUT (R129). -/
def execSpinupTimeout (h : HeadId) (s : State) : Host.Outcome State Fault Refusal :=
  .next (s.ifRunning (s.takeIf (s.spinupTimeoutDue h) (.spinupTimeout h (s.head h).seq.spinupTimer)))

/-- CONTACT (R81). The phase is SEAT, and the demand stands: the SEAT regulation that R81 makes on the set of contact is
made on the next accepted set: the model's choice (R83, log entry 66). -/
def execContact (h : HeadId) (s : State) : Host.Outcome State Fault Refusal :=
  .next (s.ifRunning (s.takeContact h))

/-- NO_CONTACT (R82). -/
def execNoContact (h : HeadId) (s : State) : Host.Outcome State Fault Refusal :=
  .next (s.ifRunning (s.takeIf (s.noContactDue h) (.noContact h (s.input h .force))))

/-- SEAT_COMPLETE (R83). The demand, the targets and v_h stand until the next set, also where the run through the queue
enters an EXIT or a TRAVERSE: the model's choice (R72, R86, R87, R99, log entries 48 and 66). -/
def execSeatComplete (h : HeadId) (s : State) : Host.Outcome State Fault Refusal :=
  .next (s.ifRunning (s.seatComplete h))

/-- DWELL_END (R39). The demand, the targets and v_h of the record that follows are formed on the next set: the model's
choice (R72, R86, R87, R99, log entries 48 and 66). -/
def execDwellEnd (h : HeadId) (s : State) : Host.Outcome State Fault Refusal :=
  .next (s.ifRunning (s.dwellEnd h))

/-- REPETITION_END (R40). The demand, the targets, v_h and the spindle command stand until the next set, also where the
head leaves TRAVERSE: the model's choice (R72, R99, R100, log entries 48 and 66). -/
def execRepetitionEnd (h : HeadId) (s : State) : Host.Outcome State Fault Refusal :=
  .next (s.ifRunning (s.repetitionEnd h))

/-- TRAVERSE_COMPLETES_AT_REST (R41). The demand, the targets, the v_h of the TRAVERSE that has been left and its spindle
command stand until the next set: the model's choice (R72, R99, R100, log entries 48 and 66). -/
def execTraverseCompletesAtRest (h : HeadId) (s : State) : Host.Outcome State Fault Refusal :=
  .next (s.ifRunning (s.completeAtRest h))

/-- STARVATION_END (R31, R45). The demand, the targets, v_h and the spindle command stand until the next set, which works
them by the record that follows: the model's choice (R72, R99, R100, log entries 48 and 66). -/
def execStarvationEnd (h : HeadId) (s : State) : Host.Outcome State Fault Refusal :=
  .next (s.ifRunning (s.starvationEnd h))

/-- APPENDED_START_TAKEN (R46). -/
def execAppendedStartTaken (h : HeadId) (s : State) : Host.Outcome State Fault Refusal :=
  .next (s.ifRunning (s.takeAppendedStart h))

/-- BRAKE_END (R86). The phase is RETRACT, and the demand stands: the first retract step, which R86 makes on the set on
which BRAKE ends, is made on the next set: the model's choice (R88, log entry 66). -/
def execBrakeEnd (h : HeadId) (s : State) : Host.Outcome State Fault Refusal :=
  .next (s.ifRunning (s.brakeEnd h))

/-- RUNOUT_END (R87). The end is judged by the demand last formed, and no run-out demand is formed for it: the model's
choice (log entry 66). The retract steps begin on the next set, as R87 says. -/
def execRunoutEnd (h : HeadId) (s : State) : Host.Outcome State Fault Refusal :=
  .next (s.ifRunning (s.runoutEnd h))

/-- RETRACT_END (R88). The regulator is cleared; the Z mode, the spindle command and the fence stand until the next set:
the model's choice (R71, R100, R106, log entries 49 and 66). -/
def execRetractEnd (h : HeadId) (s : State) : Host.Outcome State Fault Refusal :=
  .next (s.ifRunning (s.retractEnd h))

/-- SPINDOWN_END (R17). The head enters its state at once; START_MISSED and the spin-up of a head that waits again are
judged on sets (R14, R57, log entries 54 and 61). -/
def execSpindownEnd (h : HeadId) (s : State) : Host.Outcome State Fault Refusal :=
  .next (s.ifRunning (s.spindownEnd h))

/-- SPINSTOP (R90). The command is judged by the demand last formed, and no withdraw step is made for it: the model's
choice (log entry 66). -/
def execSpinstop (h : HeadId) (s : State) : Host.Outcome State Fault Refusal :=
  .next (s.ifRunning (s.enterSpinstop h))

/-- WITHDRAWAL_END (R91). The Z mode stands until the next set: the model's choice (R71, log entry 66). -/
def execWithdrawalEnd (h : HeadId) (s : State) : Host.Outcome State Fault Refusal :=
  .next (s.ifRunning (s.withdrawalEnd h))

/-- PASS_END (R12). -/
def execPassEnd (s : State) : Host.Outcome State Fault Refusal :=
  .next (s.ifRunning s.testPassEnd)

/-- HOLD_LIMIT (R128). -/
def execHoldLimit (h : HeadId) (s : State) : Host.Outcome State Fault Refusal :=
  .next (s.ifRunning (s.takeIf (s.holdLimitDue h) (.holdLimit h (s.head h).seq.holdTimer)))

/-- SATURATION (R127). -/
def execSaturation (h : HeadId) (s : State) : Host.Outcome State Fault Refusal :=
  .next (s.ifRunning (s.takeIf (s.saturationDue h) (.saturation h (s.head h).reg.satRun)))

/-- HEAD_STALE (R130). -/
def execHeadStale (h : HeadId) (s : State) : Host.Outcome State Fault Refusal :=
  .next (s.ifRunning (s.takeIf (s.headStaleDue h) (.headStale h (s.headStaleCount h))))

/-- X_STALE (R131). -/
def execXStale (s : State) : Host.Outcome State Fault Refusal :=
  .next (s.ifRunning (s.takeIf s.xStaleDue (.xStale s.ring.stale.x)))

end Sys2Proof.Machine
end

