-- ==== Sys2Proof/Machine/Requests.lean ====
section
/-! DEFINITION. The meanings of the requests: each a service area addressed to the node whose area check is good
(Chapter 10). A WRITE RECORD row names its table by itself, so its selector takes that table's code. -/

namespace Sys2Proof.Machine

/-- READ_STATUS (R173). -/
def execReadStatus (r : Request) (s : State) : Host.Outcome State Fault Refusal :=
  .next (s.request .readStatus r)

/-- READ_RECORD (R174). -/
def execReadRecord (r : Request) (s : State) : Host.Outcome State Fault Refusal :=
  .next (s.request .readRecord r)

/-- WRITE_RECORD naming a segment queue (R33). -/
def execWriteRecordSegment (r : Request) (s : State) : Host.Outcome State Fault Refusal :=
  .next (s.request .writeRecord { r with table := 0 })

/-- WRITE_RECORD naming a map (R109). -/
def execWriteRecordMap (r : Request) (s : State) : Host.Outcome State Fault Refusal :=
  .next (s.request .writeRecord { r with table := 1 })

/-- WRITE_RECORD naming a map header (R111). -/
def execWriteRecordMapHeader (r : Request) (s : State) : Host.Outcome State Fault Refusal :=
  .next (s.request .writeRecord { r with table := 1, index := 65535 })

/-- WRITE_RECORD naming the guard table (R115). -/
def execWriteRecordGuard (r : Request) (s : State) : Host.Outcome State Fault Refusal :=
  .next (s.request .writeRecord { r with table := 2 })

/-- WRITE_RECORD naming the gantry profile (R142). -/
def execWriteRecordGantryProfile (r : Request) (s : State) : Host.Outcome State Fault Refusal :=
  .next (s.request .writeRecord { r with table := 3 })

/-- WRITE_RECORD naming a head profile (R144). -/
def execWriteRecordHeadProfile (r : Request) (s : State) : Host.Outcome State Fault Refusal :=
  .next (s.request .writeRecord { r with table := 4 })

/-- WRITE_RECORD naming the slot map (R153). -/
def execWriteRecordSlotMap (r : Request) (s : State) : Host.Outcome State Fault Refusal :=
  .next (s.request .writeRecord { r with table := 5 })

/-- APPEND_SEGMENT (R30). -/
def execAppendSegment (r : Request) (s : State) : Host.Outcome State Fault Refusal :=
  .next (s.request .appendSegment r)

/-- CANCEL_PENDING (R32). -/
def execCancelPending (r : Request) (s : State) : Host.Outcome State Fault Refusal :=
  .next (s.request .cancelPending r)

/-- STREAM_OPEN (R178). -/
def execStreamOpen (r : Request) (s : State) : Host.Outcome State Fault Refusal :=
  .next (s.request .streamOpen r)

/-- STREAM_DATA (R179, R180). -/
def execStreamData (r : Request) (s : State) : Host.Outcome State Fault Refusal :=
  .next (s.request .streamData r)

/-- STREAM_CANCEL (R181). -/
def execStreamCancel (r : Request) (s : State) : Host.Outcome State Fault Refusal :=
  .next (s.request .streamCancel r)

/-- PASS_START (R3, R4). -/
def execPassStart (r : Request) (s : State) : Host.Outcome State Fault Refusal :=
  .next (s.request .passStart r)

/-- PASS_HOLD (R8). -/
def execPassHold (r : Request) (s : State) : Host.Outcome State Fault Refusal :=
  .next (s.request .passHold r)

/-- PASS_RESUME (R9). -/
def execPassResume (r : Request) (s : State) : Host.Outcome State Fault Refusal :=
  .next (s.request .passResume r)

/-- PASS_ABORT (R11). -/
def execPassAbort (r : Request) (s : State) : Host.Outcome State Fault Refusal :=
  .next (s.request .passAbort r)

/-- ENTER_READY (R136, R137). -/
def execEnterReady (r : Request) (s : State) : Host.Outcome State Fault Refusal :=
  .next (s.request .enterReady r)

/-- ENTER_CONFIG (R138). -/
def execEnterConfig (r : Request) (s : State) : Host.Outcome State Fault Refusal :=
  .next (s.request .enterConfig r)

/-- CLEAR_FAULT (R140). -/
def execClearFault (r : Request) (s : State) : Host.Outcome State Fault Refusal :=
  .next (s.request .clearFault r)

/-- TAKE_EVENT (R185). -/
def execTakeEvent (r : Request) (s : State) : Host.Outcome State Fault Refusal :=
  .next (s.request .takeEvent r)

/-- SET_EVENT_MASK (R186). -/
def execSetEventMask (r : Request) (s : State) : Host.Outcome State Fault Refusal :=
  .next (s.request .setEventMask r)

/-- RESET_NODE (R176). -/
def execResetNode (r : Request) (s : State) : Host.Outcome State Fault Refusal :=
  .next (s.request .resetNode r)

/-- UNKNOWN_REQUEST: the area's code names no request (R170). -/
def execUnknownRequest (code : BitVec 8) (r : Request) (s : State) : Host.Outcome State Fault Refusal :=
  .next (s.requestUnknown code r)

end Sys2Proof.Machine
end

