-- ==== Sys2Proof/Machine/Dispatch.lean ====
section
/-! DEFINITION. The one table from a command to its meaning. -/

namespace Sys2Proof.Machine

def exec (i : Instr) (s : State) : Host.Outcome State Fault Refusal :=
  match i with
  | .powerOn straps => Sys2Proof.Machine.execPowerOn straps s
  | .supplyLoss => Sys2Proof.Machine.execSupplyLoss s
  | .resetLine pulse => Sys2Proof.Machine.execResetLine pulse s
  | .resetNegated straps => Sys2Proof.Machine.execResetNegated straps s
  | .startTime => Sys2Proof.Machine.execStartTime s
  | .cycleFrame f => Sys2Proof.Machine.execCycleFrame f s
  | .frameCompletion now pins => Sys2Proof.Machine.execFrameCompletion now pins s
  | .cycleWindowExpiry stop => Sys2Proof.Machine.execCycleWindowExpiry stop s
  | .ringLost => Sys2Proof.Machine.execRingLost s
  | .holdWindowReached => Sys2Proof.Machine.execHoldWindowReached s
  | .streamExpired => Sys2Proof.Machine.execStreamExpired s
  | .readStatus r => Sys2Proof.Machine.execReadStatus r s
  | .readRecord r => Sys2Proof.Machine.execReadRecord r s
  | .writeRecordSegment r => Sys2Proof.Machine.execWriteRecordSegment r s
  | .writeRecordMap r => Sys2Proof.Machine.execWriteRecordMap r s
  | .writeRecordMapHeader r => Sys2Proof.Machine.execWriteRecordMapHeader r s
  | .writeRecordGuard r => Sys2Proof.Machine.execWriteRecordGuard r s
  | .writeRecordGantryProfile r => Sys2Proof.Machine.execWriteRecordGantryProfile r s
  | .writeRecordHeadProfile r => Sys2Proof.Machine.execWriteRecordHeadProfile r s
  | .writeRecordSlotMap r => Sys2Proof.Machine.execWriteRecordSlotMap r s
  | .appendSegment r => Sys2Proof.Machine.execAppendSegment r s
  | .cancelPending r => Sys2Proof.Machine.execCancelPending r s
  | .streamOpen r => Sys2Proof.Machine.execStreamOpen r s
  | .streamData r => Sys2Proof.Machine.execStreamData r s
  | .streamCancel r => Sys2Proof.Machine.execStreamCancel r s
  | .passStart r => Sys2Proof.Machine.execPassStart r s
  | .passHold r => Sys2Proof.Machine.execPassHold r s
  | .passResume r => Sys2Proof.Machine.execPassResume r s
  | .passAbort r => Sys2Proof.Machine.execPassAbort r s
  | .enterReady r => Sys2Proof.Machine.execEnterReady r s
  | .enterConfig r => Sys2Proof.Machine.execEnterConfig r s
  | .clearFault r => Sys2Proof.Machine.execClearFault r s
  | .takeEvent r => Sys2Proof.Machine.execTakeEvent r s
  | .setEventMask r => Sys2Proof.Machine.execSetEventMask r s
  | .resetNode r => Sys2Proof.Machine.execResetNode r s
  | .unknownRequest code r => Sys2Proof.Machine.execUnknownRequest code r s
  | .filteredMarkEdge => Sys2Proof.Machine.execFilteredMarkEdge s
  | .arrival => Sys2Proof.Machine.execArrival s
  | .spinupStart h => Sys2Proof.Machine.execSpinupStart h s
  | .atSpeed h => Sys2Proof.Machine.execAtSpeed h s
  | .spinupTimeout h => Sys2Proof.Machine.execSpinupTimeout h s
  | .contact h => Sys2Proof.Machine.execContact h s
  | .noContact h => Sys2Proof.Machine.execNoContact h s
  | .seatComplete h => Sys2Proof.Machine.execSeatComplete h s
  | .dwellEnd h => Sys2Proof.Machine.execDwellEnd h s
  | .repetitionEnd h => Sys2Proof.Machine.execRepetitionEnd h s
  | .traverseCompletesAtRest h => Sys2Proof.Machine.execTraverseCompletesAtRest h s
  | .starvationEnd h => Sys2Proof.Machine.execStarvationEnd h s
  | .appendedStartTaken h => Sys2Proof.Machine.execAppendedStartTaken h s
  | .brakeEnd h => Sys2Proof.Machine.execBrakeEnd h s
  | .runoutEnd h => Sys2Proof.Machine.execRunoutEnd h s
  | .retractEnd h => Sys2Proof.Machine.execRetractEnd h s
  | .spindownEnd h => Sys2Proof.Machine.execSpindownEnd h s
  | .spinstop h => Sys2Proof.Machine.execSpinstop h s
  | .withdrawalEnd h => Sys2Proof.Machine.execWithdrawalEnd h s
  | .passEnd => Sys2Proof.Machine.execPassEnd s
  | .holdLimit h => Sys2Proof.Machine.execHoldLimit h s
  | .saturation h => Sys2Proof.Machine.execSaturation h s
  | .headStale h => Sys2Proof.Machine.execHeadStale h s
  | .xStale => Sys2Proof.Machine.execXStale s

end Sys2Proof.Machine
end

