-- ==== Sys2Proof/Machine/Step.lean ====
section
/-! DEFINITION. One step of the block: the command at the front of the queue is taken, or the block idles. -/

namespace Sys2Proof.Machine

/-- The state with the command at the front of its queue taken away. -/
def State.afterFront (s : State) (rest : List Instr) : State :=
  { s with pending := rest }

/-- One step: the command at the front of the queue runs on the state with the queue's rest. On an empty queue the
block idles (log entry 7). -/
def step (s : State) : Host.Outcome State Fault Refusal :=
  match s.pending with
  | [] => .next s
  | c :: rest => exec c (s.afterFront rest)

/-- The state with the command that a word spells put at the front of its queue; unchanged where the word spells
none. -/
def State.withFetchWord (s : State) (nbits w : Nat) : State :=
  match decodeTableWord nbits w with
  | some c => { s with pending := c :: s.pending }
  | none => s

end Sys2Proof.Machine
end

