-- ==== Sys2Proof/Safety.lean ====
section
/-! DEFINITION. The invariants that the chapters state of the node as a whole, in the terms the claims use. -/

namespace Sys2Proof.Safety

open Sys2Proof.Machine

/-- The pending set holds at most one entry per event kind, each with a count from 1 to 255 (R183); the model holds
the entries in the order of priority. -/
def PendingSet (entries : List EventEntry) : Prop :=
  entries.Pairwise (fun e f => e.kind.num < f.kind.num) ∧ ∀ e ∈ entries, 1 ≤ e.count ∧ e.count ≤ 255

/-- The pending set of a state is well formed (R183). -/
def PendingOk (s : State) : Prop :=
  PendingSet s.events.entries

/-- No pending entry is of a kind that the enable mask disables (R184, R186). -/
def MaskOk (s : State) : Prop :=
  ∀ e ∈ s.events.entries, s.events.mask.getLsbD (e.kind.num - 1) = true

/-- The records obey the successor order among themselves, and the first of them after the kind before it
(R28). -/
def Ordered : Option SegKind → List Segment → Prop
  | _, [] => True
  | before, g :: rest => mayFollow before g.kind = true ∧ Ordered (some g.kind) rest

/-- A segment queue holds at most 16 records; its records obey the successor order, and its first record obeys it
after the last completed kind (R25, R28, R29). -/
def QueueOk (s : State) (h : HeadId) : Prop :=
  (s.head h).seq.queue.length ≤ 16 ∧ Ordered (s.head h).seq.lastKind (s.head h).seq.queue

/-- A compensation map holds at most 128 points, and their stations strictly increase with index (R103). -/
def MapOk (s : State) (h : HeadId) : Prop :=
  (s.head h).map.ordered

/-- A pass can be active only in READY or FAULT (R135). -/
def PassMode (s : State) : Prop :=
  s.active = true → s.service.mode ≠ .config

/-- A slot map is in force exactly outside CONFIG, and it is the slot map as last written (R154). -/
def SlotsInForce (s : State) : Prop :=
  s.inForce = if s.service.mode = .config then none else some s.slotMap

/-- The stream context and the staging buffer: an open stream has 1 to 64 records to come, holds with those staged
as many as it was opened for, and a closed one holds nothing (R168, R178 to R180). -/
def StreamOk (s : State) : Prop :=
  match s.service.stream with
  | none => s.service.staging = []
  | some c => 1 ≤ c.remaining ∧ c.count ≤ 64 ∧ s.service.staging.length + c.remaining = c.count

/-- The counters of the ring port lie in their ranges (R152). -/
def RingCounts (s : State) : Prop :=
  s.ring.missCount ≤ 65535 ∧ s.ring.setNumber < 4294967296 ∧ s.ring.coastCount ≤ 4294967295 ∧
  s.ring.early ≤ 65535 ∧ s.ring.short ≤ 65535 ∧ s.ring.badCheck ≤ 65535 ∧
  s.ring.stale.a ≤ 65535 ∧ s.ring.stale.b ≤ 65535 ∧ s.ring.stale.x ≤ 65535 ∧
  s.ring.overRangeA ≤ 65535 ∧ s.ring.overRangeB ≤ 65535

/-- The fault count lies in its range, and a filled fault record has been counted (R183, R187). -/
def FaultOk (s : State) : Prop :=
  s.events.faultCount ≤ 65535 ∧ (s.events.fault.isSome = true ↔ 1 ≤ s.events.faultCount)

/-! ## Ranges of the records -/

/-- The fields of a segment record lie in the ranges of its kind, the depth of a START at most the Dmax in force
(R27). -/
def SegmentInRange (dMax : Int) : Segment → Prop
  | .start station rpm force depth =>
    -2147483648 ≤ station ∧ station ≤ 2147483647 ∧ 100 ≤ rpm ∧ rpm ≤ 3000 ∧ 0 ≤ force ∧ force ≤ 60000 ∧
      1 ≤ depth ∧ depth ≤ 25000 ∧ depth ≤ dMax
  | .dwell ms force => ms ≤ 60000 ∧ 0 ≤ force ∧ force ≤ 60000
  | .traverse reps length force speed rpm depth =>
    1 ≤ reps ∧ reps ≤ 64 ∧ 1 ≤ length ∧ length ≤ 40000000 ∧ reps * length ≤ 40000000 ∧ 0 ≤ force ∧ force ≤ 60000 ∧
      1 ≤ speed ∧ speed ≤ 40000 ∧ 100 ≤ rpm ∧ rpm ≤ 3000 ∧ 0 ≤ depth ∧ depth ≤ 25000
  | .exit _ kind rate runOut =>
    0 ≤ rate ∧ rate ≤ 1000 ∧ 0 ≤ runOut ∧ runOut ≤ 2000000 ∧ (kind = .runOut → 1 ≤ runOut)

/-- The fields of a gantry profile lie in their ranges (R141). -/
def GantryInRange (g : GantryProfile) : Prop :=
  (g.tc = 500 ∨ g.tc = 1000 ∨ g.tc = 2000) ∧ 1000 ≤ g.xMax ∧ g.xMax ≤ 40000 ∧ 1000 ≤ g.approachSpeed ∧
  g.approachSpeed ≤ 40000 ∧ 1000 ≤ g.acc ∧ g.acc ≤ 500000 ∧ 1000 ≤ g.dec ∧ g.dec ≤ 500000 ∧ 1 ≤ g.arrivalTol ∧
  g.arrivalTol ≤ 10000 ∧ 1 ≤ g.skewLimit ∧ g.skewLimit ≤ 100000 ∧ 1 ≤ g.lagLimit ∧ g.lagLimit ≤ 1000000 ∧
  1 ≤ g.xStaleLimit ∧ g.xStaleLimit ≤ 255 ∧ 1 ≤ g.missLimit ∧ g.missLimit ≤ 16 ∧ g.holdWindow ≤ 10000 ∧
  0 ≤ g.fenceMargin ∧ g.fenceMargin ≤ 5000000 ∧ -2147483648 ≤ g.markStation ∧ g.markStation ≤ 2147483647 ∧
  1 ≤ g.markFilter ∧ g.markFilter ≤ 8 ∧ 10 ≤ g.streamTimeout ∧ g.streamTimeout ≤ 65535

/-- The fields of a head profile lie in their ranges (R143). -/
def ProfileInRange (p : HeadProfile) : Prop :=
  (0 ≤ p.depth.dMin ∧ p.depth.dMin ≤ 25000 ∧ 1 ≤ p.depth.dMax ∧ p.depth.dMax ≤ 25000 ∧ -50000 ≤ p.depth.clear ∧
    p.depth.clear ≤ -1000 ∧ 1 ≤ p.depth.plungeRate ∧ p.depth.plungeRate ≤ 1000 ∧ 1 ≤ p.depth.retractRate ∧
    p.depth.retractRate ≤ 1000 ∧ 1 ≤ p.depth.withdrawRate ∧ p.depth.withdrawRate ≤ 5000 ∧ 1 ≤ p.depth.rMax ∧
    p.depth.rMax ≤ 1000) ∧
  (0 ≤ p.gains.kp ∧ p.gains.kp ≤ 10000 ∧ 0 ≤ p.gains.ki ∧ p.gains.ki ≤ 10000 ∧ 0 ≤ p.gains.deadband ∧
    p.gains.deadband ≤ 5000 ∧ 0 ≤ p.gains.iClamp ∧ p.gains.iClamp ≤ 10000 ∧ 0 ≤ p.gains.seatBand ∧
    p.gains.seatBand ≤ 20000 ∧ 1 ≤ p.gains.seatSets ∧ p.gains.seatSets ≤ 10000) ∧
  (1 ≤ p.limits.atSpeedTol ∧ p.limits.atSpeedTol ≤ 500 ∧ 1 ≤ p.limits.spinupLimit ∧ p.limits.spinupLimit ≤ 65535 ∧
    1 ≤ p.limits.staleLimit ∧ p.limits.staleLimit ≤ 255 ∧ 1 ≤ p.limits.holdLimit ∧ p.limits.holdLimit ≤ 65535 ∧
    1 ≤ p.limits.saturationLimit ∧ p.limits.saturationLimit ≤ 65535 ∧ 0 ≤ p.limits.faultRunOut ∧
    p.limits.faultRunOut ≤ 2000000) ∧
  0 ≤ p.trim.tLo ∧ p.trim.tLo ≤ 20000 ∧ 0 ≤ p.trim.tHi ∧ p.trim.tHi ≤ 20000 ∧ 1 ≤ p.trim.speedStep ∧
  p.trim.speedStep ≤ 100 ∧ 0 ≤ p.trim.speedFloor ∧ p.trim.speedFloor ≤ 1000 ∧ 1 ≤ p.trim.spindleStep ∧
  p.trim.spindleStep ≤ 100 ∧ 0 ≤ p.trim.spindleFloor ∧ p.trim.spindleFloor ≤ 1000 ∧ 0 ≤ p.trim.kt ∧
  p.trim.kt ≤ 1000 ∧ 0 ≤ p.trim.yRate ∧ p.trim.yRate ≤ 1000 ∧ 0 ≤ p.trim.yLim ∧ p.trim.yLim ≤ 20000 ∧
  -500000 ≤ p.trim.xOffset ∧ p.trim.xOffset ≤ 500000

/-- The profiles and the records that are queued lie in their ranges, and outside CONFIG the depth window of a present
head is in order (R27, R136, R141, R143, R144). -/
def RangesOk (s : State) : Prop :=
  GantryInRange s.gantry ∧ (∀ h, ProfileInRange (s.head h).profile) ∧
  (s.service.mode ≠ .config → ∀ h, s.gantry.present.has h = true →
    (s.head h).profile.depth.dMin < (s.head h).profile.depth.dMax) ∧
  ∀ h, ∀ g ∈ (s.head h).seq.queue, SegmentInRange 25000 g

/-! ## The heads of a pass -/

/-- A head works only in an active pass that names it; the pass heads are present; and in an approach each of them waits
or has stopped (R3, R5, R12 to R14). -/
def PassHeadsOk (s : State) : Prop :=
  (∀ h, (s.headState h).working = true → s.active = true ∧ s.isPassHead h = true) ∧
  (s.active = true → ∀ h, s.isPassHead h = true → s.gantry.present.has h = true) ∧
  (s.pass.state = .approach → ∀ h, s.isPassHead h = true → s.headState h = .waiting ∨ s.headState h = .stopped)

/-- The executing record of a head is of the kind its state works: a START in WAITING, SPINUP and PLUNGE, a DWELL in
DWELL, a TRAVERSE in TRAVERSE, and an EXIT in an EXIT or SPINDOWN that no stop order has brought about (R14, R16, R17,
R34, R46). A WAITING head may be without one. -/
def RecordOk (s : State) (h : HeadId) : Prop :=
  let q := (s.head h).seq
  let kind := q.executingRecord.map Segment.kind
  (q.state = .waiting → q.executing = true → kind = some .start) ∧
  (q.state = .spinup ∨ q.state = .plunge → kind = some .start) ∧
  (q.state = .dwell → kind = some .dwell) ∧
  (q.state = .traverse → kind = some .traverse) ∧
  (q.state = .exit ∨ q.state = .spindown → q.faultExit = false → kind = some .exit)

/-- Passes, heads and records agree, and every profile and queued record lies in its ranges. -/
def HeadsOk (s : State) : Prop :=
  PassMode s ∧ PassHeadsOk s ∧ RangesOk s ∧ ∀ h, QueueOk s h ∧ RecordOk s h

/-! ## The bridge at rest -/

/-- A head in SPINUP, PLUNGE, DWELL or the RETRACT phase of an in-place exit, in which the bridge stands (R59). -/
def Standing (x : Head) : Prop :=
  x.seq.state = .spinup ∨ x.seq.state = .plunge ∨ x.seq.state = .dwell ∨
  (x.exitPhase = some .retract ∧ ∃ r, x.reg.exitRecord = some r ∧ r.kind = .inPlace)

/-- While a head stands, the X command is 0 and so is that of the pending output set; the X command is that of the
pending output set, or 0; and a head in RUNOUT performs an exit of kind RUN_OUT (R56, R59, R66, R85). -/
def BridgeOk (s : State) : Prop :=
  (s.planner.xCommand = s.ring.output.xSpeed ∨ s.planner.xCommand = 0) ∧
  (∀ h, Standing (s.head h) → s.planner.xCommand = 0 ∧ s.ring.output.xSpeed = 0) ∧
  ∀ h r, (s.head h).exitPhase = some .runout → (s.head h).reg.exitRecord = some r → r.kind = .runOut

/-! ## The tool -/

/-- The depth demand of a head lies between its clear height and its Dmax (R84). -/
def DepthInBounds (x : Head) (demand : Int) : Prop :=
  x.profile.depth.clear ≤ demand ∧ demand ≤ x.profile.depth.dMax

/-- The depth demand and the rpm of a head: the demand is that of the pending output set; outside the parked states it
lies in its bounds, and from the first set of a spin-up on it is the clear height; a head on its way to the plunge has
neither starved nor counted a seat; a head that turns its spindle carries an rpm of 100 or more, as do the segment
values of its last set; and what an exit or a plunge works toward lies in bounds as well (R70 to R73, R81, R84, R85,
R87, R100). -/
def ToolOk (s : State) (h : HeadId) : Prop :=
  let x := s.head h
  let q := x.seq
  let r := x.reg
  r.demand = s.prevDemand h ∧
  (q.state.parked = false → DepthInBounds x r.demand) ∧
  (q.state = .spinup → 1 ≤ q.atSpeedCount → r.demand = x.profile.depth.clear) ∧
  (q.state = .withdraw → r.withdraw = .spinstop → r.demand = x.profile.depth.clear) ∧
  (q.state = .waiting ∧ q.executing = true ∨ q.state = .spinup ∨ q.state.parked = false → 100 ≤ q.carried.rpm) ∧
  (q.state = .waiting ∧ q.executing = true ∨ q.state = .spinup ∨ q.state = .plunge → 1 ≤ q.carried.depth) ∧
  (q.state = .waiting ∧ q.executing = true ∨ q.state = .spinup → q.progress.starved = false) ∧
  (q.state = .spinup → r.seatCount = 0) ∧
  (q.state = .dwell ∨ q.state = .traverse ∨ q.state = .plunge ∧ (1 ≤ r.seatCount ∨ q.progress.starved = true) →
    100 ≤ r.segment.rpm) ∧
  (q.state = .traverse → 100 ≤ q.progress.v0.rpm ∧ 100 ≤ q.progress.v1.rpm) ∧
  ∀ e, q.state = .exit → r.exitRecord = some e → 0 ≤ e.rate ∧ 0 ≤ e.runOut ∧
    ∀ d, e.startDepth = some d → x.profile.depth.clear ≤ d

/-- Points written at consecutive indices from `k` on, each passing the checks of a single write on the points that the
ones before it leave (R112). -/
def RunOfWrites (fence : Option Int) : Nat → List MapPoint → List MapPoint → List MapPoint → Prop
  | _, points, [], result => result = points
  | k, points, p :: rest, result => checkPoint fence points k p = .done ∧
      RunOfWrites fence (k + 1) (points.take k ++ p :: points.drop (k + 1)) rest result

/-! ## Requests -/

/-- The request that a command asks and the area it comes in: a WRITE RECORD row names its table by itself, and
the row of a map's header its index. -/
def asked : Instr → Option (RequestKind × Request)
  | .readStatus r => some (.readStatus, r)
  | .readRecord r => some (.readRecord, r)
  | .writeRecordSegment r => some (.writeRecord, { r with table := 0 })
  | .writeRecordMap r => some (.writeRecord, { r with table := 1 })
  | .writeRecordMapHeader r => some (.writeRecord, { r with table := 1, index := 65535 })
  | .writeRecordGuard r => some (.writeRecord, { r with table := 2 })
  | .writeRecordGantryProfile r => some (.writeRecord, { r with table := 3 })
  | .writeRecordHeadProfile r => some (.writeRecord, { r with table := 4 })
  | .writeRecordSlotMap r => some (.writeRecord, { r with table := 5 })
  | .appendSegment r => some (.appendSegment, r)
  | .cancelPending r => some (.cancelPending, r)
  | .streamOpen r => some (.streamOpen, r)
  | .streamData r => some (.streamData, r)
  | .streamCancel r => some (.streamCancel, r)
  | .passStart r => some (.passStart, r)
  | .passHold r => some (.passHold, r)
  | .passResume r => some (.passResume, r)
  | .passAbort r => some (.passAbort, r)
  | .enterReady r => some (.enterReady, r)
  | .enterConfig r => some (.enterConfig, r)
  | .takeEvent r => some (.takeEvent, r)
  | .setEventMask r => some (.setEventMask, r)
  | .clearFault r => some (.clearFault, r)
  | .resetNode r => some (.resetNode, r)
  | .powerOn _ => none
  | .supplyLoss => none
  | .resetLine _ => none
  | .resetNegated _ => none
  | .startTime => none
  | .cycleFrame _ => none
  | .frameCompletion _ _ => none
  | .cycleWindowExpiry _ => none
  | .ringLost => none
  | .holdWindowReached => none
  | .streamExpired => none
  | .unknownRequest _ _ => none
  | .filteredMarkEdge => none
  | .arrival => none
  | .spinupStart _ => none
  | .atSpeed _ => none
  | .spinupTimeout _ => none
  | .contact _ => none
  | .noContact _ => none
  | .seatComplete _ => none
  | .dwellEnd _ => none
  | .repetitionEnd _ => none
  | .traverseCompletesAtRest _ => none
  | .starvationEnd _ => none
  | .appendedStartTaken _ => none
  | .brakeEnd _ => none
  | .runoutEnd _ => none
  | .retractEnd _ => none
  | .spindownEnd _ => none
  | .spinstop _ => none
  | .withdrawalEnd _ => none
  | .passEnd => none
  | .holdLimit _ => none
  | .saturation _ => none
  | .headStale _ => none
  | .xStale => none

/-- An event that the work on `s` has raised: if its kind is enabled it stands in the pending set of `t`, and where none
of its kind was pending before it has the set number as its stamp and the given detail word (R184). -/
def Raised (s t : State) (k : EventKind) (detail : Nat) : Prop :=
  s.events.enables k = true → ∃ e ∈ t.events.entries, e.kind = k ∧
    ((∀ f ∈ s.events.entries, f.kind ≠ k) → e.stamp = t.ring.setNumber ∧ e.detail = detail)

/-- The idle timer of an open stream has risen by 1, and the stream has expired where the timer has thereby reached the
stream timeout: it is closed, its staging buffer is empty and STREAM_EXPIRED is raised with its table and remaining count
(R182). Without an open stream nothing has changed. -/
def IdleCounted (s t : State) : Prop :=
  match s.service.stream with
  | none => t.service.stream = none ∧ t.service.closed = s.service.closed ∧ t.service.staging = s.service.staging
  | some c =>
    let idle := min (c.idle + 1) 65535
    (idle < s.gantry.streamTimeout → t.service.stream = some { c with idle := idle } ∧
      t.service.staging = s.service.staging) ∧
    (s.gantry.streamTimeout ≤ idle → t.service.stream = none ∧ t.service.staging = [] ∧
      Raised s t .streamExpired (packDetail c.table.code c.remaining))

/-- The area as the node writes it for a reply, with the status echo of the state `t` (R171, R191, R192). -/
def answered (t : State) (code : BitVec 8) (r : Request) (reply : Reply) : Port :=
  { t.port with
    reply := some reply
    area := some (replyArea t.lines.strap.toNat code r reply t.statusBytes) }

/-- The last reply record of a request that is not a read (R172). -/
def lastReplyOf (t : State) (code : Nat) (r : Request) (reply : Reply) : LastReply :=
  ⟨code, r.tag, reply.code, reply.detail, t.ring.setNumber⟩

/-- The state after a read: the state `t` with the reply written over the area; the last reply record stands
(R172). -/
def readReply (t : State) (k : RequestKind) (r : Request) (c : ReplyCode) (d : ReplyData) : State :=
  { t with port := answered t (BitVec.ofNat 8 k.code) r ⟨c, d⟩ }

/-- The state after any other request: the state `t` that its effects leave, with the last reply record filled
and the reply written over the area (R171, R172). -/
def replied (t : State) (k : RequestKind) (r : Request) (c : ReplyCode) (d : ReplyData) : State :=
  { t with
    service := { t.service with lastReply := some (lastReplyOf t k.code r ⟨c, d⟩) }
    port := answered t (BitVec.ofNat 8 k.code) r ⟨c, d⟩ }

end Sys2Proof.Safety
end

