-- ==== Sys2Proof/WellFormed.lean ====
section
/-! DEFINITION. Which commands are well formed: what the table's rows and the layouts chapter ask of a command's
operands before its meaning applies. A request's own checks are part of its meaning, since a request that fails
one is answered. -/

namespace Sys2Proof

/-- A request carries the 52 bytes of request data that its area holds (R191). -/
def Request.whole (r : Request) : Bool :=
  r.payload.length == 52

/-- A WRITE RECORD row's request names the row's table (R190). -/
def Request.names (r : Request) (table : Nat) : Bool :=
  r.whole && r.table.toNat == table

/-- Index 65535 names the map header (R111). -/
def Request.namesHeader (r : Request) : Bool :=
  r.index.toNat == 65535

/-- A code that names none of the eighteen requests (R170, R191). -/
def unknownCode (code : BitVec 8) : Bool :=
  code.toNat == 0 || decide (18 < code.toNat)

/-- A command is well formed. -/
def Instr.wellFormed : Instr → Bool
  | .powerOn _ => true
  | .supplyLoss => true
  | .resetLine _ => true
  | .resetNegated _ => true
  | .startTime => true
  | .cycleFrame _ => true
  | .frameCompletion _ _ => true
  | .cycleWindowExpiry _ => true
  | .ringLost => true
  | .holdWindowReached => true
  | .streamExpired => true
  | .readStatus r => r.whole
  | .readRecord r => r.whole
  | .writeRecordSegment r => r.names 0
  | .writeRecordMap r => r.names 1 && !r.namesHeader
  | .writeRecordMapHeader r => r.names 1 && r.namesHeader
  | .writeRecordGuard r => r.names 2
  | .writeRecordGantryProfile r => r.names 3
  | .writeRecordHeadProfile r => r.names 4
  | .writeRecordSlotMap r => r.names 5
  | .appendSegment r => r.whole
  | .cancelPending r => r.whole
  | .streamOpen r => r.whole
  | .streamData r => r.whole
  | .streamCancel r => r.whole
  | .passStart r => r.whole
  | .passHold r => r.whole
  | .passResume r => r.whole
  | .passAbort r => r.whole
  | .enterReady r => r.whole
  | .enterConfig r => r.whole
  | .clearFault r => r.whole
  | .takeEvent r => r.whole
  | .setEventMask r => r.whole
  | .resetNode r => r.whole
  | .unknownRequest code r => r.whole && unknownCode code
  | .filteredMarkEdge => true
  | .arrival => true
  | .spinupStart _ => true
  | .atSpeed _ => true
  | .spinupTimeout _ => true
  | .contact _ => true
  | .noContact _ => true
  | .seatComplete _ => true
  | .dwellEnd _ => true
  | .repetitionEnd _ => true
  | .traverseCompletesAtRest _ => true
  | .starvationEnd _ => true
  | .appendedStartTaken _ => true
  | .brakeEnd _ => true
  | .runoutEnd _ => true
  | .retractEnd _ => true
  | .spindownEnd _ => true
  | .spinstop _ => true
  | .withdrawalEnd _ => true
  | .passEnd => true
  | .holdLimit _ => true
  | .saturation _ => true
  | .headStale _ => true
  | .xStale => true

end Sys2Proof
end

