-- ==== Sys2Proof/Certificates/Slice0/Obligations.lean ====
section
/-! DEFINITION. The statements for the provers, each a proposition over every state it names. A request's statement
gives the state after it through `Safety.replied`, or through `Safety.readReply` for the two reads, which say what
every reply leaves behind; what a statement does not name is unchanged. -/

open Sys2Proof Sys2Proof.Machine Sys2Proof.Safety

/-! ## The machine as a whole -/

/-- The command at the front of the queue runs on the state with the queue's rest; on an empty queue the block
idles, which is the model's choice (log entry 7). -/
def Obligations.StepRunsTheFrontCommand : Prop :=
  (∀ (c : Instr) (rest : List Instr) (s : State), s.pending = c :: rest →
    step s = exec c { s with pending := rest }) ∧
  ∀ s : State, s.pending = [] → step s = .next s

/-- Every command answers a next state on every state, and leaves the queue of waiting commands as it was: the
manual gives every command an effect. -/
def Obligations.EveryCommandAnswersNext : Prop :=
  ∀ (c : Instr) (s : State), ∃ t, exec c s = .next t ∧ t.pending = s.pending

/-- R183, R184, R186: the pending set keeps one entry a kind, in the order of priority, each with a count from 1 to
255 and of an enabled kind. -/
def Obligations.StepKeepsPendingEvents : Prop :=
  ∀ s t : State, PendingOk s → MaskOk s → step s = .next t → PendingOk t ∧ MaskOk t

/-- R25, R28, R29: each queue keeps at most 16 records in the successor order. -/
def Obligations.StepKeepsQueueOrder : Prop :=
  ∀ (s t : State) (h : HeadId), QueueOk s h → step s = .next t → QueueOk t h

/-- R103, R110: each map keeps at most 128 points at strictly rising stations. -/
def Obligations.StepKeepsMapOrder : Prop :=
  ∀ (s t : State) (h : HeadId), MapOk s h → step s = .next t → MapOk t h

/-- R135, R137, R138, R154: a pass is active only outside CONFIG, and the slot map in force is the slot map as last
written, outside CONFIG alone. -/
def Obligations.StepKeepsModeAndSlotMap : Prop :=
  ∀ s t : State, PassMode s → SlotsInForce s → step s = .next t → PassMode t ∧ SlotsInForce t

/-- R168, R178 to R182: the stream context and the staging buffer agree. -/
def Obligations.StepKeepsStreamContext : Prop :=
  ∀ s t : State, StreamOk s → step s = .next t → StreamOk t

/-- R152, R183, R187: the counters of the ring port and the fault count stay in their ranges, and a fault record is
filled exactly while faults have been counted. -/
def Obligations.StepKeepsCounterRanges : Prop :=
  ∀ s t : State, RingCounts s → FaultOk s → step s = .next t → RingCounts t ∧ FaultOk t

/-- R84, R183 and the ranges of Chapters 2, 3 and 8: every invariant that a step keeps, those of the heads, the bridge and
the tool included, holds of the machine right after reset. -/
def Obligations.InvariantsHoldAtReset : Prop :=
  PendingOk State.reset ∧ MaskOk State.reset ∧ (∀ h, QueueOk State.reset h) ∧ (∀ h, MapOk State.reset h) ∧
  PassMode State.reset ∧ SlotsInForce State.reset ∧ StreamOk State.reset ∧ RingCounts State.reset ∧
  FaultOk State.reset ∧ HeadsOk State.reset ∧ BridgeOk State.reset ∧ ∀ h, ToolOk State.reset h

/-- R3, R5, R12 to R17, R27, R34, R44, R46, R135, R136, R141 to R144: passes, heads and records agree after every step. A
head works only in an active pass that names it, the pass heads are present, none leaves WAITING but for STOPPED in an
approach, the executing record is of the kind its head's state works, and every profile and queued record stays in its
ranges. -/
def Obligations.StepKeepsHeadsAndRecords : Prop :=
  ∀ s t : State, HeadsOk s → step s = .next t → HeadsOk t

/-- R56, R59: the bridge at rest. After every step the X command and the X command of the pending output set are 0 while a
head is in SPINUP, PLUNGE, DWELL or the RETRACT phase of an in-place exit. -/
def Obligations.StepKeepsTheBridgeAtRest : Prop :=
  ∀ s t : State, HeadsOk s → BridgeOk s → step s = .next t → BridgeOk t

/-- R84, R100: the laws of the tool. Every output set that a step forms holds for each head a depth demand between its
clear height and its Dmax, and with a demand deeper than the clear height a spindle command other than 0; and from a
demand at the clear height or deeper the demand grows deeper by no more than the larger of the plunge rate and Rmax. The
invariant that carries them is kept. -/
def Obligations.StepKeepsTheToolLaws : Prop :=
  ∀ s t : State, HeadsOk s → (∀ h, ToolOk s h) → step s = .next t →
    (∀ h, ToolOk t h) ∧
    (t.ring.output ≠ s.ring.output → ∀ h, DepthInBounds (t.head h) (t.prevDemand h) ∧
      ((t.head h).profile.depth.clear < t.prevDemand h → t.prevSpindle h ≠ 0)) ∧
    ∀ h, (t.head h).profile = (s.head h).profile → (s.head h).profile.depth.clear ≤ s.prevDemand h →
      t.prevDemand h ≤ s.prevDemand h + max (s.head h).profile.depth.plungeRate (s.head h).profile.depth.rMax

/-! ## Supply and reset -/

/-- What power-on leaves in the pass record, the head sequencers, the regulators, the trim units, the maps, the
planner, the guards and their fired flags, the ring port, the event unit, the service unit and the profiles. The strap
address is the reading of the straps (R150). The head station 0, the absence of an executing record and the X demand 0 are values the
model names (log entry 32), as is the unset mark of a HALT (log entry 45). A MARK line asserted then gives an edge without
a negated reading before it (R53). -/
def Obligations.PowerOnValues : Prop :=
  ∀ (straps : BitVec 6) (s : State), ∃ t, exec (.powerOn straps) s = .next t ∧
    t.power = .starting ∧
    t.pass = ⟨0, .none, .given, 0, 0, false, false, .idle, .none, 0⟩ ∧
    (∀ h, (t.head h).seq = ⟨.idle, .none, false, [], false, none,
        ⟨0, ⟨0, 0, 0, 0⟩, ⟨0, 0, 0, 0⟩, 0, 0, false, false, none⟩, ⟨0, 0, 0, 0⟩, 0, 0, 0, 0⟩) ∧
    (∀ h, (t.head h).reg.accumulator = 0 ∧ (t.head h).reg.demand = -10000 ∧ (t.head h).reg.side = .none ∧
        (t.head h).reg.satRun = 0 ∧ (t.head h).reg.rateLimited = false ∧
        (t.head h).reg.plungePhase = .descent ∧ (t.head h).reg.seatCount = 0 ∧ (t.head h).reg.zMode = .park ∧
        (t.head h).reg.error = 0 ∧ (t.head h).reg.target = 0 ∧ (t.head h).reg.nominal = 0 ∧
        (t.head h).reg.exitRecord = none ∧ (t.head h).reg.withdraw = .rising) ∧
    (∀ h, (t.head h).trim = ⟨1000, 1000, none, 0, none, 0, none⟩) ∧
    (∀ h, (t.head h).map = ⟨[], none, 0⟩) ∧
    t.planner = ⟨0, 0, 0, 0, 0, 0, 0, 0, .still, [], 0, false, 0, none⟩ ∧
    t.guards = List.replicate 12
      ⟨false, .head .a, .force, .above, 0, 0, .one, 0, .note, 1000, false, 0, []⟩ ∧
    t.ring.state = .down ∧ t.ring.window = none ∧ t.ring.missCount = 0 ∧ t.ring.setNumber = 0 ∧
    t.ring.coastCount = 0 ∧ t.ring.early = 0 ∧ t.ring.short = 0 ∧ t.ring.badCheck = 0 ∧
    t.ring.reference = ⟨none, none, none⟩ ∧ t.ring.stale = ⟨0, 0, 0⟩ ∧
    t.ring.overRangeA = 0 ∧ t.ring.overRangeB = 0 ∧ t.ring.captured = List.replicate 17 none ∧
    t.ring.lastGood = [some 0, some 0, none, none, some 0, some 0, some 0, some 0, some 0, none, none, some 0, some 0,
      some 0, some 0, some 0, some 0] ∧
    (∀ h, (t.head h).fired = ⟨false, false, false, false⟩) ∧ t.gantryFired = ⟨false, false, false, false⟩ ∧
    t.ring.output = ⟨⟨-10000, .park, 0, 0⟩, ⟨-10000, .park, 0, 0⟩, 0, .still, ⟨0, 0⟩⟩ ∧
    t.slotMap = List.replicate 28 ⟨0, false⟩ ∧ t.inForce = none ∧
    t.events = ⟨[], 0x3FFF, none, 0⟩ ∧ t.service.mode = .config ∧ t.service.stream = none ∧
    t.service.closed = ⟨.segment, .a, 0, 0, 0, 0, 0⟩ ∧ t.service.staging = [] ∧ t.service.lastReply = none ∧ t.lines = ⟨true, false, straps⟩ ∧ t.alert = false ∧ t.halted = false ∧
    t.gantry = ⟨.none, 1000, 20000, 10000, 50000, 50000, 100, 2000, 5000, 5, 4, .withdraw, 500, 150000, 0, 2,
      2000⟩ ∧
    ∀ h, (t.head h).profile = ⟨⟨3000, 7000, -10000, 10, 20, 100, 20⟩, ⟨100, 300, 200, 1500, 500, 50⟩,
      ⟨20, 5000, 5, 3000, 500, .inPlace, 50000⟩, ⟨4000, 5200, 2, 700, 2, 800, 100, 5, 3000, 0⟩⟩

/-- Loss of supply, the RESET line and the start time (R146, R149, R151): each changes the supply state, and the first two
end the writing of a frame that is passing. A frame that a reset meets keeps what has passed and leaves otherwise as it
arrived; its check is bad if the node had begun to write in what has passed, and passes unchanged otherwise. How far the
frame has come, within the service area or behind it, is an operand of the command (log entry 18); that the records stand without supply and while the line
holds the node in reset is the model's reading (log entries 15 and 16). -/
def Obligations.SupplyResetAndStart : Prop :=
  (∀ s : State, ∃ t, exec .supplyLoss s = .next t ∧
    t = { s with power := .unpowered, port := { s.port with passing := none } } ∧ t.alert = false) ∧
  (∀ (pulse : ResetPulse) (s : State), 100 ≤ pulse.micros → s.power.alive = true →
    ∃ t, exec (.resetLine pulse) s = .next t ∧
      t = { s with power := .inReset, port := t.port } ∧ t.alert = false ∧
      t.port = { s.port with passing := none, outgoing := t.port.outgoing } ∧
      (s.port.passing = none → t.port = s.port) ∧
      ∀ f o, s.port.passing = some f → s.port.outgoing = some o →
        let passed := pulse.passed
        t.port.outgoing = some ⟨o.payload.take passed ++ f.payload.drop passed,
          if ∃ start ∈ f.written, start < passed then .bad else .unchanged⟩) ∧
  (∀ (pulse : ResetPulse) (s : State), pulse.micros < 100 → exec (.resetLine pulse) s = .next s) ∧
  ∀ s : State, s.power = .starting → exec .startTime s = .next { s with power := .running }

/-- Both resets and RESET NODE (R103, R114, R141, R143, R150, R153, R176): a node that leaves the RESET line's reset,
and one that takes the reset of RESET NODE at a frame's completion, retains the gantry profile, the head profiles, the
map points, the guard configuration and the slot map; every other record is as after power-on, with the depth demand at
the retained clear height. RESET NODE is refused with STATE while a pass is active and is otherwise answered DONE, with
its reset due at the completion of the frame that carries the reply. That the record of the ring connection keeps the
frame that has left and the reply in it is the model's choice (log entry 8), and so is that the node is ready again at
once after the reset of RESET NODE (log entry 13). The initial records hold values that the model names where the manual
gives none: the head station, the executing mark, the segment values, the X demand, the values handed over and the frame
timing (log entry 32), and the unset mark of a HALT (log entry 45). -/
def Obligations.ResetsRetainTables : Prop :=
  ∀ (straps : BitVec 6) (s : State),
    let retained := fun (p : Power) (t : State) =>
      t.power = p ∧ t.gantry = s.gantry ∧ t.slotMap = s.slotMap ∧
      t.guards = s.guards.map (fun g => { g with tripped := false, trips := 0, window := [] }) ∧
      (∀ h, (t.head h).profile = (s.head h).profile ∧ (t.head h).map = ⟨(s.head h).map.points, none, 0⟩ ∧
        (t.head h).seq = Sequencer.initial ∧ (t.head h).trim = Trim.initial ∧
        (t.head h).reg = Regulator.initial (s.head h).profile.depth.clear ∧ (t.head h).fired = HeadFired.clear) ∧
      t.pass = PassRecord.initial ∧ t.planner = Planner.initial ∧ t.gantryFired = GantryFired.clear ∧
      t.events = EventUnit.initial ∧ t.service = ServiceUnit.initial ∧ t.inForce = none ∧
      t.lines = ⟨true, false, straps⟩ ∧
      t.port = { s.port with passing := none } ∧ t.halted = false ∧
      t.ring = RingPort.initial s.headA.profile.depth.clear s.headB.profile.depth.clear
    (s.power = .inReset → ∃ t, exec (.resetNegated straps) s = .next t ∧ retained .starting t) ∧
    (∀ (now : Nat) (pins : Pins), s.power = .running → s.service.resetDue = true → pins.straps = straps →
      ∃ t, exec (.frameCompletion now pins) s = .next t ∧ retained .running t) ∧
    ∀ r : Request, s.serving = true → r.length.toNat = 0 →
      (s.active = true → exec (.resetNode r) s = .next (replied s .resetNode r .state .empty)) ∧
      (s.active = false → exec (.resetNode r) s =
        .next (replied { s with service := { s.service with resetDue := true } } .resetNode r .done .empty))

/-! ## Frames, sets and the ring -/

/-- R146, R151, R154, R166, R167, R171: what a frame carries as it leaves the node. A node that is not ready sends it on
as it arrived. A ready node writes each output channel that is enabled in the slot map in force and whose slot lies
within the payload; the bytes of an answered area leave as the reply has them, and a byte outside those slots and outside
an answered area leaves as it arrived; in CONFIG no slot is written. Each channel has the width of its kind, and its bytes are its value in the pending output set as the frame
began to pass, least significant byte first and signed values in two's complement. The frame check passes unchanged where the node has written nothing; otherwise it is regenerated over a frame
whose incoming check proves good, and bad over one whose check proves bad. -/
def Obligations.FrameCarriesPendingOutputs : Prop :=
  (List.range 28).map channelWidth =
    [2, 2, 2, 2, 4, 2, 1, 2, 2, 2, 2, 4, 2, 1, 4, 4, 1, 4, 1, 2, 2, 4, 1, 2, 2, 4, 1, 8] ∧
  (∀ (w : Nat) (v : Int), (bytesOf w v).length = w ∧
    ∀ i < w, (bytesOf w v)[i]? = some (BitVec.ofInt 8 (v / 2 ^ (8 * i)))) ∧
  ∀ (f : Frame) (s : State),
    (s.power ≠ .running → ∃ t, exec (.cycleFrame f) s = .next t ∧ t = { s with port := t.port } ∧
      t.port = ⟨none, some ⟨f.payload, .unchanged⟩, none, none⟩) ∧
    (s.power = .running → ∃ t o w, exec (.cycleFrame f) s = .next t ∧ t.port.outgoing = some o ∧
      t.port.passing = some ⟨f.payload, f.checkGood, w⟩ ∧ o.payload.length = f.payload.length ∧
      (let set := s.ring.output
       let zMode := fun (m : ZMode) => match m with
         | .park => [0]
         | .position => [1]
       (List.range 11).map (fun k => t.outputBytes (17 + k)) =
         [bytesOf 4 set.a.zDemand, zMode set.a.zMode, bytesOf 2 set.a.spindle, bytesOf 2 set.a.yTrim,
           bytesOf 4 set.b.zDemand, zMode set.b.zMode, bytesOf 2 set.b.spindle, bytesOf 2 set.b.yTrim,
           bytesOf 4 set.xSpeed, match set.xMode with
             | .still => [0]
             | .move => [1]
             | .quickstop => [2], t.statusBytes]) ∧
      (∀ id, id ∈ t.writtenIds f.payload.length ↔ 17 ≤ id ∧ id ≤ 27 ∧ t.service.mode ≠ .config ∧
        ∃ slots e, t.inForce = some slots ∧ slots[id]? = some e ∧ e.enabled = true ∧ t.slotOffset id = e.offset ∧
          e.offset + channelWidth id ≤ f.payload.length) ∧
      (∀ i : Nat, (64 ≤ i ∨ t.port.area = none) →
        (∀ id ∈ t.writtenIds f.payload.length,
          i < t.slotOffset id ∨ t.slotOffset id + channelWidth id ≤ i) →
        o.payload[i]? = f.payload[i]?) ∧
      (∀ a, t.port.area = some a → a.length = 64 ∧ 64 ≤ f.payload.length ∧ ∀ i < 64,
        (∀ id ∈ t.writtenIds f.payload.length,
          i < t.slotOffset id ∨ t.slotOffset id + channelWidth id ≤ i) →
        o.payload[i]? = a[i]?) ∧
      (∀ id ∈ t.writtenIds f.payload.length,
        (∀ j ∈ t.writtenIds f.payload.length, j ≠ id →
          t.slotOffset j + channelWidth j ≤ t.slotOffset id ∨ t.slotOffset id + channelWidth id ≤ t.slotOffset j) →
        (o.payload.drop (t.slotOffset id)).take (channelWidth id) = t.outputBytes id) ∧
      (∀ start, start ∈ w ↔ t.port.area ≠ none ∧ start = 0 ∨
        ∃ id ∈ t.writtenIds f.payload.length, start = t.slotOffset id) ∧
      o.check = if t.port.area = none ∧ t.writtenIds f.payload.length = [] then .unchanged
        else if f.checkGood = true then .regenerated else .bad)

/-- R169, R170: the node serves an area addressed to it whose half-words have the exclusive-or 0: the frame does to
everything but the frame itself what the request's own command does, and so does an area whose code names no request.
An area that is not so addressed, or a node that does not serve, changes nothing but the frame. -/
def Obligations.FrameServesItsArea : Prop :=
  ∀ (f : Frame) (s : State), s.power = .running →
    (∀ c : Instr, 64 ≤ f.payload.length → s.serving = true →
      fieldU 0 1 (f.payload.take 64) = s.lines.strap.toNat → xorHalves (f.payload.take 64) = 0 →
      ((∃ k, fieldU 1 1 (f.payload.take 64) = k.code ∧ asked c = some (k, readArea (f.payload.take 64))) ∨
        ∃ code, unknownCode code = true ∧ fieldU 1 1 (f.payload.take 64) = code.toNat ∧
          c = .unknownRequest code (readArea (f.payload.take 64))) →
      ∃ t u, exec (.cycleFrame f) s = .next t ∧ exec c s = .next u ∧
        t = { u with port := { u.port with passing := t.port.passing, outgoing := t.port.outgoing } }) ∧
    (s.serving = false ∨ f.payload.length < 64 ∨ fieldU 0 1 (f.payload.take 64) ≠ s.lines.strap.toNat ∨
        xorHalves (f.payload.take 64) ≠ 0 →
      ∃ t, exec (.cycleFrame f) s = .next t ∧ t = { s with port := t.port } ∧ t.port.reply = none ∧
        t.port.area = none)

/-- R33, R146, R150, R169, R170, R172, R174, R175: what is refused before a request is looked at. A node that does not serve
sends the area on. A request whose length field is not its layout's, or a write whose length is not its record's, is
answered VALUE, and so is a request on a head's table whose head selector names neither head, a WRITE RECORD naming a
segment queue, and one in a frame's area that names a table above 5; an area whose code names no request is answered UNKNOWN. No record but the last reply record changes, which
a read leaves as it stands. -/
def Obligations.MalformedRequestsRefused : Prop :=
  (∀ (k : RequestKind) (n : Nat), k.lengthOk n = true ↔
    k = .writeRecord ∨ k = .appendSegment ∧ n = 16 ∨ k = .streamOpen ∧ n = 8 ∨
    k = .streamData ∧ (n = 16 ∨ n = 32 ∨ n = 48) ∨ k = .passStart ∧ n = 10 ∨ k = .setEventMask ∧ n = 2 ∨
    (k = .readStatus ∨ k = .readRecord ∨ k = .cancelPending ∨ k = .streamCancel ∨ k = .passHold ∨ k = .passResume ∨
      k = .passAbort ∨ k = .enterReady ∨ k = .enterConfig ∨ k = .takeEvent ∨ k = .clearFault ∨ k = .resetNode) ∧
      n = 0) ∧
  (∀ (f : Frame) (s : State), s.power = .running → s.serving = true → 64 ≤ f.payload.length →
    let area := f.payload.take 64
    fieldU 0 1 area = s.lines.strap.toNat → xorHalves area = 0 → fieldU 1 1 area = 3 → 5 < fieldU 6 1 area →
    ∃ t, exec (.cycleFrame f) s = .next t ∧
      let u := replied s .writeRecord (readArea area) .value .empty
      t = { u with port := { u.port with passing := t.port.passing, outgoing := t.port.outgoing } }) ∧
  (∀ (c : Instr) (k : RequestKind) (r : Request) (s : State), asked c = some (k, r) →
    (s.serving = false → exec c s = .next { s with port := { s.port with reply := none, area := none } }) ∧
    (s.serving = true → k.lengthOk r.length.toNat = false →
      exec c s = .next (if k = .readStatus ∨ k = .readRecord then readReply s k r .value .empty
        else replied s k r .value .empty))) ∧
  ∀ (r : Request) (s : State), s.serving = true →
    let refused := fun (c : Instr) => ∀ k q, asked c = some (k, q) → exec c s = .next (replied s k q .value .empty)
    (r.length.toNat ≠ 8 → r.index.toNat ≠ 65535 → refused (.writeRecordMap r)) ∧
    (r.length.toNat ≠ 10 → refused (.writeRecordMapHeader r)) ∧
    (r.length.toNat ≠ 16 → refused (.writeRecordGuard r)) ∧
    (r.length.toNat ≠ 42 → refused (.writeRecordGantryProfile r)) ∧
    (r.length.toNat ≠ 3 → refused (.writeRecordSlotMap r)) ∧
    (1 < r.head.toNat → refused (.writeRecordMap r) ∧ refused (.writeRecordMapHeader r) ∧
      refused (.writeRecordHeadProfile r) ∧ refused (.appendSegment r) ∧ refused (.cancelPending r)) ∧
    refused (.writeRecordSegment r) ∧
    ∀ code : BitVec 8, unknownCode code = true → exec (.unknownRequest code r) s = .next
      { s with
        service := { s.service with lastReply := some ⟨code.toNat, r.tag, .unknown, 0, s.ring.setNumber⟩ }
        port := answered s code r ⟨.unknown, .empty⟩ }

/-- R169, R171, R191: the area that carries a reply has 64 bytes whose half-words have the exclusive-or 0; it names
the node with the reply bit set, keeps the request code, the tag, the table and head selectors and the index of the
request, holds the reply code, the number of data bytes and the data padded with zeros, and ends with the status echo of
the state after the request's effects. -/
def Obligations.AreasAreSealed : Prop :=
  ∀ (c : Instr) (code : BitVec 8) (r : Request) (s : State), s.serving = true →
    ((∃ k, asked c = some (k, r) ∧ code = BitVec.ofNat 8 k.code) ∨ c = .unknownRequest code r) →
    ∃ t a reply, exec c s = .next t ∧ t.port.area = some a ∧ t.port.reply = some reply ∧
      a.length = 64 ∧ xorHalves a = 0 ∧
      fieldU 0 1 a = 128 + t.lines.strap.toNat ∧ fieldU 1 1 a = code.toNat ∧ fieldU 2 2 a = r.tag.toNat ∧
      fieldU 4 1 a = reply.code.code ∧ fieldU 5 1 a = reply.dataBytes.length ∧
      fieldU 6 1 a = r.table.toNat ∧ fieldU 7 1 a = r.head.toNat ∧ fieldU 8 2 a = r.index.toNat ∧
      (a.drop 12).take 44 = reply.dataBytes ++ List.replicate (44 - reply.dataBytes.length) 0 ∧
      a.drop 56 = t.statusBytes

/-- R10, R155, R157, R161, R163, R182: a frame that passes the three tests is accepted: the accepted set number rises by 1, the
coast and miss counts return to 0, the ring state is UP, the cycle window is started for one and a half cycle periods,
the lines are read, and the output set of the set is numbered by it. Its samples are taken, every block works the set as
an accepted one behind the planner's start, and nothing else is done. The first one after a loss raises RING_RESTORED with
the miss count and returns the loss hold counter to 0, which it does in the record of a pass that has ended as well (R10
against R1, log entry 20), and the idle timer of an open stream rises. The profiles, the map points, the guard
configuration, the slot map and the queue of commands stand. -/
def Obligations.AcceptedFrameNumbersTheSet : Prop :=
  ∀ (now : Nat) (pins : Pins) (f : PassingFrame) (s : State), s.power = .running → s.service.resetDue = false →
    s.port.passing = some f → f.checkGood = true → s.covers f.payload.length = true → s.ring.isEarly now = false →
    let counted : State := { s with
      port := { s.port with passing := none }
      ring := { s.ring with
        setNumber := (s.ring.setNumber + 1) % 2 ^ 32
        coastCount := 0
        missCount := 0
        state := .up
        timing := some ⟨now, s.gantry.tc⟩
        window := some (now + 3 * s.gantry.tc / 2) }
      lines := { s.lines with stop := pins.stop, mark := pins.mark } }
    let sampled : State := { counted with ring := counted.ring.takeSamples (captureInputs s.inForce f.payload) }
    let told := sampled.raise .ringRestored (min s.ring.missCount 65535)
    let restored := if s.ring.state = .lost then { told with pass := { told.pass with lossHold := 0 } } else sampled
    let begun := restored.countIdle.beginPlanner true
    ∃ t, exec (.frameCompletion now pins) s = .next t ∧ t = begun.workSet true false ∧
      t.ring.setNumber = (s.ring.setNumber + 1) % 2 ^ 32 ∧ t.ring.coastCount = 0 ∧ t.ring.missCount = 0 ∧
      t.ring.state = .up ∧ t.ring.timing = some ⟨now, s.gantry.tc⟩ ∧
      t.ring.window = some (now + 3 * s.gantry.tc / 2) ∧ t.lines = { s.lines with stop := pins.stop, mark := pins.mark } ∧
      t.ring.output.number = ⟨t.ring.setNumber, 0⟩ ∧ t.port = { s.port with passing := none } ∧
      t.ring.early = s.ring.early ∧ t.ring.short = s.ring.short ∧ t.ring.badCheck = s.ring.badCheck ∧
      t.gantry = s.gantry ∧ t.slotMap = s.slotMap ∧ t.inForce = s.inForce ∧ t.power = s.power ∧
      (∀ h, (t.head h).profile = (s.head h).profile ∧ (t.head h).map.points = (s.head h).map.points) ∧
      t.guards.map GuardRecord.rearmed = s.guards.map GuardRecord.rearmed ∧ t.pending = s.pending ∧
      t.service.lastReply = s.service.lastReply ∧
      (s.ring.state = .lost → Raised s t .ringRestored (min s.ring.missCount 65535) ∧ t.pass.lossHold = 0) ∧
      (s.ring.state ≠ .lost → t.pass.lossHold = s.pass.lossHold) ∧ IdleCounted s t

/-- R155, R156: a frame that fails a test is refused as BAD, SHORT or EARLY, the first test that fails deciding: its
count rises by 1, limited to 65,535, EARLY raises RING_TIMING, and nothing else changes but that the frame has
passed. -/
def Obligations.RefusedFramesCount : Prop :=
  ∀ (now : Nat) (pins : Pins) (f : PassingFrame) (s : State), s.power = .running → s.service.resetDue = false →
    s.port.passing = some f →
    let u := { s with port := { s.port with passing := none } }
    (f.checkGood = false → exec (.frameCompletion now pins) s =
      .next { u with ring := { s.ring with badCheck := min (s.ring.badCheck + 1) 65535 } }) ∧
    (f.checkGood = true → s.covers f.payload.length = false → exec (.frameCompletion now pins) s =
      .next { u with ring := { s.ring with short := min (s.ring.short + 1) 65535 } }) ∧
    (f.checkGood = true → s.covers f.payload.length = true → s.ring.isEarly now = true →
      exec (.frameCompletion now pins) s =
        .next (State.raise { u with ring := { s.ring with early := min (s.ring.early + 1) 65535 } } .ringTiming
          (min (s.ring.early + 1) 65535)))

/-- R10, R161 to R165, R182: an expiry of a running cycle window counts a miss and a coast set, starts the window for one
more cycle period, reads the STOP line, and forms the output set of a coast set. An UP ring becomes COASTING, and a
ring that is UP or COASTING is LOST once the miss count has reached the miss limit; that a miss count above the miss
limit makes the loss as well is DEDUCED (log entry 9). The idle timer of an open stream rises, and the loss hold counter
rises where the hold cause is RING as the window expires (log entry 20). Behind the planner's start, a loss holds an active
pass with cause RING in HOLD loss mode; and the rest of the set is worked with a HALT all for RING_LOSS due where the
counter has just reached the hold window, where a loss meets WITHDRAW loss mode, or where it takes the hold with cause RING
with the hold window reached. Without a window nothing changes. -/
def Obligations.WindowExpiryRunsACoastSet : Prop :=
  ∀ (stop : Bool) (s : State), s.power = .running →
    (∀ (due : Nat) (time : FrameTiming), s.ring.window = some due → s.ring.timing = some time →
      ∃ t, exec (.cycleWindowExpiry stop) s = .next t ∧
        (let lostNow := (decide (s.ring.state = .up) || decide (s.ring.state = .coasting)) &&
           decide (s.gantry.missLimit ≤ min (s.ring.missCount + 1) 65535)
         let missed : State := { s with
           ring := { s.ring with
             missCount := min (s.ring.missCount + 1) 65535
             coastCount := min (s.ring.coastCount + 1) 4294967295
             window := some (due + time.tc)
             state := if lostNow = true then .lost else if s.ring.state = .up then .coasting else s.ring.state }
           lines := { s.lines with stop := stop } }
         let told := if lostNow = true then missed.raise .ringLost (min s.gantry.missLimit 65535) else missed
         let begun := told.countIdle.beginPlanner false
         let n := if s.pass.holdCause = .ring then min (s.pass.lossHold + 1) 10000 else s.pass.lossHold
         let counted : State := { begun with pass := { begun.pass with lossHold := n } }
         let held := if lostNow = true ∧ s.active = true ∧ s.gantry.lossMode = .hold then counted.holdOrder .ring
           else counted
         let halts := s.active = true ∧
           (s.pass.holdCause = .ring ∧ n ≠ s.pass.lossHold ∧ n = s.gantry.holdWindow ∨
             lostNow = true ∧ (s.gantry.lossMode = .withdraw ∨
               s.pass.holdCause ≠ .ring ∧ held.pass.holdCause = .ring ∧ n = s.gantry.holdWindow))
         t.pass.lossHold = n ∧ (lostNow = true → Raised s t .ringLost (min s.gantry.missLimit 65535)) ∧
         (halts → t = held.workSet false true) ∧ (¬ halts → t = held.workSet false false)) ∧
        IdleCounted s t ∧
        t.ring.missCount = min (s.ring.missCount + 1) 65535 ∧
        t.ring.coastCount = min (s.ring.coastCount + 1) 4294967295 ∧
        t.ring.setNumber = s.ring.setNumber ∧ t.ring.window = some (due + time.tc) ∧
        t.ring.output.number = ⟨t.ring.setNumber, t.ring.coastCount⟩ ∧
        t.ring.handed = s.ring.handed ∧ t.ring.lastGood = s.ring.lastGood ∧ t.ring.stale = s.ring.stale ∧
        t.lines = { s.lines with stop := stop } ∧
        ((s.ring.state = .up ∨ s.ring.state = .coasting) → s.gantry.missLimit ≤ t.ring.missCount →
          t.ring.state = .lost) ∧
        ((s.ring.state = .up ∨ s.ring.state = .coasting) → t.ring.missCount < s.gantry.missLimit →
          t.ring.state = .coasting) ∧
        (s.ring.state ≠ .up → s.ring.state ≠ .coasting → t.ring.state = s.ring.state) ∧
        t.gantry = s.gantry ∧ t.slotMap = s.slotMap ∧ t.inForce = s.inForce ∧ t.port = s.port ∧
        (∀ h, (t.head h).profile = (s.head h).profile ∧ (t.head h).map.points = (s.head h).map.points)) ∧
    (s.ring.window = none → exec (.cycleWindowExpiry stop) s = .next s)

/-- R153, R158, R159, R160, R189: the values handed over on an accepted set. A channel of a stale group, or one not captured,
hands over its last good value, or its invalid marker while that is absent, and keeps its last good value; a captured
channel of a fresh group hands over its value, a FORCE above 65,000 as 65,000, and an invalid marker of TEMP or LATERAL
leaves the last good value standing. A captured value is that of the channel's slot, of the channel's width, least
significant byte first and in two's complement for LATERAL, ZPOS, XLEFT and XRIGHT; a FORCE above 65,000 in a fresh group
raises the head's over-range count. A group is stale when its sequence value equals the reference. -/
def Obligations.StaleGroupsHandOverLastGood : Prop :=
  ∀ (now : Nat) (pins : Pins) (f : PassingFrame) (s : State), s.power = .running → s.service.resetDue = false →
    s.port.passing = some f → f.checkGood = true → s.covers f.payload.length = true → s.ring.isEarly now = false →
    let captured := fun id => (captureInputs s.inForce f.payload).getD id none
    let sequence := fun (id : Nat) => if id < 7 then captured 6 else if id < 14 then captured 13 else captured 16
    let reference := fun (id : Nat) =>
      if id < 7 then s.ring.reference.a else if id < 14 then s.ring.reference.b else s.ring.reference.x
    let good := fun (id : Nat) => s.ring.lastGood.getD id none
    (∀ id < 17, (s.inForce = none → captured id = none) ∧
      ∀ slots e, s.inForce = some slots → slots[id]? = some e →
        (e.enabled = false → captured id = none) ∧
        (e.enabled = true →
          let width := [2, 2, 2, 2, 4, 2, 1, 2, 2, 2, 2, 4, 2, 1, 4, 4, 1].getD id 0
          let raw := ((List.range width).map fun i => (f.payload.getD (e.offset + i) 0).toNat * 256 ^ i).sum
          captured id = some (if id ∈ [3, 4, 10, 11, 14, 15] ∧ 2 ^ (8 * width) ≤ 2 * raw then
            (raw : Int) - 2 ^ (8 * width) else (raw : Int)))) ∧
    ∃ t, exec (.frameCompletion now pins) s = .next t ∧
      (∀ id < 17,
        let stale := sequence id ≠ none ∧ sequence id = reference id
        ((captured id = none ∨ stale) →
          t.ring.lastGood.getD id none = good id ∧
          t.ring.handed.getD id 0 = (good id).getD (if id = 2 ∨ id = 9 then 65535 else if id = 3 ∨ id = 10 then -32768
            else 0)) ∧
        (∀ v, captured id = some v → ¬ stale →
          t.ring.handed.getD id 0 = (if id = 0 ∨ id = 7 then min v 65000 else v) ∧
          t.ring.lastGood.getD id none =
            (if (id = 2 ∨ id = 9) ∧ v = 65535 ∨ (id = 3 ∨ id = 10) ∧ v = -32768 then good id
             else some (t.ring.handed.getD id 0)))) ∧
      t.ring.captured = captureInputs s.inForce f.payload ∧
      (let counts := fun (id before after : Nat) =>
         (∀ v, captured id = some v → 65000 < v → ¬ (sequence id ≠ none ∧ sequence id = reference id) →
           after = min (before + 1) 65535) ∧
         ((∀ v, captured id = some v → v ≤ 65000) ∨ (sequence id ≠ none ∧ sequence id = reference id) →
           after = before)
       counts 0 s.ring.overRangeA t.ring.overRangeA ∧ counts 7 s.ring.overRangeB t.ring.overRangeB) ∧
      (∀ v, captured 6 = some v → t.ring.reference.a = some v ∧
        t.ring.stale.a = if s.ring.reference.a = some v then min (s.ring.stale.a + 1) 65535 else 0) ∧
      (∀ v, captured 13 = some v → t.ring.reference.b = some v ∧
        t.ring.stale.b = if s.ring.reference.b = some v then min (s.ring.stale.b + 1) 65535 else 0) ∧
      (∀ v, captured 16 = some v → t.ring.reference.x = some v ∧
        t.ring.stale.x = if s.ring.reference.x = some v then min (s.ring.stale.x + 1) 65535 else 0)

/-- R10, R163, R164, R165, R187: the loss of a ring that is UP or COASTING with the miss count at the miss limit. The ring
state becomes LOST and RING_LOST is raised with the miss limit; an active pass takes the fault RING_LOSS and a HALT
all in WITHDRAW loss mode, and a hold order with cause RING in HOLD loss mode, which becomes the HALT all once the
loss hold counter has reached the hold window: at once where the hold with cause RING is taken with the window reached
already, as a hold window of 0 is. That a miss count above the miss limit is a loss too is DEDUCED (log entry 9); that the
two commands judge the state as it stands is the model's reading of the table (log entry 2), and that the window is
reached when the counter stands at it is log entry 20. That the two commands by themselves form no withdraw step and leave
the speed demand of a head taken out of TRAVERSE standing until the next set is the model's choice (log entries 66 and
48). -/
def Obligations.RingLossHoldsOrHalts : Prop :=
  ∀ s : State, s.power = .running →
    let lost := ({ s with ring := { s.ring with state := .lost } } : State).raise .ringLost (min s.gantry.missLimit 65535)
    let held := lost.holdOrder .ring
    let halted := fun (u : State) =>
      (u.takeFault .ringLoss none s.planner.measuredX s.ring.missCount).haltAll.testPassEnd
    ((s.ring.state = .up ∨ s.ring.state = .coasting) → s.gantry.missLimit ≤ s.ring.missCount →
      (s.active = false → exec .ringLost s = .next lost) ∧
      (s.active = true → s.gantry.lossMode = .withdraw → exec .ringLost s = .next (halted lost)) ∧
      (s.active = true → s.gantry.lossMode = .hold →
        (s.pass.holdCause ≠ .ring → held.pass.holdCause = .ring → s.pass.lossHold = s.gantry.holdWindow →
          exec .ringLost s = .next (halted held)) ∧
        (s.pass.holdCause = .ring ∨ held.pass.holdCause ≠ .ring ∨ s.pass.lossHold ≠ s.gantry.holdWindow →
          exec .ringLost s = .next held))) ∧
    (s.active = true → s.pass.holdCause = .ring → s.pass.lossHold = s.gantry.holdWindow →
      exec .holdWindowReached s = .next (halted s))

/-! ## Requests: reading and writing the tables -/

/-- R172, R173, R190, R197: READ STATUS answers each of its eleven pages with the items it holds, refuses any other index
with INDEX, and changes nothing but the area. The manual gives no place for the items of a page; wherever the model's free
layout puts them (log entry 4), the data of pages 1 and 10 hold the images of the latch and fault records, and those of
pages 2 and 5 the code of the last completed kind, 0 for none. The images are those of R197; page 10 shows whether a stream
is open and the fields of its context, which have no meaning while it is closed (R168, log entry 53). The zeros of the image of an empty record beside its first
byte are log entry 4 as well. -/
def Obligations.ReadStatusPages : Prop :=
  (∃ latchAt faultAt : Nat, ∃ kindAt : HeadId → Nat,
    let shown := fun (p : StatusPage) => (⟨.done, .page p⟩ : Reply).dataBytes
    (∀ p image, image.length = 16 → ((shown (.planner p image)).drop latchAt).take 16 = image) ∧
    (∀ f image n mask o c staged, image.length = 16 →
      ((shown (.faults f image n mask o c staged)).drop faultAt).take 16 = image) ∧
    (∀ n e, (latchImage n e).length = 16) ∧ (∀ f, (faultImage f).length = 16) ∧
    (∀ n, latchImage n none = bytesOf 1 n ++ List.replicate 15 0) ∧
    (∀ n (e : MarkEdge), latchImage n (some e) = bytesOf 1 n ++ [if e.station = none then 0 else 1, 0, 0] ++
      bytesOf 4 e.x ++ bytesOf 4 (e.station.getD 0) ++ bytesOf 4 e.setNumber) ∧
    faultImage none = List.replicate 16 0 ∧
    (∀ f : FaultRecord, faultImage (some f) = bytesOf 1 1 ++ bytesOf 1 f.kind.code ++ bytesOf 1 (match f.head with
      | some .a => 0
      | some .b => 1
      | none => 2) ++ bytesOf 1 0 ++ bytesOf 4 f.setNumber ++ bytesOf 4 f.station ++ bytesOf 4 f.value) ∧
    [FaultKind.stopLine, .skew, .xStale, .xLag, .headStale, .noContact, .spinupTimeout, .startMissed, .saturation,
      .holdLimit, .guardExit, .guardHalt, .ringLoss, .noDatum, .startBehind].map FaultKind.code =
      [1, 2, 3, 4, 5, 6, 7, 8, 9, 10, 11, 12, 13, 14, 15] ∧
    ∀ h (p : SequencerPage), (shown (.sequencer h p))[kindAt h]? = some (match p.lastKind with
      | none => 0
      | some .start => 1
      | some .dwell => 2
      | some .traverse => 3
      | some .exit => 4)) ∧
  ∀ (r : Request) (s : State), s.serving = true → r.length.toNat = 0 →
    let page := fun (n : Nat) (p : StatusPage) =>
      r.index.toNat = n → exec (.readStatus r) s = .next (readReply s .readStatus r .done (.page p))
    let sequencer := fun (x : Head) => (⟨x.seq.state, x.seq.order, x.seq.faultExit, x.seq.progress, x.seq.carried,
      x.seq.lastKind, x.seq.queue.length, x.seq.station, x.seq.holdTimer, x.seq.spinupTimer, x.seq.atSpeedCount,
      x.fired⟩ : SequencerPage)
    page 0 (.node s.lines s.ring.setNumber s.ring.coastCount s.pass s.service.lastReply) ∧
    page 1 (.planner s.planner (latchImage s.planner.latchCount s.planner.latch)) ∧
    page 2 (.sequencer .a (sequencer s.headA)) ∧ page 3 (.regulator .a s.headA.reg) ∧ page 4 (.trim .a s.headA.trim) ∧
    page 5 (.sequencer .b (sequencer s.headB)) ∧ page 6 (.regulator .b s.headB.reg) ∧ page 7 (.trim .b s.headB.trim) ∧
    page 8 (.ring ⟨s.ring.state, s.ring.missCount, s.ring.early, s.ring.short, s.ring.badCheck, s.ring.reference,
      s.ring.stale, s.ring.overRangeA, s.ring.overRangeB, s.gantryFired⟩) ∧
    page 9 (.lastGood s.ring.lastGood) ∧
    page 10 (.faults s.events.fault (faultImage s.events.fault) s.events.faultCount s.events.mask
      s.service.stream.isSome (s.service.stream.getD s.service.closed) s.service.staging.length) ∧
    (10 < r.index.toNat → exec (.readStatus r) s = .next (readReply s .readStatus r .index .empty))

/-- R33, R111, R133, R142, R144, R153, R172, R174, R193 to R196: READ RECORD answers the image of the record at an index of
its table, refuses an index outside the table with INDEX, and a table or a head it does not know with VALUE; it changes
nothing but the area. That the number of queued segments follows the image as a half-word is DEDUCED (log entry 4). -/
def Obligations.ReadRecordTables : Prop :=
  ∀ (r : Request) (s : State), s.serving = true → r.length.toNat = 0 →
    let i := r.index.toNat
    let answers := fun (c : ReplyCode) (d : ReplyData) =>
      exec (.readRecord r) s = .next (readReply s .readRecord r c d)
    (∀ h, headOfCode r.head.toNat = some h →
      (r.table.toNat = 0 →
        (∀ g, (s.head h).seq.queue[i]? = some g →
          answers .done (.image (g.image ++ bytesOf 2 (s.head h).seq.queue.length))) ∧
        ((s.head h).seq.queue.length ≤ i → answers .index .empty)) ∧
      (r.table.toNat = 1 →
        (i = 65535 → answers .done (.image (s.head h).map.headerImage)) ∧
        (∀ p, i ≠ 65535 → (s.head h).map.points[i]? = some p →
          answers .done (.image (p.image ++ bytesOf 2 (s.head h).map.points.length))) ∧
        (i ≠ 65535 → (s.head h).map.points.length ≤ i → answers .index .empty)) ∧
      (r.table.toNat = 4 →
        (i ≤ 3 → answers .done (.image ((s.head h).profile.pageImage i))) ∧ (3 < i → answers .index .empty))) ∧
    (r.table.toNat = 2 →
      (∀ g, s.guards[i]? = some g → answers .done (.image g.image)) ∧
      (s.guards.length ≤ i → answers .index .empty)) ∧
    (r.table.toNat = 3 → (i = 0 → answers .done (.image s.gantry.image)) ∧ (i ≠ 0 → answers .index .empty)) ∧
    (r.table.toNat = 5 →
      (∀ e, s.slotMap[i]? = some e → answers .done (.image e.image)) ∧
      (s.slotMap.length ≤ i → answers .index .empty)) ∧
    (5 < r.table.toNat → answers .value .empty) ∧
    (1 < r.head.toNat → (r.table.toNat = 0 ∨ r.table.toNat = 1 ∨ r.table.toNat = 4) → answers .value .empty)

/-- R27, R193: the image of every segment record in range reads back as that record, so that no field of an image is
lost or mistaken, and whatever image is read as a record is read as one in range. -/
def Obligations.SegmentImagesReadBack : Prop :=
  ∀ dMax : Int,
    (∀ g : Segment, SegmentInRange dMax g → readSegment dMax g.image = some g ∧ g.image.length = 16) ∧
    ∀ (bs : List Byte) (g : Segment), readSegment dMax bs = some g → SegmentInRange dMax g

/-- R103, R115, R141, R143, R194, R195, R196: the images of a map point, a guard record, the gantry profile, the pages of a
head profile and a slot map entry in range read back as what they hold and pass the checks of a write. A guard record
reads back with its run fields cleared. Conversely an image that passes the checks of a write reads as a record in
range. -/
def Obligations.TableImagesReadBack : Prop :=
  (∀ p : MapPoint, -2147483648 ≤ p.station → p.station ≤ 2147483647 → p.inRange = true → readPoint p.image = p) ∧
  (∀ g : GuardRecord, -2147483648 ≤ g.lo → g.lo ≤ 2147483647 → -2147483648 ≤ g.hi → g.hi ≤ 2147483647 →
    g.owner.watches g.channel = true → g.comparison.limitsOk g.lo g.hi = true → g.owner.arms g.arm.toNat = true →
    0 ≤ g.cap → g.cap ≤ 1000 →
    readGuard (g.image.take 16) = some { g with tripped := false, trips := 0, window := [] }) ∧
  (∀ g : GantryProfile, GantryInRange g → readGantry g.image = g ∧ firstFalse (gantryChecks g.image) = none) ∧
  (∀ (p q : HeadProfile) (page : Nat), ProfileInRange p → page ≤ 3 →
    firstFalse (pageChecks page (p.pageImage page)) = none ∧ (p.pageImage page).length = pageLength page ∧
    q.withPage page (p.pageImage page) =
      ⟨if page = 0 then p.depth else q.depth, if page = 1 then p.gains else q.gains,
        if page = 2 then p.limits else q.limits, if page = 3 then p.trim else q.trim⟩) ∧
  (∀ e : SlotEntry, e.offset < 65536 → readSlot e.image = some e) ∧
  (∀ bs : List Byte, -2147483648 ≤ (readPoint bs).station ∧ (readPoint bs).station ≤ 2147483647) ∧
  (∀ (bs : List Byte) (g : GuardRecord), readGuard bs = some g →
    -2147483648 ≤ g.lo ∧ g.lo ≤ 2147483647 ∧ -2147483648 ≤ g.hi ∧ g.hi ≤ 2147483647 ∧
    g.owner.watches g.channel = true ∧ g.comparison.limitsOk g.lo g.hi = true ∧ g.owner.arms g.arm.toNat = true ∧
    0 ≤ g.cap ∧ g.cap ≤ 1000) ∧
  (∀ bs : List Byte, firstFalse (gantryChecks bs) = none → GantryInRange (readGantry bs)) ∧
  (∀ (p : HeadProfile) (page : Nat) (bs : List Byte), ProfileInRange p → page ≤ 3 →
    firstFalse (pageChecks page bs) = none → ProfileInRange (p.withPage page bs)) ∧
  ∀ (bs : List Byte) (e : SlotEntry), readSlot bs = some e → e.offset < 65536

/-- R107 to R111: a map written. For a point the checks stand in their order: a full map, the index, the ranges, the
order of the stations, the fence; a point that passes them is replaced or appended. For the header a count above the
present one is refused with VALUE, an equal one changes nothing, and a lower one removes the points from it on, where the
head is out of the pass or no pass is active and the fence allows it. A write refused by the fence is counted and raises
MAP_FENCE. -/
def Obligations.MapWritesChecked : Prop :=
  (∀ (r : Request) (h : HeadId) (s : State), s.serving = true → headOfCode r.head.toNat = some h →
      r.index.toNat ≠ 65535 → r.length.toNat = 8 →
      let k := r.index.toNat
      let points := (s.head h).map.points
      let p := readPoint (slice 0 8 r.payload)
      let ranged := 500 ≤ p.kf ∧ p.kf ≤ 1500 ∧ -2000 ≤ p.dz ∧ p.dz ≤ 2000
      let ordered := (∀ j q, k = j + 1 → points[j]? = some q → q.station < p.station) ∧
        (∀ q, points[k + 1]? = some q → p.station < q.station)
      let fenced := ∃ f, (s.head h).map.fence = some f ∧ ∀ j q, k = j + 1 → points[j]? = some q → q.station < f
      let answers := fun (t : State) (c : ReplyCode) (d : ReplyData) =>
        exec (.writeRecordMap r) s = .next (replied t .writeRecord { r with table := 1 } c d)
      (k = 128 → points.length = 128 → answers s .full .empty) ∧
      (points.length < k ∨ 128 < k → answers s .index .empty) ∧
      (k ≤ points.length → k < 128 → ¬ ranged → answers s .value .empty) ∧
      (k ≤ points.length → k < 128 → ranged → ¬ ordered → answers s .value .empty) ∧
      (k ≤ points.length → k < 128 → ranged → ordered → fenced →
        answers ((s.modMap h fun m => { m with refusals := min (m.refusals + 1) 65535 }).raise .mapFence
          (packDetail k h.code)) .fence .empty) ∧
      (k ≤ points.length → k < 128 → ranged → ordered → ¬ fenced →
        answers (s.modMap h fun m => { m with points := points.take k ++ p :: points.drop (k + 1) }) .done
          (.number (if k < points.length then points.length else k + 1)))) ∧
  ∀ (r : Request) (h : HeadId) (s : State), s.serving = true → headOfCode r.head.toNat = some h →
    r.length.toNat = 10 →
    let n := fieldU 0 2 r.payload
    let points := (s.head h).map.points
    let open' := (s.headState h).working = false ∨ s.active = false
    let fenced := ∃ f, (s.head h).map.fence = some f ∧ ∀ j q, n = j + 1 → points[j]? = some q → q.station < f
    let answers := fun (t : State) (c : ReplyCode) (d : ReplyData) => exec (.writeRecordMapHeader r) s =
      .next (replied t .writeRecord { r with table := 1, index := 65535 } c d)
    (points.length < n → answers s .value .empty) ∧
    (n = points.length → answers s .done (.number n)) ∧
    (n < points.length → ¬ open' → answers s .state .empty) ∧
    (n < points.length → open' → fenced →
      answers ((s.modMap h fun m => { m with refusals := min (m.refusals + 1) 65535 }).raise .mapFence
        (packDetail n h.code)) .fence .empty) ∧
    (n < points.length → open' → ¬ fenced →
      answers (s.modMap h fun m => { m with points := points.take n }) .done (.number n))

/-- R115, R142, R153, R175, R195: the guard table, the gantry profile and the slot map written. A guard record is written
only while no pass is active, at an index from 0 to 11, and when no field fails its check; the write replaces the whole
record and clears its run fields. The gantry profile and the slot map are written in CONFIG alone. The gantry profile is
refused at an index other than 0 and at its first field out of range, with the number of that field; a mark filter counter
comes down to a lower mark filter, and the line must then read negated before a further edge. A slot map entry is refused at an id above 27 and for an enabled flag of neither
value. -/
def Obligations.GuardGantryAndSlotMapWritten : Prop :=
  (∀ (r : Request) (s : State), s.serving = true → r.length.toNat = 16 →
      let i := r.index.toNat
      let bs := slice 0 16 r.payload
      let owner := fieldU 0 1 bs % 4
      let channel := fieldU 1 1 bs
      let arm := fieldU 12 1 bs
      let fails := owner = 3 ∨ 9 < channel ∨ (owner ≠ 2 ∧ 8 ≤ channel) ∨ (owner = 2 ∧ channel < 8) ∨
        3 < fieldU 2 1 bs ∨ (2 ≤ fieldU 2 1 bs ∧ fieldS 8 4 bs < fieldS 4 4 bs) ∨ 3 < fieldU 3 1 bs ∨
        (owner ≠ 2 ∧ 32 ≤ arm) ∨ (owner = 2 ∧ 8 ≤ arm) ∨ 4 < fieldU 13 1 bs ∨ 1000 < fieldU 14 2 bs
      let answers := fun (t : State) (c : ReplyCode) =>
        exec (.writeRecordGuard r) s = .next (replied t .writeRecord { r with table := 2 } c .empty)
      (s.active = true → answers s .state) ∧
      (s.active = false → 11 < i → answers s .index) ∧
      (s.active = false → i ≤ 11 → fails → answers s .value) ∧
      (s.active = false → i ≤ 11 → ¬ fails → ∃ g : GuardRecord, answers { s with guards := s.guards.set i g } .done ∧
        g.enabled = (fieldU 0 1 bs).testBit 7 ∧ g.owner.code = owner ∧ g.channel.code = channel ∧
        g.comparison.code = fieldU 2 1 bs ∧ g.filter.code = fieldU 3 1 bs ∧ g.lo = fieldS 4 4 bs ∧ g.hi = fieldS 8 4 bs ∧
        g.arm.toNat = arm ∧ g.action.code = fieldU 13 1 bs ∧ g.cap = fieldU 14 2 bs ∧
        g.tripped = false ∧ g.trips = 0 ∧ g.window = [])) ∧
  ∀ (r : Request) (s : State), s.serving = true →
    let i := r.index.toNat
    let gantry := fun (t : State) (c : ReplyCode) (d : ReplyData) =>
      exec (.writeRecordGantryProfile r) s = .next (replied t .writeRecord { r with table := 3 } c d)
    let slot := fun (t : State) (c : ReplyCode) =>
      exec (.writeRecordSlotMap r) s = .next (replied t .writeRecord { r with table := 5 } c .empty)
    (r.length.toNat = 42 →
      let bs := slice 0 42 r.payload
      (s.service.mode ≠ .config → gantry s .state .empty) ∧
      (s.service.mode = .config → i ≠ 0 → gantry s .index .empty) ∧
      (∀ field, s.service.mode = .config → i = 0 → firstFalse (gantryChecks bs) = some field →
        gantry s .value (.number field)) ∧
      (s.service.mode = .config → i = 0 → firstFalse (gantryChecks bs) = none →
        gantry { s with
          gantry := readGantry bs
          planner := { s.planner with
            markCount := min s.planner.markCount (readGantry bs).markFilter
            markHeld := s.planner.markHeld || decide ((readGantry bs).markFilter < s.planner.markCount) } }
          .done .empty)) ∧
    (r.length.toNat = 3 →
      let bs := slice 0 3 r.payload
      (s.service.mode ≠ .config → slot s .state) ∧
      (s.service.mode = .config → 27 < i → slot s .index) ∧
      (s.service.mode = .config → i ≤ 27 → 1 < fieldU 2 1 bs → slot s .value) ∧
      (s.service.mode = .config → i ≤ 27 → fieldU 2 1 bs ≤ 1 →
        slot { s with slotMap := s.slotMap.set i ⟨fieldU 0 2 bs, fieldU 2 1 bs == 1⟩ } .done))

/-- R143, R144, R175: a page of a head profile is written in CONFIG, and otherwise while its head is IDLE, WAITING,
FINISHED or STOPPED; a field out of range is refused with the page and the field, and so is a page that breaks its
relation outside CONFIG. -/
def Obligations.HeadProfilePageWritten : Prop :=
  ∀ (r : Request) (h : HeadId) (s : State), s.serving = true → headOfCode r.head.toNat = some h →
    let page := r.index.toNat
    let bs := slice 0 (pageLength page) r.payload
    let p := (s.head h).profile.withPage page bs
    let admitted := s.service.mode = .config ∨ s.headState h = .idle ∨ s.headState h = .waiting ∨
      s.headState h = .finished ∨ s.headState h = .stopped
    let answers := fun (t : State) (c : ReplyCode) (d : ReplyData) =>
      exec (.writeRecordHeadProfile r) s = .next (replied t .writeRecord { r with table := 4 } c d)
    (3 < page → answers s .index .empty) ∧
    (page ≤ 3 → r.length.toNat ≠ pageLength page → answers s .value .empty) ∧
    (page ≤ 3 → r.length.toNat = pageLength page →
      (¬ admitted → answers s .state .empty) ∧
      (∀ field, admitted → firstFalse (pageChecks page bs) = some field →
        answers s .value (.items [(page : Int), (field : Int)])) ∧
      (∀ field, admitted → firstFalse (pageChecks page bs) = none → s.service.mode ≠ .config →
        p.brokenRelation page = some field → answers s .value (.items [(page : Int), (field : Int)])) ∧
      (admitted → firstFalse (pageChecks page bs) = none →
        (s.service.mode = .config ∨ p.brokenRelation page = none) →
        answers (s.modHead h fun x => { x with profile := p }) .done .empty))

/-! ## Requests: queues and streams -/

/-- R27 to R30, R32: APPEND SEGMENT and CANCEL PENDING. An append is refused by a full queue, then by a field out of
range, then by the successor order; taken, it joins the queue at its tail. A cancel leaves the executing record of a
working head, and empties the queue of a head out of the pass together with its last completed kind. -/
def Obligations.AppendsAndCancels : Prop :=
  (∀ (before : Option SegKind) (k : SegKind), mayFollow before k = true ↔ match before with
    | none => k = .start
    | some .start => k = .dwell ∨ k = .traverse
    | some .dwell => k = .dwell ∨ k = .traverse ∨ k = .exit
    | some .traverse => k = .traverse ∨ k = .dwell ∨ k = .exit
    | some .exit => k = .start) ∧
  ∀ (r : Request) (h : HeadId) (s : State), s.serving = true → headOfCode r.head.toNat = some h →
    let q := (s.head h).seq.queue
    let append := fun (t : State) (c : ReplyCode) (d : ReplyData) =>
      exec (.appendSegment r) s = .next (replied t .appendSegment r c d)
    let cancel := fun (t : State) (n : Nat) =>
      exec (.cancelPending r) s = .next (replied t .cancelPending r .done (.number n))
    let reference := match q.getLast? with
      | some g => some g.kind
      | none => (s.head h).seq.lastKind
    (r.length.toNat = 16 →
      let read := readSegment (s.head h).profile.depth.dMax (slice 0 16 r.payload)
      (16 ≤ q.length → append s .full .empty) ∧
      (q.length < 16 → read = none → append s .value .empty) ∧
      (∀ g, q.length < 16 → read = some g → mayFollow reference g.kind = false → append s .order .empty) ∧
      (∀ g, q.length < 16 → read = some g → mayFollow reference g.kind = true →
        append (s.modSeq h fun x => { x with queue := q ++ [g] }) .done (.number (q.length + 1)))) ∧
    (r.length.toNat = 0 →
      ((s.headState h).working = true → cancel (s.modSeq h fun x => { x with queue := q.take 1 }) (q.length - 1)) ∧
      ((s.headState h).working = false →
        cancel (s.modSeq h fun x => { x with queue := [], lastKind := none }) q.length))

/-- R178, R181, R182: STREAM OPEN is refused while a stream is open and for a table, a head or a count it does not admit,
and otherwise opens the stream with an empty staging buffer. An open stream whose idle timer has reached the stream
timeout expires, which closes it and raises STREAM_EXPIRED: the command judges the idle timer as it stands, and leaves a
stream below the timeout alone, which is the model's reading of the table of steps (log entry 2). STREAM CANCEL is
answered DONE in every mode; an open stream closes and its staging buffer is emptied, and the reply holds 1 and the
remaining count; without one nothing changes and the reply holds 0. What a closed context holds has no meaning (R168) and
is free (log entry 53). -/
def Obligations.StreamsOpenExpireAndCancel : Prop :=
  let closed := fun (s : State) (c : Stream) =>
    { s with service := { s.service with stream := none, closed := Config.closedContext c, staging := [] } }
  (∀ (r : Request) (s : State), s.serving = true → r.length.toNat = 8 →
    let table := fieldU 0 1 r.payload
    let head := fieldU 1 1 r.payload
    let count := fieldU 4 2 r.payload
    let admitted := (table = 2 ∨ table ≤ 1 ∧ head ≤ 1) ∧ 1 ≤ count ∧ count ≤ 64
    let answers := fun (t : State) (c : ReplyCode) => exec (.streamOpen r) s = .next (replied t .streamOpen r c .empty)
    (s.service.stream ≠ none → answers s .busy) ∧
    (s.service.stream = none → ¬ admitted → answers s .value) ∧
    (s.service.stream = none → admitted → ∃ c : Stream,
      answers { s with service := { s.service with stream := some c, staging := [] } } .done ∧
      c.table.code = table ∧ (table ≤ 1 → c.head.code = head) ∧ c.first = fieldU 2 2 r.payload ∧ c.count = count ∧
      c.remaining = count ∧ c.expected.toNat = fieldU 6 2 r.payload ∧ c.idle = 0)) ∧
  (∀ (c : Stream) (s : State), s.power = .running → s.service.stream = some c →
    (s.gantry.streamTimeout ≤ c.idle → exec .streamExpired s =
      .next ((closed s c).raise .streamExpired (packDetail c.table.code c.remaining))) ∧
    (c.idle < s.gantry.streamTimeout → exec .streamExpired s = .next s)) ∧
  ∀ (r : Request) (s : State), s.serving = true → r.length.toNat = 0 →
    exec (.streamCancel r) s = .next (match s.service.stream with
      | some c => replied (closed s c) .streamCancel r .done (.items [1, (c.remaining : Int)])
      | none => replied s .streamCancel r .done (.number 0))

/-- R33, R112, R179, R180: STREAM DATA. Without a stream it is refused with STATE, above the remaining count with
VALUE; otherwise its records join the staging buffer. The stream that is thereby complete closes in every case: its
check is compared, and its records are applied all together or not at all; the reply of a refused stream names the first
record that fails, tested on what the records before it would leave. What the closed context holds is free (log entry
53). -/
def Obligations.StreamsApplyWholeOrNotAtAll : Prop :=
  ∀ (r : Request) (n : Nat) (s : State), s.serving = true → (n = 1 ∨ n = 2 ∨ n = 3) → r.length.toNat = 16 * n →
    let answers := fun (t : State) (c : ReplyCode) (d : ReplyData) =>
      exec (.streamData r) s = .next (replied t .streamData r c d)
    (s.service.stream = none → answers s .state .empty) ∧
    ∀ c : Stream, s.service.stream = some c →
      let records := s.service.staging ++ (List.range n).map fun i => slice (16 * i) 16 r.payload
      let closed := { s with service :=
        { s.service with stream := none, closed := Config.closedContext c, staging := [] } }
      let dMax := (s.head c.head).profile.depth.dMax
      let q := (s.head c.head).seq.queue
      let fence := (s.head c.head).map.fence
      let record := fun (pos : Nat) => records.getD pos []
      let fits := fun (n : Nat) => ∃ gs : List Segment, (records.take n).map (readSegment dMax) = gs.map some ∧
        Ordered (s.head c.head).seq.reference gs
      (c.remaining < n → answers s .value .empty) ∧
      (n < c.remaining →
        answers { s with service := { s.service with
          stream := some { c with remaining := c.remaining - n, idle := 0 }, staging := records } } .done
          (.number (c.remaining - n))) ∧
      (n = c.remaining → xorHalves records.flatten ≠ c.expected →
        answers closed .check (.number (xorHalves records.flatten).toNat)) ∧
      (n = c.remaining → xorHalves records.flatten = c.expected →
        (c.table = .segment →
          (16 < q.length + records.length → answers closed .full (.number 0)) ∧
          (∀ gs, q.length + records.length ≤ 16 → records.map (readSegment dMax) = gs.map some →
            Ordered (s.head c.head).seq.reference gs →
            answers (closed.modSeq c.head fun x => { x with queue := q ++ gs }) .done (.number gs.length)) ∧
          (∀ pos, q.length + records.length ≤ 16 → pos < records.length → fits pos → ¬ fits (pos + 1) →
            answers closed (if readSegment dMax (record pos) = none then .value else .order) (.number pos))) ∧
        (c.table = .map →
          (∀ points, RunOfWrites fence c.first (s.head c.head).map.points (records.map readPoint) points →
            answers (closed.modMap c.head fun m => { m with points := points }) .done (.number records.length)) ∧
          (∀ pos points, pos < records.length →
            RunOfWrites fence c.first (s.head c.head).map.points ((records.take pos).map readPoint) points →
            let code := checkPoint fence points (c.first + pos) (readPoint (record pos))
            code ≠ .done → answers (if code = .fence then
                (closed.modMap c.head fun m => { m with refusals := min (m.refusals + 1) 65535 }).raise .mapFence
                  (packDetail (c.first + pos) c.head.code)
              else closed) code (.items [(pos : Int), ((c.first + pos : Nat) : Int)]))) ∧
        (c.table = .guard →
          (s.active = true → answers closed .state (.items [0, (c.first : Int)])) ∧
          (∀ gs, s.active = false → c.first + records.length ≤ 12 → s.guards.length = 12 →
            records.map readGuard = gs.map some →
            answers { closed with
              guards := s.guards.take c.first ++ gs ++ s.guards.drop (c.first + gs.length) } .done
              (.number gs.length)) ∧
          (∀ pos, s.active = false → pos < records.length → c.first + pos ≤ 12 →
            (∀ j < pos, readGuard (record j) ≠ none) →
            (c.first + pos = 12 → answers closed .index (.items [(pos : Int), ((c.first + pos : Nat) : Int)])) ∧
            (c.first + pos < 12 → readGuard (record pos) = none →
              answers closed .value (.items [(pos : Int), ((c.first + pos : Nat) : Int)]))) ∧
          (s.active = false → 12 < c.first → answers closed .index (.items [0, (c.first : Int)]))))

/-! ## Requests: passes, modes and events -/

/-- R3 to R5, R13, R68, R71, R93, R122, R126: PASS START. Its six checks stand in their order; a heads field, a datum mode
or a linked flag that is no code of its table is refused with VALUE (R189; log entry 5). Taken, it fills the pass
record, puts each named head in WAITING with its START executing and every other head in IDLE with its queue as it
stands, reseeds commanded X, returns the trim units to their start values, and clears the latched guards. -/
def Obligations.PassStartFillsThePass : Prop :=
  ∀ (r : Request) (s : State), s.serving = true → r.length.toNat = 10 →
    let heads := fieldU 2 1 r.payload
    let mode := fieldU 3 1 r.payload
    let datum := fieldS 6 4 r.payload
    let named := fun (h : HeadId) => heads = 3 ∨ heads = h.code + 1
    let known := 1 ≤ heads ∧ heads ≤ 3 ∧ mode ≤ 1 ∧ fieldU 4 1 r.payload ≤ 1
    let present := ∀ h, named h → s.gantry.present.has h = true
    let ready := fun (h : HeadId) => ∃ st rpm force depth rest, (s.head h).seq.queue = .start st rpm force depth :: rest
    let answers := fun (t : State) (c : ReplyCode) (d : ReplyData) =>
      exec (.passStart r) s = .next (replied t .passStart r c d)
    (s.service.mode ≠ .ready ∨ s.active = true ∨ s.lines.stop = true → answers s .state .empty) ∧
    (s.service.mode = .ready → s.active = false → s.lines.stop = false →
      (¬ (known ∧ present) → answers s .value .empty) ∧
      (known → present → named .a → ¬ ready .a → answers s .state (.number 0)) ∧
      (known → present → named .b → ¬ ready .b → (named .a → ready .a) → answers s .state (.number 1)) ∧
      (known → present → (∀ h, named h → ready h) → ∃ t : State, answers t .done .empty ∧
        t.pass.number = fieldU 0 2 r.payload ∧ (∀ h, t.pass.heads.has h = true ↔ named h) ∧
        (t.pass.datumMode = .given ↔ mode = 0) ∧ t.pass.state = .approach ∧ t.pass.holdCause = .none ∧
        t.pass.lossHold = 0 ∧ t.pass.datumValid = decide (mode = 0) ∧ t.pass.x0 = (if mode = 0 then datum else 0) ∧
        t.pass.linked = decide (heads = 3 ∧ fieldU 4 1 r.payload = 1) ∧
        (mode = 1 → t.pass.approachX = datum) ∧
        (mode = 0 → (∃ h, named h ∧ t.plungeX h = some t.pass.approachX) ∧
          ∀ h x, named h → t.plungeX h = some x → t.pass.approachX ≤ x) ∧
        (∀ h st rpm force depth rest, named h → (s.head h).seq.queue = .start st rpm force depth :: rest →
          (t.head h).seq = { (s.head h).seq with
            state := .waiting, order := .none, faultExit := false, executing := true
            progress := { Progress.cleared with s0 := st }
            carried := ⟨force, 0, rpm, min depth (s.head h).profile.depth.dMax⟩ } ∧
          (rest = [] → s.events.enables .queueLow = true → ∃ e ∈ t.events.entries, e.kind = .queueLow)) ∧
        (∀ h, ¬ named h → (t.head h).seq = { (s.head h).seq with
          state := .idle, order := .none, faultExit := false, executing := false, progress := Progress.cleared }) ∧
        (∀ h, (t.head h).reg = (s.head h).reg.cleared ∧
          (t.head h).trim = { (s.head h).trim with ovrV := 1000, ovrN := 1000, lateral := 0 } ∧
          (t.head h).fired = HeadFired.clear ∧ (t.head h).map = (s.head h).map ∧ (t.head h).profile = (s.head h).profile) ∧
        t.planner = { s.planner with commandedX := s.planner.measuredX * 1000, lag := 0 } ∧
        t.guards = s.guards.map (fun g => if g.action.latches then { g with tripped := false, window := [] } else g) ∧
        t = { s with
          pass := t.pass, headA := t.headA, headB := t.headB, planner := t.planner, guards := t.guards
          gantryFired := GantryFired.clear, events := t.events }))

/-- R7, R8: a hold order holds a RUNNING pass, pauses an APPROACH, replaces a stored cause of lower rank, and is not taken
without an active pass; two hold orders have the same outcome whichever is taken first. PASS HOLD is answered STATE outside
READY or without an active pass, and otherwise DONE, with a hold order of cause REQUEST. -/
def Obligations.HoldOrdersKeepTheHigherCause : Prop :=
  (∀ (r : Request) (s : State), s.serving = true → r.length.toNat = 0 →
      exec (.passHold r) s = .next
        (if s.service.mode ≠ .ready ∨ s.active = false then replied s .passHold r .state .empty
         else replied (s.holdOrder .request) .passHold r .done .empty)) ∧
  ∀ (c d : HoldCause) (s : State), c ≠ .none → d ≠ .none →
    (s.pass.state = .running → s.holdOrder c = { s with pass := { s.pass with state := .held, holdCause := c } }) ∧
    (s.pass.state = .approach → s.pass.holdCause = .none →
      s.holdOrder c = { s with pass := { s.pass with holdCause := c } }) ∧
    ((s.pass.state = .held ∨ s.pass.state = .approach ∧ s.pass.holdCause ≠ .none) →
      s.holdOrder c =
        if s.pass.holdCause.rank < c.rank then { s with pass := { s.pass with holdCause := c } } else s) ∧
    (s.active = false → s.holdOrder c = s) ∧
    ((s.holdOrder c).holdOrder d = (s.holdOrder d).holdOrder c) ∧
    HoldCause.rank .request < HoldCause.rank .guard ∧ HoldCause.rank .guard < HoldCause.rank .ring ∧
    HoldCause.rank .ring < HoldCause.rank .halt

/-- R9, R11, R12, R20: PASS RESUME is refused with STATE outside READY, for a pass that is not held or paused, under QUICKSTOP, and
for a ring hold while the ring is not UP, and otherwise returns the pass to RUNNING or to its approach; PASS ABORT is
refused with STATE outside READY or without an active pass, and otherwise sends each pass head an EXIT order of kind
IN_PLACE, head A first, and makes the pass-end test. What an abort leaves standing until the next set is the model's
choice: the v_h of a head that leaves TRAVERSE (log entry 48), the fence of a head that stops (log entry 49), the stop
points and the X demand of a pass that stays active (log entry 56), and the saturation run of a head that brakes (log
entry 59); and so is the unused run-out length 0 of its exit record (log entry 63). -/
def Obligations.PassResumeAndAbort : Prop :=
  ∀ (r : Request) (s : State), s.serving = true → r.length.toNat = 0 →
    let resumable := s.service.mode = .ready ∧
      (s.pass.state = .held ∨ s.pass.state = .approach ∧ s.pass.holdCause ≠ .none) ∧
      s.planner.xMode ≠ .quickstop ∧ (s.pass.holdCause = .ring → s.ring.state = .up)
    (¬ resumable → exec (.passResume r) s = .next (replied s .passResume r .state .empty)) ∧
    (resumable → exec (.passResume r) s = .next (replied { s with pass := { s.pass with
      state := if s.pass.state = .held then .running else .approach, holdCause := .none, lossHold := 0 } }
      .passResume r .done .empty)) ∧
    (s.service.mode ≠ .ready ∨ s.active = false →
      exec (.passAbort r) s = .next (replied s .passAbort r .state .empty)) ∧
    (s.service.mode = .ready → s.active = true →
      let first := if s.pass.heads.has .a = true then s.exitOrder .a .inPlace else s
      let second := if s.pass.heads.has .b = true then first.exitOrder .b .inPlace else first
      exec (.passAbort r) s = .next (replied second.testPassEnd .passAbort r .done .empty))

/-- R134, R136 to R138, R143, R144, R154: ENTER READY is refused with STATE outside CONFIG, and with VALUE when one of its
eight checks fails. The first check that fails gives the reply data: the number of the check, and with it the page and the
later field of the first relation broken in page order for a profile, the first channel in id order that is disabled or
whose slot lies outside, or the lowest id that overlaps a lower id and the lowest id it overlaps. Taken, it puts the slot
map as it stands in force, clears the sequence references and changes the mode to READY. ENTER CONFIG changes nothing in
CONFIG, is refused while a pass is active, and otherwise withdraws the slot map in force. How several numbers are laid out
in the reply is free, and that one number is a half-word is DEDUCED (log entry 4). -/
def Obligations.ModesEntered : Prop :=
  ∀ (r : Request) (s : State), s.serving = true → r.length.toNat = 0 →
    let enabled := fun (id : Nat) => ∃ e, s.slotMap[id]? = some e ∧ e.enabled = true
    let p := s.gantry.present
    let related := fun (h : HeadId) => (s.head h).profile.depth.dMin < (s.head h).profile.depth.dMax ∧
      ((s.head h).profile.limits.faultExit = .runOut → 1 ≤ (s.head h).profile.limits.faultRunOut) ∧
      (s.head h).profile.trim.tLo ≤ (s.head h).profile.trim.tHi
    let broken := fun (h : HeadId) (page field : Nat) =>
      let x := (s.head h).profile
      let window := x.depth.dMin < x.depth.dMax
      let runs := x.limits.faultExit = .runOut → 1 ≤ x.limits.faultRunOut
      page = 0 ∧ field = 1 ∧ ¬ window ∨ page = 2 ∧ field = 6 ∧ window ∧ ¬ runs ∨
        page = 3 ∧ field = 1 ∧ window ∧ runs ∧ x.trim.tHi < x.trim.tLo
    let owned := fun (id : Nat) =>
      p.has .a = true ∧ id ∈ [0, 1, 2, 3, 4, 5, 6, 17, 18, 19, 20] ∨
        p.has .b = true ∧ id ∈ [7, 8, 9, 10, 11, 12, 13, 21, 22, 23, 24]
    let inside := fun (id : Nat) => ∀ e, s.slotMap[id]? = some e → e.enabled = true →
      64 ≤ e.offset ∧ e.offset + channelWidth id ≤ 1024
    let apart := fun (i j : Nat) => ∀ e f, s.slotMap[i]? = some e → s.slotMap[j]? = some f → e.enabled = true →
      f.enabled = true → e.offset + channelWidth i ≤ f.offset ∨ f.offset + channelWidth j ≤ e.offset
    let c1 := s.service.mode = .config ∧ p ≠ .none
    let c2 := c1 ∧ s.gantry.approachSpeed ≤ s.gantry.xMax
    let c3 := c2 ∧ (p.has .a = true → related .a)
    let c4 := c3 ∧ (p.has .b = true → related .b)
    let c5 := c4 ∧ ∀ id ∈ [14, 15, 16, 25, 26, 27], enabled id
    let c6 := c5 ∧ ∀ id, owned id → enabled id
    let c7 := c6 ∧ ∀ id < 28, inside id
    let c8 := c7 ∧ ∀ i < 28, ∀ j < i, apart j i
    let ready := fun (t : State) (c : ReplyCode) (d : ReplyData) =>
      exec (.enterReady r) s = .next (replied t .enterReady r c d)
    let config := fun (t : State) (c : ReplyCode) => exec (.enterConfig r) s = .next (replied t .enterConfig r c .empty)
    (s.service.mode ≠ .config → ready s .state .empty) ∧
    (s.service.mode = .config → ¬ c8 → ∃ d, ready s .value d) ∧
    (s.service.mode = .config → p = .none → ready s .value (.number 1)) ∧
    (c1 → s.gantry.xMax < s.gantry.approachSpeed → ready s .value (.number 2)) ∧
    (∀ page field, c2 → p.has .a = true → broken .a page field → ready s .value (.items [3, (page : Int), (field : Int)])) ∧
    (∀ page field, c3 → p.has .b = true → broken .b page field → ready s .value (.items [4, (page : Int), (field : Int)])) ∧
    (∀ id ∈ [14, 15, 16, 25, 26, 27], c4 → ¬ enabled id → (∀ j ∈ [14, 15, 16, 25, 26, 27], j < id → enabled j) →
      ready s .value (.items [5, (id : Int)])) ∧
    (∀ id, c5 → owned id → ¬ enabled id → (∀ j, owned j → j < id → enabled j) →
      ready s .value (.items [6, (id : Int)])) ∧
    (∀ id < 28, c6 → ¬ inside id → (∀ j < id, inside j) → ready s .value (.items [7, (id : Int)])) ∧
    (∀ i < 28, ∀ j < i, c7 → ¬ apart j i → (∀ k < i, ∀ l < k, apart l k) → (∀ l < j, apart l i) →
      ready s .value (.items [8, (i : Int), (j : Int)])) ∧
    (c8 → ready { s with
      service := { s.service with mode := .ready }, inForce := some s.slotMap
      ring := { s.ring with reference := ⟨none, none, none⟩ } } .done .empty) ∧
    (s.service.mode = .config → config s .done) ∧
    (s.service.mode ≠ .config → s.active = true → config s .state) ∧
    (s.service.mode ≠ .config → s.active = false →
      config { s with service := { s.service with mode := .config }, inForce := none } .done)

/-- R140, R187: CLEAR FAULT is refused while a head withdraws or spins down, or while the STOP line reads asserted;
taken, it empties the fault record, returns the fault count to 0 and a mode of FAULT to READY. -/
def Obligations.ClearFaultEmptiesTheRecord : Prop :=
  ∀ (r : Request) (s : State), s.serving = true → r.length.toNat = 0 →
    let busy := ∃ h, s.headState h = .withdraw ∨ s.headState h = .spindown
    (busy ∨ s.lines.stop = true → exec (.clearFault r) s = .next (replied s .clearFault r .state .empty)) ∧
    (¬ busy → s.lines.stop = false → exec (.clearFault r) s = .next (replied { s with
      events := { s.events with fault := none, faultCount := 0 }
      service := { s.service with mode := if s.service.mode = .fault then .ready else s.service.mode } }
      .clearFault r .done .empty))

/-- R183, R185, R186: TAKE EVENT removes the pending entry of the highest priority and answers it, or kind 0 without
one; SET EVENT MASK refuses a flag beyond the fifteen kinds, and otherwise takes the mask, removes the entries it
disables and answers the mask and their number. -/
def Obligations.EventsTakenAndMasked : Prop :=
  ∀ (r : Request) (s : State), s.serving = true →
    let take := fun (t : State) (bytes : List Byte) =>
      exec (.takeEvent r) s = .next (replied t .takeEvent r .done (.image bytes))
    let flags := fieldU 0 2 r.payload
    let mask := fun (t : State) (c : ReplyCode) (d : ReplyData) =>
      exec (.setEventMask r) s = .next (replied t .setEventMask r c d)
    (r.length.toNat = 0 → s.events.entries = [] → take s (List.replicate 10 0)) ∧
    (∀ e, r.length.toNat = 0 → PendingOk s → e ∈ s.events.entries →
      (∀ f ∈ s.events.entries, e.kind.num ≤ f.kind.num) →
      take { s with events := { s.events with entries := s.events.entries.erase e } }
        (bytesOf 2 e.kind.num ++ bytesOf 2 e.count ++ bytesOf 4 e.stamp ++ bytesOf 2 e.detail)) ∧
    (r.length.toNat = 2 → 32768 ≤ flags → mask s .value .empty) ∧
    (r.length.toNat = 2 → flags < 32768 → ∃ t : State, t = { s with events := { s.events with
        mask := BitVec.ofNat 15 flags, entries := t.events.entries } } ∧
      t.events.entries.Sublist s.events.entries ∧
      (∀ e ∈ s.events.entries, e ∈ t.events.entries ↔ flags.testBit (e.kind.num - 1) = true) ∧
      mask t .done (.items [(flags : Int), ((s.events.entries.length - t.events.entries.length : Nat) : Int)]))

/-! ## Events inside a set, each judged on the state as it stands (log entry 2) -/

/-- R53 to R55: a filtered MARK edge. In a MARK approach without a datum it sets X0 from measured X and the mark station
and raises DATUM_SET; otherwise it raises MARK_LATCH; in both it fills the latch record. No further edge is taken until
the line has read negated. That the command judges the counter as it stands is the model's reading of the table (log
entry 2), and that it leaves the stations as the latest set formed them is the model's choice (log entry 66). -/
def Obligations.MarkEdgeSetsDatumOrLatches : Prop :=
  ∀ s : State, s.power = .running →
    (s.planner.markHeld = true ∨ s.planner.markCount + 1 ≠ s.gantry.markFilter →
      exec .filteredMarkEdge s = .next s) ∧
    (s.planner.markHeld = false → s.planner.markCount + 1 = s.gantry.markFilter →
    let x := s.planner.measuredX
    let count := min (s.planner.latchCount + 1) 255
    let latched := fun (station : Option Int) => { s.planner with
      markCount := s.gantry.markFilter, markHeld := true, latchCount := count, latch := some ⟨x, station, s.ring.setNumber⟩ }
    let sets := s.pass.state = .approach ∧ s.pass.datumMode = .mark ∧ s.pass.datumValid = false
    (sets → exec .filteredMarkEdge s = .next (({ s with
        planner := latched (some s.gantry.markStation)
        pass := { s.pass with x0 := x - s.gantry.markStation, datumValid := true } } : State).raise .datumSet count)) ∧
    (¬ sets → exec .filteredMarkEdge s = .next (({ s with
        planner := latched (if s.pass.datumValid = true then some (x - s.pass.x0) else none) } : State).raise .markLatch
          count)))

/-- R6, R12, R51, R56, R68, R188: arrival. An approach that is neither paused nor abandoned arrives when the approach X lies within
the arrival tolerance of measured X and the latest X command is 0. Without a datum in MARK mode, or with a pass head's
START behind the bridge, a fault is taken, every pass head enters STOPPED and the pass ends ABORTED at once. NO_DATUM
has measured X as its station and the value 0, START_BEHIND the station of its head, formed with the X0 in force at
arrival (R51), and the distance from its plunge X to measured X (R188). Otherwise the pass is RUNNING and commanded X is reseeded. -/
def Obligations.ArrivalRunsOrAborts : Prop :=
  ∀ s : State, s.power = .running → s.pass.state = .approach → s.pass.holdCause = .none → s.pass.heads ≠ .none →
    (∃ h, s.isPassHead h = true ∧ s.headState h ≠ .stopped) →
    mag (s.pass.approachX - s.planner.measuredX) ≤ s.gantry.arrivalTol → s.ring.output.xSpeed = 0 →
    s.planner.xCommand = 0 →
    let behind := fun (h : HeadId) => s.isPassHead h = true ∧
      ∃ x, s.plungeX h = some x ∧ x < s.planner.measuredX - s.gantry.arrivalTol
    let undated := s.pass.datumMode = .mark ∧ s.pass.datumValid = false
    (¬ undated → ¬ behind .a → ¬ behind .b → exec .arrival s = .next { s with
      pass := { s.pass with state := .running }
      planner := { s.planner with commandedX := s.planner.measuredX * 1000, lag := 0 } }) ∧
    (undated ∨ behind .a ∨ behind .b → ∃ t, exec .arrival s = .next t ∧ t.pass.state = .aborted ∧
      (∀ h, s.isPassHead h = true → t.headState h = .stopped ∧ (t.head h).seq.queue = []) ∧
      t.events.faultCount = min (s.events.faultCount + 1) 65535 ∧
      ∀ f, s.events.fault = none → t.events.fault = some f →
        let against := fun (h : HeadId) => f.kind = .startBehind ∧ f.head = some h ∧
          f.station = max (-2147483648) (min 2147483647
            (s.planner.measuredX - s.pass.x0 + (s.head h).profile.trim.xOffset)) ∧ ∀ x, s.plungeX h = some x → f.value = s.planner.measuredX - x
        (undated → f.kind = .noDatum ∧ f.head = none ∧ f.station = s.planner.measuredX ∧ f.value = 0) ∧
        (¬ undated → behind .a → against .a) ∧ (¬ undated → ¬ behind .a → against .b))

/-- R14, R15, R56, R71, R129: the spin-up. A WAITING head with an executing START enters SPINUP in a RUNNING pass at rest
within the arrival tolerance of its plunge X, with both counters at 0 and its spindle at the carried rpm; it enters PLUNGE
in DESCENT once three sets have found it at speed; and a spin-up timer at its limit fires SPINUP_TIMEOUT, whose EXIT
order brings the head to STOPPED. On each set of a spin-up the timer rises by 1; on an accepted set the at-speed counter
rises by 1 with the spindle within the tolerance of its command, returns to 0 otherwise, and at 3 makes the head enter
PLUNGE on that set; on a coast set it holds. The order of SPINUP_TIMEOUT is of kind IN_PLACE by the model's choice, which
has no effect here (log entry 52), and so is that a command by itself forms neither the demand nor the Z mode of the state
it enters, AT_SPEED not its first descent step, and leaves the fired flag set (log entry 66). -/
def Obligations.SpinupReachesThePlunge : Prop :=
  ∀ (h : HeadId) (s : State), s.power = .running →
    let x := s.head h
    (∀ st rpm force depth, x.seq.executingRecord = some (.start st rpm force depth) → x.seq.state = .waiting →
      s.pass.state = .running →
      mag (s.pass.x0 + st - x.profile.trim.xOffset - s.planner.measuredX) ≤ s.gantry.arrivalTol →
      s.ring.output.xSpeed = 0 →
      exec (.spinupStart h) s = .next (s.modHead h fun x => { x with
        seq := { x.seq with state := .spinup, atSpeedCount := 0, spinupTimer := 0 }
        reg := x.reg.cleared
        trim := { x.trim with spindle := x.seq.carried.rpm } })) ∧
    (x.seq.state = .spinup → 3 ≤ x.seq.atSpeedCount → exec (.atSpeed h) s = .next (s.modHead h fun x => { x with
      seq := { x.seq with state := .plunge }, reg := { x.reg with plungePhase := .descent } })) ∧
    (x.seq.state = .spinup → s.active = true → x.fired.spinupTimeout = false →
      x.profile.limits.spinupLimit ≤ x.seq.spinupTimer → x.seq.order = .none → ∃ t, exec (.spinupTimeout h) s = .next t ∧
        t = (((s.modFired h fun f => { f with spinupTimeout := true }).takeFault .spinupTimeout (some h) x.seq.station
          x.seq.spinupTimer).exitAndCarry h .inPlace).testPassEnd ∧ t.headState h = .stopped) ∧
    (x.seq.state = .spinup → ∀ accepted : Bool,
      let near := mag (s.input h .spindle - x.trim.spindle) ≤ x.profile.limits.atSpeedTol
      let count := if accepted = true then (if near then x.seq.atSpeedCount + 1 else 0) else x.seq.atSpeedCount
      let up := accepted = true ∧ 3 ≤ count
      ∃ hold, s.workSequencer accepted h = s.modHead h fun x => { x with
        seq := { x.seq with
          state := if up then .plunge else .spinup
          atSpeedCount := count, spinupTimer := x.seq.spinupTimer + 1, holdTimer := hold }
        reg := { x.reg with plungePhase := if up then .descent else x.reg.plungePhase } })

/-- R20, R38, R45, R72, R74, R81 to R83, R92: the plunge. Contact clears the integral, the side and the seat counter and enters SEAT; a
descent at its limit without contact takes the fault NO_CONTACT and an EXIT order, which retracts the head; a full
seat counter ends the plunge, and its START completes or the head starves. On an accepted set a descent without contact
makes its step toward the descent limit, and one with contact works the set in SEAT; a seat regulates at the carried
values, judges its counter on the error formed, unless the head has starved, and completes on that set at the seat count;
on a coast set the demand of both phases holds, a seat forms its targets and its counter stands. An end that runs through
the queue into an EXIT has the demand of the EXIT's first phase on that set (log entry 46). That the commands CONTACT, NO_CONTACT
and SEAT_COMPLETE by themselves leave the demand as it was, CONTACT without the SEAT regulation of its set, is the model's
choice (log entry 66). -/
def Obligations.PlungeSeatsOrRetracts : Prop :=
  ∀ (h : HeadId) (s : State), s.power = .running →
    let x := s.head h
    let descending := x.seq.state = .plunge ∧ x.reg.plungePhase = .descent
    let touching := divZero x.seq.carried.force 2 ≤ s.input h .force
    (descending → touching → exec (.contact h) s = .next (s.modReg h fun r => { r with
      accumulator := 0, side := .none, seatCount := 0, plungePhase := .seat })) ∧
    (descending → ¬ touching → s.prevDemand h = min x.seq.carried.depth x.profile.depth.dMax → s.active = true →
      x.seq.order = .none → ∃ t, exec (.noContact h) s = .next t ∧
        t = ((s.takeFault .noContact (some h) x.seq.station (s.input h .force)).exitAndCarry h .inPlace).testPassEnd ∧
        t.headState h = .exit ∧ (t.head h).seq.progress.exitPhase = some .retract ∧
        (t.head h).seq.faultExit = true ∧ (t.head h).seq.queue = x.seq.queue.take 1) ∧
    (x.seq.state = .plunge → x.reg.plungePhase = .seat → x.seq.progress.starved = false →
      x.profile.gains.seatSets ≤ x.reg.seatCount → exec (.seatComplete h) s = .next (s.finishExecuting h)) ∧
    (let d := s.prevDemand h
     let limit := min x.seq.carried.depth x.profile.depth.dMax
     let start : Regulator := { x.reg with formedError := false }
     let found := lookup x.map.points x.seq.station
     let aimed : Regulator := { start with
       segment := x.seq.carried
       target := max 0 (min 60000 (Int.tdiv (x.seq.carried.force * found.1) 1000))
       nominal := x.seq.carried.depth + found.2 }
     let formed := aimed.regulate x.profile s.gantry.tc (s.input h .force) d false
     let seats := if x.seq.progress.starved = true then x.reg.seatCount
       else if mag formed.error ≤ x.profile.gains.seatBand then min (x.reg.seatCount + 1) x.profile.gains.seatSets
       else 0
     let judged : Regulator := { formed with seatCount := seats }
     let done := x.seq.progress.starved = false ∧ x.profile.gains.seatSets ≤ seats
     let seated := s.modReg h fun _ => judged
     let ended := seated.finishExecuting h
     (descending → s.workRegulator false h = s.modReg h fun _ => { start with demand := d }) ∧
     (descending → ¬ touching → s.workRegulator true h = s.modReg h fun _ => { start with
       demand := if d = limit then d else min (d + x.profile.depth.plungeRate) limit }) ∧
     (descending → touching → s.workRegulator true h = (s.modReg h fun r => { r with
       accumulator := 0, side := .none, seatCount := 0, plungePhase := .seat }).workRegulator true h) ∧
     (x.seq.state = .plunge → x.reg.plungePhase = .seat →
       s.workRegulator false h = (s.modReg h fun _ => { aimed with demand := d }) ∧
       (¬ done → s.workRegulator true h = seated) ∧
       (done → ended.headState h ≠ .exit → s.workRegulator true h = ended) ∧
       (done → ended.headState h = .exit → s.workRegulator true h = ended.formRamp true h)))

/-- R31, R35, R36, R39 to R41, R45, R46: the ends of records. A dwell whose count is 0, a repetition whose end the station
has reached, a TRAVERSE at its end that waits for rest before a DWELL, and a starved record that gains a successor each
end; an appended START is taken by a WAITING head without an executing record. On each set, accepted or coast, the count
of an executing dwell falls by 1, and the dwell ends on the set on which it reaches 0. That a command by itself forms
neither the targets nor the demand of the record or phase it enters until the next set is the model's choice (log entry 66),
and so is that the speed demand of a head that it takes out of TRAVERSE or into it stands until then (log entry 48). -/
def Obligations.RecordsReachTheirEnds : Prop :=
  ∀ (h : HeadId) (s : State), s.power = .running →
    let q := (s.head h).seq
    (∀ ms force, q.state = .dwell → q.executingRecord = some (.dwell ms force) → q.progress.dwellLeft = 0 →
      q.progress.endReached = false →
      exec (.dwellEnd h) s = .next ((s.modProgress h fun p => { p with endReached := true }).finishExecuting h)) ∧
    (∀ reps length force speed rpm depth, q.state = .traverse →
      q.executingRecord = some (.traverse reps length force speed rpm depth) → q.progress.endReached = false →
      q.progress.s0 + (q.progress.repsDone + 1) * length ≤ q.station →
      let ended := s.modSeq h fun q => { q with
        carried := q.progress.v1
        progress := { q.progress with
          repsDone := q.progress.repsDone + 1, endReached := decide (reps ≤ q.progress.repsDone + 1) } }
      exec (.repetitionEnd h) s =
        .next (if reps ≤ q.progress.repsDone + 1 then ended.finishExecuting h else ended)) ∧
    (∀ reps length force speed rpm depth ms dwell, q.state = .traverse →
      q.executingRecord = some (.traverse reps length force speed rpm depth) → q.successor = some (.dwell ms dwell) →
      q.progress.endReached = true → q.progress.starved = false → s.ring.output.xSpeed = 0 →
      exec (.traverseCompletesAtRest h) s = .next (s.finishExecuting h)) ∧
    (q.state = .plunge ∨ q.state = .dwell ∨ q.state = .traverse → q.executing = true → q.progress.starved = true →
      q.successor ≠ none →
      exec (.starvationEnd h) s = .next ((s.modProgress h fun p => { p with starved := false }).finishExecuting h)) ∧
    (∀ st rpm force depth rest, q.state = .waiting → q.executing = false →
      q.queue = .start st rpm force depth :: rest →
      let taken := s.modSeq h fun q => { q with
        executing := true
        progress := { Progress.cleared with s0 := st }
        carried := ⟨force, 0, rpm, min depth (s.head h).profile.depth.dMax⟩ }
      exec (.appendedStartTaken h) s =
        .next (if rest = [] then taken.raise .queueLow (packDetail h.code 0) else taken)) ∧
    (∀ ms force (accepted : Bool), q.state = .dwell → q.executingRecord = some (.dwell ms force) →
      q.progress.endReached = false → ∃ hold,
        (1 < q.progress.dwellLeft → s.workSequencer accepted h = s.modSeq h fun q => { q with
          progress := { q.progress with dwellLeft := q.progress.dwellLeft - 1 }, holdTimer := hold }) ∧
        (q.progress.dwellLeft ≤ 1 → s.workSequencer accepted h =
          (State.finishExecuting (s.modProgress h fun p => { p with dwellLeft := 0, endReached := true }) h).modSeq h
            fun q => { q with holdTimer := hold }))

/-- R34 to R37, R39 to R45, R85: what follows the end of the executing record of a head. Without a successor the
head starves. A TRAVERSE before a DWELL waits for the X command to be 0. Otherwise the record completes and leaves the
queue, and its successor becomes executing: a DWELL with its count of sets, a TRAVERSE with its start and end values and
the repetitions that the station has passed already, an EXIT in its first phase with its exit record. A DWELL of 0 ms and
a TRAVERSE whose end the station has reached or passed, which raises SHORT_SEGMENT, are at their end at once, and the run
through the queue goes on from them. That the progress record of an EXIT has s0 0 is DEDUCED (log entry 23), and that
the exit record of an exit performed in place has the run-out length 0, of which R85 makes no use, is the model's choice
(log entry 63). -/
def Obligations.FinishedRecordsHandOver : Prop :=
  ∀ (h : HeadId) (s : State) (g : Segment) (rest : List Segment), (s.head h).seq.executing = true →
    (s.head h).seq.queue = g :: rest →
    let q := (s.head h).seq
    let stop := q.endStation
    let done := (s.modSeq h fun q => { q with queue := rest, lastKind := some g.kind }).raise .segmentDone
      (packDetail h.code g.kind.code)
    let low := fun (t : State) =>
      if rest.tail = [] then t.raise .queueLow (packDetail h.code 0) else t
    (rest = [] → s.finishExecuting h =
      (s.modProgress h fun p => { p with starved := true }).raise .queueStarved (packDetail h.code 0)) ∧
    (∀ ms force behind, rest = .dwell ms force :: behind → g.kind = .traverse → s.ring.output.xSpeed ≠ 0 →
      s.finishExecuting h = s) ∧
    (∀ ms force behind, rest = .dwell ms force :: behind → (g.kind ≠ .traverse ∨ s.ring.output.xSpeed = 0) →
      0 < ms → 0 < s.gantry.tc → s.finishExecuting h = low (done.modSeq h fun q => { q with
        state := .dwell
        progress := { Progress.cleared with s0 := stop, dwellLeft := (ms * 1000 + s.gantry.tc - 1) / s.gantry.tc }
        carried := { q.carried with force := force } })) ∧
    (∀ force behind, rest = .dwell 0 force :: behind → (g.kind ≠ .traverse ∨ s.ring.output.xSpeed = 0) →
      0 < s.gantry.tc → s.finishExecuting h = State.finishExecuting (low (done.modSeq h fun q => { q with
        state := .dwell
        progress := { Progress.cleared with s0 := stop, endReached := true }
        carried := { q.carried with force := force } })) h) ∧
    (∀ reps length force speed rpm depth behind,
      rest = .traverse reps length force speed rpm depth :: behind → 1 ≤ reps → 0 < length →
      let v1 : SegValues := ⟨force, speed, rpm, depth⟩
      let filled := { Progress.cleared with
        s0 := stop
        v0 := { q.carried with speed := if q.carried.speed = 0 then speed else q.carried.speed }
        v1 := v1 }
      (q.station < stop + reps * length →
        let passed := ((q.station - stop) / length).toNat
        s.finishExecuting h = low (done.modSeq h fun q => { q with
          state := .traverse
          progress := { filled with repsDone := passed }
          carried := if 0 < passed then v1 else q.carried })) ∧
      (stop + reps * length ≤ q.station →
        s.finishExecuting h = State.finishExecuting (low ((done.modSeq h fun q => { q with
          state := .traverse
          progress := { filled with repsDone := reps, endReached := true }
          carried := v1 }).raise .shortSegment (packDetail h.code 0))) h)) ∧
    (∀ last kind rate runOut behind, rest = .exit last kind rate runOut :: behind →
      let runs := kind = .runOut ∧ q.carried.speed ≠ 0
      let lift := if rate = 0 then (s.head h).profile.depth.retractRate else rate
      let entered := done.modHead h fun x => { x with
        seq := { x.seq with
          state := .exit
          progress := { Progress.cleared with exitPhase := some (if runs then .runout else .brake) } }
        reg := { x.reg with exitRecord := some (if runs then
            ⟨.runOut, lift, runOut, some x.seq.station, some (s.prevDemand h)⟩
          else ⟨.inPlace, lift, 0, none, none⟩) } }
      s.finishExecuting h = if last = true then entered else low entered)

/-- R18, R56, R71, R86 to R88, R90, R91: the phases of an exit and of a withdrawal. BRAKE ends when the latest X command is 0,
RUNOUT at a demand of 0 or less, a run-out length of 0 or a QUICKSTOP; a RETRACT at the clear height ends in SPINDOWN with
the regulator cleared; a withdrawal at the clear height stops the spindle, and ends in STOPPED with the queue emptied
once the spindle has run down or cannot be read. That the exit phase stands in SPINDOWN is log entry 33, and that the
spindle command of the trim record is 0 at once is log entry 35 (both DEDUCED). That until the next set
BRAKE_END by itself makes no first retract step, RUNOUT_END and SPINSTOP judge the demand last formed, and RETRACT_END and
WITHDRAWAL_END form neither the demand nor the Z mode of the state they enter is the model's choice (log entry 66). -/
def Obligations.ExitsAndWithdrawalsEnd : Prop :=
  ∀ (h : HeadId) (s : State), s.power = .running →
    let x := s.head h
    let clear := x.profile.depth.clear
    let exiting := fun (p : ExitPhase) => x.seq.state = .exit ∧ x.seq.progress.exitPhase = some p
    let retracts := s.modProgress h fun p => { p with exitPhase := some .retract }
    (exiting .brake → s.ring.output.xSpeed = 0 → exec (.brakeEnd h) s = .next retracts) ∧
    (exiting .runout → (x.reg.demand ≤ 0 ∨ s.planner.xMode = .quickstop ∨
        ∃ r, x.reg.exitRecord = some r ∧ r.runOut = 0) → exec (.runoutEnd h) s = .next retracts) ∧
    (exiting .retract → s.prevDemand h = clear → s.input h .zpos ≤ clear + 500 →
      exec (.retractEnd h) s = .next (s.modHead h fun x => { x with
        seq := { x.seq with state := .spindown }, reg := x.reg.cleared })) ∧
    (x.seq.state = .withdraw → x.reg.withdraw = .rising → x.reg.demand = clear →
      exec (.spinstop h) s = .next (s.modHead h fun x => { x with
        reg := { x.reg with withdraw := .spinstop }, trim := { x.trim with spindle := 0 } })) ∧
    (x.seq.state = .withdraw → x.reg.withdraw = .spinstop →
      (s.input h .spindle < 30 ∨ x.profile.limits.staleLimit ≤ s.headStaleCount h) →
      ∃ t, exec (.withdrawalEnd h) s = .next t ∧ t.headState h = .stopped ∧ (t.head h).seq.queue = [] ∧
        (t.head h).seq.lastKind = none ∧ (t.head h).trim.spindle = 0 ∧ (t.head h).reg = x.reg.cleared ∧
        (t.head h.other).seq = (s.head h.other).seq ∧ t.ring = s.ring ∧ t.gantry = s.gantry)

/-- R17, R18, R37, R44, R46: a spin-down ends when the spindle is below 30 rpm. The executing EXIT leaves the queue; the
head enters STOPPED with an empty queue under the fault-exit mark, FINISHED after an exit that carries LAST with the
records behind it still queued, and WAITING otherwise, with the START behind it executing or with QUEUE_STARVED
raised. -/
def Obligations.SpindownEndsInThreeWays : Prop :=
  ∀ (h : HeadId) (s : State), s.power = .running → s.headState h = .spindown → s.input h .spindle < 30 →
    let q := (s.head h).seq
    (q.faultExit = true → ∃ t, exec (.spindownEnd h) s = .next t ∧ t.headState h = .stopped ∧
      (t.head h).seq.queue = [] ∧ (t.head h).seq.lastKind = none ∧ (t.head h.other).seq = (s.head h.other).seq) ∧
    (∀ kind rate runOut rest, q.faultExit = false → q.executing = true → q.queue = .exit true kind rate runOut :: rest →
      ∃ t, exec (.spindownEnd h) s = .next t ∧ t.headState h = .finished ∧ (t.head h).seq.queue = rest ∧
        (t.head h).seq.lastKind = some .exit ∧ (t.head h).seq.executing = false ∧
        (t.head h.other).seq = (s.head h.other).seq) ∧
    (∀ kind rate runOut, q.faultExit = false → q.executing = true → q.queue = [.exit false kind rate runOut] →
      ∃ t, exec (.spindownEnd h) s = .next t ∧ t.headState h = .waiting ∧ (t.head h).seq.queue = [] ∧
        (t.head h).seq.executing = false ∧ (t.head h).seq.lastKind = some .exit ∧
        (s.events.enables .queueStarved = true → ∃ e ∈ t.events.entries, e.kind = .queueStarved)) ∧
    (∀ kind rate runOut st rpm force depth rest, q.faultExit = false → q.executing = true →
      q.queue = .exit false kind rate runOut :: .start st rpm force depth :: rest →
      ∃ t, exec (.spindownEnd h) s = .next t ∧ t.headState h = .waiting ∧
        (t.head h).seq.queue = .start st rpm force depth :: rest ∧ (t.head h).seq.executing = true ∧
        (t.head h).seq.progress = { Progress.cleared with s0 := st } ∧
        (t.head h).seq.carried = ⟨force, 0, rpm, min depth (s.head h).profile.depth.dMax⟩)

/-- R12, R58, R61, R122, R126: an active pass ends when every pass head is FINISHED or STOPPED and the X command is 0: COMPLETE if
all are FINISHED, ABORTED otherwise; PASS_END is raised with the pass number, QUICKSTOP becomes STILL, the stop-point set
is empty and the X demand 0, the gantry's latched guards are cleared, and no fixed guard is left fired. That the fired flags are cleared at the event itself, and
not on the next set, is DEDUCED (log entry 28). -/
def Obligations.PassEndsCompleteOrAborted : Prop :=
  ∀ s : State, s.power = .running → s.active = true →
    ((∀ h, s.isPassHead h = true → s.headState h = .finished ∨ s.headState h = .stopped) → s.planner.xCommand = 0 →
      ∃ t, exec .passEnd s = .next t ∧
        ((∀ h, s.isPassHead h = true → s.headState h = .finished) → t.pass = { s.pass with state := .complete }) ∧
        ((∃ h, s.isPassHead h = true ∧ s.headState h = .stopped) → t.pass = { s.pass with state := .aborted }) ∧
        t.planner = { s.planner with
          xMode := if s.planner.xMode = .quickstop then .still else s.planner.xMode
          stopPoints := []
          xDemand := 0 } ∧
        t.events = (s.raise .passEnd (min s.pass.number 65535)).events ∧
        t.guards = s.guards.map (fun g =>
          if g.action.latches = true ∧ g.owner = .gantry then { g with tripped := false, window := [] } else g) ∧
        (∀ h, t.head h = { s.head h with fired := HeadFired.clear }) ∧
        t = { s with
          pass := t.pass, planner := t.planner, events := t.events, guards := t.guards, headA := t.headA
          headB := t.headB, gantryFired := GantryFired.clear }) ∧
    ((∃ h, s.isPassHead h = true ∧ s.headState h ≠ .finished ∧ s.headState h ≠ .stopped) ∨ s.planner.xCommand ≠ 0 →
      exec .passEnd s = .next s)

/-- R6, R12, R19, R57, R82, R124 to R132, R163, R187: the fixed guards. One on the saturation run, the hold timer or a stale
count that is armed, unfired and at its limit sets its fired flag, takes its fault with its counter as value, and sends its
order: EXIT with the profile's fault exit kind, EXIT of kind IN_PLACE, a head HALT, a HALT all; the pass-end test follows.
On a set, the causes found on inputs and planner values are the stale counts, SKEW, X_LAG, the STOP line and START_MISSED,
on a coast set the STOP line alone; SKEW, X_LAG and the STOP line send a HALT all, START_MISSED an EXIT order of kind
IN_PLACE (log entry 52 for the kind), a ring loss a HALT all. As a set opens, a ring loss that is due is taken with them,
and arrival is judged behind them all, which is DEDUCED (log entry 6). Causes found together are each taken in full, in an
order that is left open (log entry 3), and the pass-end test follows them all (log entry 44). The hold timer of a head
that the sequencer leaves in TRAVERSE, in DWELL or starved in PLUNGE rises by 1 on a set, accepted or coast, that finds the
latest X command 0, and is 0 otherwise; it reads the state that the sequencer leaves (log entry 50). A command by itself
leaves its fired flag set (log entry 66). That START_MISSED is judged
with them, before the sequencers, is the model's choice (log entry 61). The fixed guards on head counters are judged with
the guard records (GuardFiltersTrip): SATURATION on accepted sets alone, HOLD_LIMIT and SPINUP_TIMEOUT on every set, each
where it is armed, unfired and at its limit. NO_CONTACT is found on an accepted set by a DESCENT without contact whose
latest demand is at the descent limit, and the demand of a head that its order moves is formed again; on a coast set it
is not judged. No set leaves a fired flag on a fixed guard that the states it leaves do not arm. -/
def Obligations.FixedGuardsSendTheirOrders : Prop :=
  (∀ (h : HeadId) (s : State), s.power = .running → s.active = true →
    let x := s.head h
    (x.seq.state = .traverse → x.fired.saturation = false → x.profile.limits.saturationLimit ≤ x.reg.satRun →
      exec (.saturation h) s = .next (((s.modFired h fun f => { f with saturation := true }).takeFault .saturation
        (some h) x.seq.station x.reg.satRun).exitAndCarry h x.profile.limits.faultExit).testPassEnd) ∧
    ((x.seq.state = .traverse ∨ x.seq.state = .dwell ∨ x.seq.state = .plunge ∧ x.seq.progress.starved = true) →
      x.fired.holdLimit = false → x.profile.limits.holdLimit ≤ x.seq.holdTimer →
      exec (.holdLimit h) s = .next (((s.modFired h fun f => { f with holdLimit := true }).takeFault .holdLimit
        (some h) x.seq.station x.seq.holdTimer).exitAndCarry h .inPlace).testPassEnd) ∧
    (x.seq.state.working = true → x.fired.headStale = false → x.profile.limits.staleLimit ≤ s.headStaleCount h →
      exec (.headStale h) s = .next (((s.modFired h fun f => { f with headStale := true }).takeFault .headStale
        (some h) x.seq.station (s.headStaleCount h)).headHalt h).testPassEnd) ∧
    (s.gantryFired.xStale = false → s.gantry.xStaleLimit ≤ s.ring.stale.x →
      exec .xStale s = .next ((({ s with gantryFired := { s.gantryFired with xStale := true } } : State).takeFault .xStale
        none s.planner.measuredX s.ring.stale.x).haltAll).testPassEnd)) ∧
  (∀ (s : State) (accepted : Bool) (c : Cause), c ∈ s.inputCauses accepted ↔
    (c = .stopLine ∧ s.active = true ∧ s.gantryFired.stopLine = false ∧ s.lines.stop = true) ∨
    accepted = true ∧
      ((c = .xStale s.ring.stale.x ∧ s.active = true ∧ s.gantryFired.xStale = false ∧
          s.gantry.xStaleLimit ≤ s.ring.stale.x) ∨
        (c = .skew s.planner.skew ∧ s.active = true ∧ s.gantryFired.skew = false ∧
          s.gantry.skewLimit < mag s.planner.skew) ∨
        (c = .xLag s.planner.lag ∧ s.active = true ∧ s.gantryFired.xLag = false ∧
          s.gantry.lagLimit < mag s.planner.lag) ∨
        ∃ h, (c = .headStale h (s.headStaleCount h) ∧ (s.headState h).working = true ∧ s.active = true ∧
            (s.head h).fired.headStale = false ∧ (s.head h).profile.limits.staleLimit ≤ s.headStaleCount h) ∨
          ∃ x, c = .startMissed h (s.planner.measuredX - x) ∧ s.plungeX h = some x ∧ s.headState h = .waiting ∧
            s.pass.state = .running ∧ x < s.planner.measuredX - s.gantry.arrivalTol)) ∧
  (∀ (h : HeadId) (s : State) (accepted : Bool),
    let t := s.workSequencer accepted h
    (t.head h).seq.holdTimer = if (t.headState h = .traverse ∨ t.headState h = .dwell ∨
        t.headState h = .plunge ∧ (t.head h).seq.progress.starved = true) ∧ s.ring.output.xSpeed = 0 then
      min ((s.head h).seq.holdTimer + 1) 65535 else 0) ∧
  (∀ (s : State) (accepted : Bool) (h : HeadId) (c : Cause), c ∈ s.counterCauses accepted h ↔
    let x := s.head h
    s.active = true ∧
      (c = .saturation h x.reg.satRun ∧ accepted = true ∧ x.seq.state = .traverse ∧ x.fired.saturation = false ∧
          x.profile.limits.saturationLimit ≤ x.reg.satRun ∨
        c = .holdLimit h x.seq.holdTimer ∧
          (x.seq.state = .traverse ∨ x.seq.state = .dwell ∨ x.seq.state = .plunge ∧ x.seq.progress.starved = true) ∧
          x.fired.holdLimit = false ∧ x.profile.limits.holdLimit ≤ x.seq.holdTimer ∨
        c = .spinupTimeout h x.seq.spinupTimer ∧ x.seq.state = .spinup ∧ x.fired.spinupTimeout = false ∧
          x.profile.limits.spinupLimit ≤ x.seq.spinupTimer)) ∧
  (∀ (s : State) (c : Cause), c ∈ s.contactCauses ↔ ∃ h, c = .noContact h (s.input h .force) ∧
    s.headState h = .plunge ∧ (s.head h).reg.plungePhase = .descent ∧
    s.input h .force < Int.tdiv (s.head h).seq.carried.force 2 ∧
    s.prevDemand h = min (s.head h).seq.carried.depth (s.head h).profile.depth.dMax) ∧
  (∀ s : State, s.workNoContact false = s ∧
    let t := s.takeCauses s.contactCauses
    s.workNoContact true = (t.reformDemand true s .a).reformDemand true s .b) ∧
  (∀ s : State, let t := s.dropFired
    t = { s with headA := t.headA, headB := t.headB, gantryFired := t.gantryFired } ∧
    t.gantryFired = (if s.active = true then s.gantryFired else GantryFired.clear) ∧
    ∀ h, let x := s.head h
      let f := (t.head h).fired
      t.head h = { x with fired := f } ∧
      (f.saturation = true ↔ x.fired.saturation = true ∧ s.active = true ∧ x.seq.state = .traverse) ∧
      (f.holdLimit = true ↔ x.fired.holdLimit = true ∧ s.active = true ∧
        (x.seq.state = .traverse ∨ x.seq.state = .dwell ∨ x.seq.state = .plunge ∧ x.seq.progress.starved = true)) ∧
      (f.spinupTimeout = true ↔ x.fired.spinupTimeout = true ∧ s.active = true ∧ x.seq.state = .spinup) ∧
      (f.headStale = true ↔ x.fired.headStale = true ∧ s.active = true ∧ x.seq.state.working = true)) ∧
  (∀ (s t : State) (accepted loss : Bool), t = s.workSet accepted loss →
    (t.active = false → t.gantryFired = GantryFired.clear) ∧
    ∀ h, let x := t.head h
      (x.fired.saturation = true → t.active = true ∧ x.seq.state = .traverse) ∧
      (x.fired.holdLimit = true → t.active = true ∧
        (x.seq.state = .traverse ∨ x.seq.state = .dwell ∨ x.seq.state = .plunge ∧ x.seq.progress.starved = true)) ∧
      (x.fired.spinupTimeout = true → t.active = true ∧ x.seq.state = .spinup) ∧
      (x.fired.headStale = true → t.active = true ∧ x.seq.state.working = true)) ∧
  (∀ (s : State) (h : HeadId) (v : Int),
    let fault := fun (u : State) (k : FaultKind) => u.takeFault k (some h) (s.head h).seq.station v
    let fires := fun (f : HeadFired → HeadFired) => s.modFired h f
    s.takeCause (.saturation h v) = (fault (fires fun f => { f with saturation := true }) .saturation).exitAndCarry h
      (s.head h).profile.limits.faultExit ∧
    s.takeCause (.holdLimit h v) =
      (fault (fires fun f => { f with holdLimit := true }) .holdLimit).exitAndCarry h .inPlace ∧
    s.takeCause (.spinupTimeout h v) =
      (fault (fires fun f => { f with spinupTimeout := true }) .spinupTimeout).exitAndCarry h .inPlace ∧
    s.takeCause (.headStale h v) = (fault (fires fun f => { f with headStale := true }) .headStale).headHalt h ∧
    s.takeCause (.noContact h v) = (fault s .noContact).exitAndCarry h .inPlace) ∧
  ∀ (s : State) (v : Int),
    let gantryHalt := fun (u : State) (k : FaultKind) (value : Int) =>
      (u.takeFault k none u.planner.measuredX value).haltAll
    s.takeCause (.skew v) =
      gantryHalt { s with gantryFired := { s.gantryFired with skew := true } } .skew v ∧
    s.takeCause (.xLag v) =
      gantryHalt { s with gantryFired := { s.gantryFired with xLag := true } } .xLag v ∧
    s.takeCause .stopLine =
      gantryHalt { s with gantryFired := { s.gantryFired with stopLine := true } } .stopLine 0 ∧
    s.takeCause (.xStale v) =
      gantryHalt { s with gantryFired := { s.gantryFired with xStale := true } } .xStale v ∧
    s.takeCause (.ringLoss v) = gantryHalt s .ringLoss v ∧
    (∀ (accepted loss : Bool), s.openSet accepted loss =
      (s.takeCauses ((if loss = true then [.ringLoss s.ring.missCount] else []) ++ s.inputCauses accepted)).arrival) ∧
    (∀ h, s.takeCause (.startMissed h v) =
      (s.takeFault .startMissed (some h) (s.head h).seq.station v).exitAndCarry h .inPlace) ∧
    ∀ cs : List Cause, ∃ l : List Cause, l.Perm cs ∧ s.takeCauses cs = (l.foldl State.takeCause s).testPassEnd

/-! ## Orders, guards, the status image and the work of a set -/

/-- R192: the layout of the STATUS slot and of the status echo. -/
def Obligations.StatusImageLayout : Prop :=
  ∀ s : State, s.statusBytes.length = 8 ∧ fieldU 0 1 s.statusBytes = s.service.mode.code ∧
    fieldU 1 1 s.statusBytes = s.pass.state.code ∧ fieldU 2 1 s.statusBytes = (s.headState .a).code ∧
    fieldU 3 1 s.statusBytes = (s.headState .b).code ∧ fieldU 4 1 s.statusBytes = s.events.highest ∧
    s.events.highest ≤ 15 ∧ fieldU 5 1 s.statusBytes = s.freeSegments .a ∧ s.freeSegments .a ≤ 16 ∧
    fieldU 6 1 s.statusBytes = s.freeSegments .b ∧ s.freeSegments .b ≤ 16 ∧
    (fieldU 7 1 s.statusBytes).testBit 0 = s.alert ∧ fieldU 7 1 s.statusBytes / 2 = s.ring.state.code

/-- R19 to R21, R47, R85: an EXIT order by the head's state. A head that is not working, withdraws or holds an order
already is left as it is; otherwise the order and the mark are set and the records behind the executing one go. A
waiting head stops, a plunging or dwelling one retracts, a traversing one brakes or runs out, and one that is exiting or
spinning down carries on. An order that is carried in a linked pass reaches the other pass head as EXIT IN_PLACE. Two of
its clauses are the model's choices: a head ordered out of TRAVERSE carries the segment values of its latest set, those of
the SEAT set included where it has just entered TRAVERSE (log entry 22), and its v_h stands until a set forms it again (log
entry 48). A third is the unused run-out length 0 of an exit performed in place (log entry 63). -/
def Obligations.ExitOrdersByHeadState : Prop :=
  ∀ (h : HeadId) (kind : ExitKind) (s : State),
    let x := s.head h
    let marked := s.modSeq h fun q => { q with order := .exit, faultExit := true, queue := q.queue.take 1 }
    let enters := fun (t : State) (p : ExitPhase) (e : ExitRecord) => t.modHead h fun x => { x with
      seq := { x.seq with state := .exit, progress := { x.seq.progress with exitPhase := some p } }
      reg := { x.reg with exitRecord := some e } }
    let still := (⟨.inPlace, x.profile.depth.retractRate, 0, none, none⟩ : ExitRecord)
    let carried := marked.modSeq h fun q => { q with carried := x.reg.segment }
    (x.seq.state.working = false ∨ x.seq.state = .withdraw ∨ x.seq.order ≠ .none → s.exitOrder h kind = s) ∧
    (x.seq.order = .none →
      (x.seq.state = .waiting ∨ x.seq.state = .spinup →
        (s.exitOrder h kind).headState h = .stopped ∧ ((s.exitOrder h kind).head h).seq.queue = [] ∧
        ((s.exitOrder h kind).head h).trim.spindle = 0 ∧
        ((s.exitOrder h kind).head h.other).seq = (s.head h.other).seq) ∧
      (x.seq.state = .plunge ∨ x.seq.state = .dwell → s.exitOrder h kind = enters marked .retract still) ∧
      (x.seq.state = .traverse → kind = .inPlace → s.exitOrder h kind = enters carried .brake still) ∧
      (x.seq.state = .traverse → kind = .runOut → s.exitOrder h kind = enters carried .runout
        ⟨.runOut, x.profile.depth.retractRate, x.profile.limits.faultRunOut, some x.seq.station,
          some (s.prevDemand h)⟩) ∧
      (x.seq.state = .exit ∨ x.seq.state = .spindown → s.exitOrder h kind = marked)) ∧
    s.exitAndCarry h kind = (if s.active = true then
        if s.pass.linked = true ∧ s.isPassHead h.other = true then (s.exitOrder h kind).exitOrder h.other .inPlace
        else s.exitOrder h kind
      else s)

/-- R12, R22 to R24, R35, R47, R66, R90: the HALT orders of an active pass. A head that a HALT acts on, unless its order is WITHDRAW
already, takes that order, one that has left the pass included (log entry 29): one in the seam enters WITHDRAW with its
pending records removed, its saturation run at 0 and the rest of its regulator and trim records as they were, carrying the
values of the last set computed where it leaves TRAVERSE (log entry 22 for a TRAVERSE that has not seen a set), any other
working head outside WITHDRAW enters STOPPED with its spindle at 0, and no such head is left in the seam. A HALT all
acts on every pass head, a head HALT on the head it names and, in a linked pass, on the other pass head; in an unlinked
pass a working survivor is not acted on and the pass is held with cause HALT. Either HALT makes the X command 0 and the X
mode QUICKSTOP and reseeds commanded X, unless the X mode is QUICKSTOP already; READY becomes FAULT; and the next output
set formed carries QUICKSTOP (log entry 45). Whether a RETRACT is in the seam is read from the demand last formed, which on the
set of a guard's HALT is that set's (log entry 67), and the speed demand of a head taken out of TRAVERSE between sets stands
until the next set (log entry 48). The pass-end test then ends a pass whose heads have all left it. -/
def Obligations.HaltsClearTheSeam : Prop :=
  (∀ (s t : State) (h : HeadId) (acts : HeadId → Prop), s.active = true →
    (t = s.haltAll ∧ (∀ k, acts k ↔ s.isPassHead k = true) ∨
      t = s.headHalt h ∧ ∀ k, acts k ↔ k = h ∨ s.pass.linked = true ∧ s.isPassHead k = true) →
    (∀ k, acts k → (s.head k).seq.order ≠ .withdraw →
      (t.head k).seq.order = .withdraw ∧ (t.head k).inSeam = false ∧
      ((s.head k).inSeam = true → t.headState k = .withdraw ∧
        (t.head k).reg = { (s.head k).reg with withdraw := .rising, satRun := 0 } ∧
        (t.head k).seq.carried = (if s.headState k = .traverse then (s.head k).reg.segment else (s.head k).seq.carried) ∧
        (t.head k).seq.queue = (s.head k).seq.queue.take 1 ∧ (t.head k).trim = (s.head k).trim) ∧
      ((s.head k).inSeam = false → s.headState k ≠ .withdraw → (s.headState k).working = true →
        t.headState k = .stopped ∧ (t.head k).seq.queue = [] ∧ (t.head k).seq.lastKind = none ∧
        (t.head k).trim.spindle = 0) ∧
      ((s.head k).inSeam = false → s.headState k = .withdraw ∨ (s.headState k).working = false →
        t.head k = { s.head k with seq := { (s.head k).seq with order := .withdraw } })) ∧
    (∀ k, acts k → (s.head k).seq.order = .withdraw → t.head k = s.head k) ∧
    (∀ k, ¬ acts k → t.head k = s.head k) ∧
    (t = s.haltAll → t.pass = s.pass) ∧
    (t = s.headHalt h → t.pass = if s.pass.linked = false ∧ s.isPassHead h.other = true ∧
        (s.headState h.other).working = true ∧ s.headState h.other ≠ .withdraw then (s.holdOrder .halt).pass
      else s.pass) ∧
    (s.planner.xMode ≠ .quickstop → t.planner = { s.planner with
      xMode := .quickstop, xCommand := 0, commandedX := s.planner.measuredX * 1000, lag := 0 }) ∧
    (s.planner.xMode = .quickstop → t.planner = s.planner) ∧
    t.service = { s.service with mode := if s.service.mode = .ready then .fault else s.service.mode } ∧
    t.halted = true ∧ t.ring = s.ring ∧ t.events = s.events ∧ t.gantry = s.gantry ∧ t.slotMap = s.slotMap ∧
    (s.planner.xMode ≠ .quickstop → t.testPassEnd.active = true →
      ∃ k, s.isPassHead k = true ∧ t.headState k ≠ .finished ∧ t.headState k ≠ .stopped)) ∧
  ∀ u : State, u.halted = true →
    u.formOutputs.ring.output.xMode = .quickstop ∧ u.formOutputs.halted = false ∧ u.testPassEnd.halted = true

/-- R21, R86 to R88, R90, R118 to R123, R125 to R127: the work of the guard unit on a set, and the judgement of an accepted set. An armed guard record whose channel has a value forms a result, unless
it is a HOLD, EXIT or HALT guard that has tripped; every other record is as before, so that a latched guard stays tripped
with its window as it was. The result joins the record's window as its newest entry, the oldest leaving a window above the
filter's length, and the filter condition holds when the window has at least m true results. A record that is not tripped
trips on the condition, counting it to at most 255; one that is tripped untrips without it. A record that trips raises
GUARD_TRIP with its index and action. NOTE and SLOW do no more; HOLD sends a hold order with cause GUARD; EXIT and HALT
take their faults with the value judged and send their orders, a head's EXIT with its fault exit kind and carried, a
gantry's to every pass head with its own fault exit kind, a head's HALT to the head, and a gantry's is the HALT all. That
a gantry's EXIT gives each pass head its own kind, and so carries none in a linked pass, is DEDUCED (log entry 26).
On a set the unit disarms first; an accepted set then judges every record, and the trips of that judgement are taken
together with the causes of the fixed guards on head counters; a coast set judges no record, and takes the causes of the
counters alone. The demand of a head that the orders have moved into another state or phase is formed again: it stands in
BRAKE, RUNOUT, RETRACT and WITHDRAW make the first step of their ramp, and a parked head has the clear height; a BRAKE that
finds the latest X command 0 makes the first step of its RETRACT, which is DEDUCED (log entry 46). Then the unit disarms
again and drops the fired flags of the fixed guards that are armed no more. The states that arm the judgement are those
before the orders, and every record trips before the first order is taken: the model's choices (log entries 58 and 65). -/
def Obligations.GuardFiltersTrip : Prop :=
  (∀ (s : State) (c : Cause), c ∈ s.guardTripsFrom 0 s.guards ↔ ∃ i g v, c = .guard i v ∧ s.guards[i]? = some g ∧
    g.tripped = false ∧ s.armed g = true ∧ s.channelValue g = some v ∧ (s.judgeGuard g).tripped = true) ∧
  (∀ (s : State) (i : Nat) (g : GuardRecord) (v : Int), s.guards[i]? = some g →
    let raised := fun (action : Nat) => s.raise .guardTrip (packDetail i action)
    let fault := fun (action : Nat) (k : FaultKind) => match g.owner with
      | .head h => (raised action).takeFault k (some h) (s.head h).seq.station v
      | .gantry => (raised action).takeFault k none s.planner.measuredX v
    s.takeCause (.guard i v) = match g.action, g.owner with
      | .note, _ => raised 0
      | .slow, _ => raised 1
      | .hold, _ => (raised 2).holdOrder .guard
      | .exit, .head h => (fault 3 .guardExit).exitAndCarry h (s.head h).profile.limits.faultExit
      | .exit, .gantry => if s.active = true then
          s.pass.heads.members.foldl (fun t h => t.exitOrder h (s.head h).profile.limits.faultExit) (fault 3 .guardExit)
        else fault 3 .guardExit
      | .halt, .head h => (fault 4 .guardHalt).headHalt h
      | .halt, .gantry => (fault 4 .guardHalt).haltAll) ∧
  (∀ (s : State) (accepted : Bool),
    let disarmed := s.disarmGuards
    let trips := if accepted = true then disarmed.guardTripsFrom 0 disarmed.guards else []
    let judged := if accepted = true then { disarmed with guards := disarmed.guards.map disarmed.judgeGuard }
      else disarmed
    let ordered := judged.takeCauses (trips ++ disarmed.counterCauses accepted .a ++ disarmed.counterCauses accepted .b)
    s.workGuards accepted =
      ((ordered.reformDemand accepted judged .a).reformDemand accepted judged .b).disarmGuards.dropFired ∧
    (s.events.enables .guardTrip = true → trips ≠ [] →
      ∃ e ∈ (s.workGuards accepted).events.entries, e.kind = .guardTrip)) ∧
  (∀ (s before : State) (accepted : Bool) (h : HeadId),
    let x := s.head h
    let d := s.prevDemand h
    let clear := x.profile.depth.clear
    let u := s.reformDemand accepted before h
    let formed := fun (v : Int) => s.modReg h fun r => { r with demand := v }
    let stands := x.seq.state = (before.head h).seq.state ∧ x.exitPhase = (before.head h).exitPhase
    (stands → u = s) ∧
    (¬ stands → x.exitPhase = some .brake → s.ring.output.xSpeed ≠ 0 → u = s) ∧
    (∀ e, ¬ stands → x.reg.exitRecord = some e →
      (x.exitPhase = some .brake → s.ring.output.xSpeed = 0 →
        u = (formed (max (d - e.rate) clear)).modProgress h fun p => { p with exitPhase := some .retract }) ∧
      (x.exitPhase = some .retract → u = formed (max (d - e.rate) clear)) ∧
      (∀ start depth, x.exitPhase = some .runout → accepted = true → e.startStation = some start →
        e.startDepth = some depth → 0 ≤ e.runOut →
        let left := max 0 (min e.runOut (e.runOut - (x.seq.station - start)))
        let v := if e.runOut = 0 then d else min (Int.tdiv (depth * left) e.runOut) d
        u = if v ≤ 0 ∨ e.runOut = 0 ∨ s.planner.xMode = .quickstop then
            (formed v).modProgress h fun p => { p with exitPhase := some .retract }
          else formed v)) ∧
    (¬ stands → x.exitPhase = some .runout → accepted = false → u = formed d) ∧
    (¬ stands → x.seq.state = .withdraw → x.reg.withdraw = .rising →
      let v := max (d - x.profile.depth.withdrawRate) clear
      u = if v = clear then s.modHead h fun x => { x with
          reg := { x.reg with demand := v, withdraw := .spinstop }
          trim := { x.trim with spindle := 0 } }
        else formed v) ∧
    (¬ stands → x.seq.state.parked = true → u = formed clear)) ∧
  ∀ (s : State) (g : GuardRecord),
    (g.tripped = true ∧ (g.action = .hold ∨ g.action = .exit ∨ g.action = .halt) → s.judgeGuard g = g) ∧
    (s.armed g = false ∨ s.channelValue g = none → s.judgeGuard g = g) ∧
    ∀ v, (g.tripped = true → g.action = .note ∨ g.action = .slow) → s.armed g = true → s.channelValue g = some v →
      let result := match g.comparison with
        | .above => g.hi < v
        | .below => v < g.lo
        | .outside => v < g.lo ∨ g.hi < v
        | .inside => g.lo ≤ v ∧ v ≤ g.hi
      let sizes : Nat × Nat := match g.filter with
        | .one => (1, 1)
        | .twoOfTwo => (2, 2)
        | .twoOfThree => (3, 2)
        | .threeOfFive => (5, 3)
      let u := s.judgeGuard g
      g.window.length ≤ sizes.1 → ∃ w b, u.window = w ∧ (b = true ↔ result) ∧
        (g.window.length < sizes.1 → w = g.window ++ [b]) ∧
        (g.window.length = sizes.1 → w = g.window.tail ++ [b]) ∧
        (u.tripped = true ↔ sizes.2 ≤ w.count true) ∧
        u.trips = (if g.tripped = false ∧ sizes.2 ≤ w.count true then min (g.trips + 1) 255 else g.trips) ∧
        u = { g with window := w, tripped := u.tripped, trips := u.trips }

/-- R98, R114, R116 to R118: the guard unit. A record is armed when it is enabled, a pass is active, and the state of its owner,
a pass head or the pass, is in its arm set. An enabled record that is not armed loses its window, and a NOTE or SLOW guard its trip, whether
or not it was armed before (log entry 34); one that is not enabled keeps its run fields (R114).
The channels take their values from the samples handed over, the regulator, the planner and the previous output set. That
FORCE_ERROR has the error formed on the set also where its head has left the regulated phases since is the model's choice
(log entry 68), and so is that X_LAG is the lag as the guards find it (log entry 64). On an
accepted set each trim unit is handed the least cap of the tripped SLOW guards that its head or the gantry owns, or
none. -/
def Obligations.GuardsArmAndHandCaps : Prop :=
  ∀ s : State,
    (∀ g : GuardRecord, s.armed g = true ↔ g.enabled = true ∧ s.active = true ∧ match g.owner with
      | .head h => s.isPassHead h = true ∧
        (s.headState h = .spinup ∧ g.arm.getLsbD 0 = true ∨ s.headState h = .plunge ∧ g.arm.getLsbD 1 = true ∨
          s.headState h = .dwell ∧ g.arm.getLsbD 2 = true ∨ s.headState h = .traverse ∧ g.arm.getLsbD 3 = true ∨
          s.headState h = .exit ∧ g.arm.getLsbD 4 = true)
      | .gantry => s.pass.state = .approach ∧ g.arm.getLsbD 0 = true ∨
        s.pass.state = .running ∧ g.arm.getLsbD 1 = true ∨ s.pass.state = .held ∧ g.arm.getLsbD 2 = true) ∧
    (∀ i : Nat, s.disarmGuards.guards[i]? = s.guards[i]?.map fun g =>
      if s.armed g = false ∧ g.enabled = true then { g with
        window := []
        tripped := g.tripped && (g.action == .hold || g.action == .exit || g.action == .halt) } else g) ∧
    (∀ h c, s.headChannel h c = match c with
      | .force => some (s.input h .force)
      | .forceError => if (s.head h).reg.formedError = true then some (s.head h).reg.error else none
      | .torque => some (s.input h .torque)
      | .temp => some (s.input h .temp)
      | .lateral => some (s.input h .lateral)
      | .zFollow => some (s.prevDemand h - s.input h .zpos)
      | .spindleError => some (s.input h .spindle - s.prevSpindle h)
      | .depthDemand => some (s.head h).reg.demand
      | .xSkew => none
      | .xLag => none) ∧
    (∀ g : GuardRecord, (∀ h, g.owner = .head h → s.channelValue g = s.headChannel h g.channel) ∧
      (g.owner = .gantry → g.channel = .xSkew → s.channelValue g = some s.planner.skew) ∧
      (g.owner = .gantry → g.channel = .xLag → s.channelValue g = some s.planner.lag)) ∧
    s.handCaps false = s ∧
    ∀ h,
      let bears := fun (g : GuardRecord) => g ∈ s.guards ∧ g.tripped = true ∧ g.action = .slow ∧
        (g.owner = .head h ∨ g.owner = .gantry)
      ((¬ ∃ g, bears g) → ((s.handCaps true).head h).trim = { (s.head h).trim with cap := none }) ∧
      (∀ g, bears g → (∀ k, bears k → g.cap ≤ k.cap) →
        ((s.handCaps true).head h).trim = { (s.head h).trim with cap := some g.cap })

/-- R104: the lookup of a map. An empty map gives 1000 and 0; the ends of a map are held beyond it; between two points
each value is the lower point's value plus the interpolation's quotient rounded to nearest with halves away from zero,
and lies between the two points' values. So the values of points in range keep within 500 to 1500 and -2000 to 2000. -/
def Obligations.MapLookupInterpolates : Prop :=
  ∀ (points : List MapPoint) (s : Int), points.Pairwise (fun p q => p.station < q.station) →
    (points = [] → lookup points s = (1000, 0)) ∧
    (∀ p, points.head? = some p → s ≤ p.station → lookup points s = (p.kf, p.dz)) ∧
    (∀ p, points.getLast? = some p → p.station ≤ s → lookup points s = (p.kf, p.dz)) ∧
    ((∀ p ∈ points, 500 ≤ p.kf ∧ p.kf ≤ 1500 ∧ -2000 ≤ p.dz ∧ p.dz ≤ 2000) →
      500 ≤ (lookup points s).1 ∧ (lookup points s).1 ≤ 1500 ∧ -2000 ≤ (lookup points s).2 ∧
      (lookup points s).2 ≤ 2000) ∧
    ∀ k p q, points[k]? = some p → points[k + 1]? = some q → p.station ≤ s → s < q.station →
      let quotient := fun (v0 v1 n : Int) =>
        let d := q.station - p.station
        let rest := (v1 - v0) * (s - p.station) - n * d
        2 * mag rest ≤ d ∧ (2 * mag rest = d → mag ((v1 - v0) * (s - p.station)) < mag (n * d))
      ∃ a b, lookup points s = (p.kf + a, p.dz + b) ∧ quotient p.kf q.kf a ∧ quotient p.dz q.dz b ∧
        min p.kf q.kf ≤ p.kf + a ∧ p.kf + a ≤ max p.kf q.kf ∧
        min p.dz q.dz ≤ p.dz + b ∧ p.dz + b ≤ max p.dz q.dz

/-- R106, R107, R112: each set, accepted or coast, leaves a head that is in SPINUP, PLUNGE, DWELL, TRAVERSE or EXIT with a
fence at its station plus the fence margin, limited to 32 bits, and any other head without one. While a head holds a fence,
no step but a power-on changes a kf or a dz that the lookup gives at a station below the fence: a point, the header, a
stream of points, and each of them in a frame's area. -/
def Obligations.FenceKeepsTheLookupBelow : Prop :=
  (∀ (s t : State) (accepted loss : Bool) (h : HeadId), t = s.workSet accepted loss →
    (t.head h).map.fence = if t.headState h = .spinup ∨ t.headState h = .plunge ∨ t.headState h = .dwell ∨
        t.headState h = .traverse ∨ t.headState h = .exit then
      some (max (-2147483648) (min 2147483647 ((s.head h).seq.station + s.gantry.fenceMargin))) else none) ∧
  ∀ (s t : State) (h : HeadId) (f : Int), MapOk s h → (s.head h).map.fence = some f →
    (∀ straps rest, s.pending ≠ .powerOn straps :: rest) → step s = .next t →
    ∀ station, station < f → lookup (t.head h).map.points station = lookup (s.head h).map.points station

/-- R71 to R80, R86 to R88, R90, R92, R94 to R97, R99 to R101, R105: the values of one set, and their bounds. In DWELL,
TRAVERSE, the BRAKE of an exit that does not end and the coast set of a SEAT the targets are formed: the segment values are
the carried ones, or in TRAVERSE those interpolated along the repetition, or v1 at the end; F* and the nominal depth are
formed from them with the map's kf and dz at the head station; an accepted set then regulates, and a coast set holds the
demand. The regulation gives the error, the integral, the raw demand's side, the saturation run, the depth demand and the rate-limited flag; the
trim unit the overrides, the lateral trim, v_h and the spindle command; a run-out, a retract and a withdrawal their step,
and a parked head the clear height. The depth demand moves by at most Rmax and, from inside the depth
window, stays inside it; the integral stays within its clamp; the speed override stays between its floor and 1000; the
lateral trim moves by at most its rate and stays within its limit. -/
def Obligations.OneSetStaysInBounds : Prop :=
  (∀ (s : State) (h : HeadId) (accepted : Bool),
    let x := s.head h
    let d := s.prevDemand h
    let clear := x.profile.depth.clear
    let demand := ((s.workRegulator accepted h).head h).reg.demand
    let t := ((s.workTrim accepted h).head h).trim
    (∀ v : SegValues,
      (x.seq.state ≠ .traverse → v = x.seq.carried) →
      (x.seq.state = .traverse → ∃ reps length force speed rpm depth,
        x.seq.executingRecord = some (.traverse reps length force speed rpm depth) ∧ 0 < length ∧
        let q := x.seq.progress
        let offset := max 0 (min length (x.seq.station - (q.s0 + q.repsDone * length)))
        let along := fun (v0 v1 : Int) => v0 + Int.tdiv ((v1 - v0) * offset) length
        v = if q.endReached = true then q.v1 else ⟨along q.v0.force q.v1.force, along q.v0.speed q.v1.speed,
          along q.v0.rpm q.v1.rpm, along q.v0.depth q.v1.depth⟩) →
      (x.seq.state = .dwell ∨ x.seq.state = .traverse ∨ x.exitPhase = some .brake ∧ s.ring.output.xSpeed ≠ 0 ∨
        x.seq.state = .plunge ∧ x.reg.plungePhase = .seat ∧ accepted = false) →
      let found := lookup x.map.points x.seq.station
      let aimed : Regulator := { x.reg with
        formedError := false
        segment := v
        target := max 0 (min 60000 (Int.tdiv (v.force * found.1) 1000))
        nominal := v.depth + found.2 }
      s.workRegulator accepted h = s.modReg h fun _ =>
        if accepted = true then
          aimed.regulate x.profile s.gantry.tc (s.input h .force) d (decide (x.seq.state = .traverse))
        else { aimed with demand := d }) ∧
    (x.seq.state.parked = true → demand = clear) ∧
    (∀ e, x.exitPhase = some .retract → x.reg.exitRecord = some e →
      ¬ (accepted = true ∧ d = clear ∧ s.input h .zpos ≤ clear + 500) → demand = max (d - e.rate) clear) ∧
    (x.exitPhase = some .runout → accepted = false → demand = d) ∧
    (∀ e start depth, x.exitPhase = some .runout → accepted = true → x.reg.exitRecord = some e →
      e.startStation = some start → e.startDepth = some depth → 0 ≤ e.runOut →
      demand = if e.runOut = 0 then d else
        min (Int.tdiv (depth * max 0 (min e.runOut (e.runOut - (x.seq.station - start)))) e.runOut) d) ∧
    (x.seq.state = .withdraw → demand = if x.reg.withdraw = .rising then max (d - x.profile.depth.withdrawRate) clear
      else clear) ∧
    t.vh = (if x.seq.state = .traverse then some (max 1 (Int.tdiv (x.reg.segment.speed * (match x.trim.cap with
        | none => t.ovrV
        | some c => min t.ovrV c)) 1000)) else none) ∧
    t.spindle = (match x.seq.state with
      | .idle | .waiting | .spindown | .finished | .stopped => 0
      | .spinup | .plunge | .dwell | .exit => x.seq.carried.rpm
      | .traverse => max 1 (Int.tdiv (x.reg.segment.rpm * t.ovrN) 1000)
      | .withdraw => if x.reg.withdraw = .rising then x.seq.carried.rpm else 0) ∧
    t = { (if accepted = true ∧ x.seq.state = .traverse then
        ((x.trim.takeTemp (s.input h .temp)).stepOverrides x.profile.trim).stepLateral x.profile.trim (s.input h .lateral)
      else x.trim) with vh := t.vh, spindle := t.spindle }) ∧
  ∀ (r : Regulator) (t : Trim) (p : HeadProfile) (tc : Nat) (sample prev temp lateral : Int) (traversing : Bool),
    ProfileInRange p → p.depth.dMin < p.depth.dMax →
    let u := r.regulate p tc sample prev traversing
    let v := ((t.takeTemp temp).stepOverrides p.trim)
    let w := v.stepLateral p.trim lateral
    u = (
      let e := max (-20000) (min 20000 (r.target - sample))
      let e' := if mag e ≤ p.gains.deadband then 0 else if 0 < e then e - p.gains.deadband else e + p.gains.deadband
      let change := Int.tdiv (e' * p.gains.ki * tc) 1000000
      let step := if r.side = .high ∧ 0 < change ∨ r.side = .low ∧ change < 0 then 0 else change
      let acc := max (-(p.gains.iClamp * 1000)) (min (p.gains.iClamp * 1000) (r.accumulator + step))
      let raw := r.nominal + Int.tdiv (e' * p.gains.kp) 1000 + Int.tdiv acc 1000
      let clamped := max p.depth.dMin (min p.depth.dMax raw)
      { r with
        error := e
        formedError := true
        accumulator := acc
        side := if p.depth.dMax < raw then .high else if raw < p.depth.dMin then .low else .none
        satRun := if traversing = true ∧ (p.depth.dMax < raw ∨ raw < p.depth.dMin) then min (r.satRun + 1) 65535 else 0
        demand := prev + max (-p.depth.rMax) (min p.depth.rMax (clamped - prev))
        rateLimited := decide (p.depth.rMax < mag (clamped - prev)) }) ∧
    (let formed := if temp = 65535 then t.lastTemp else some temp
     let fallen := fun (o step floor : Int) => if o ≤ floor then o else max (o - step) floor
     v = { t with
       lastTemp := formed
       ovrV := match formed with
         | none => t.ovrV
         | some c => if c < p.trim.tLo then fallen t.ovrV p.trim.speedStep p.trim.speedFloor
             else if p.trim.tHi < c then t.ovrV else min (t.ovrV + p.trim.speedStep) 1000
       ovrN := match formed with
         | none => t.ovrN
         | some c => if c < p.trim.tLo then t.ovrN
             else if p.trim.tHi < c then fallen t.ovrN p.trim.spindleStep p.trim.spindleFloor
             else min (t.ovrN + p.trim.spindleStep) 1000 }) ∧
    (lateral ≠ -32768 → w = { v with lateral := max (-p.trim.yLim) (min p.trim.yLim (t.lateral +
      max (-p.trim.yRate) (min p.trim.yRate (Int.tdiv ((lateral - t.lateral) * p.trim.kt) 1000)))) }) ∧
    mag (u.demand - prev) ≤ p.depth.rMax ∧
    (p.depth.dMin ≤ prev → prev ≤ p.depth.dMax → p.depth.dMin ≤ u.demand ∧ u.demand ≤ p.depth.dMax) ∧
    (prev < p.depth.dMin → prev < u.demand) ∧ (p.depth.dMax < prev → u.demand < prev) ∧
    mag u.accumulator ≤ p.gains.iClamp * 1000 ∧
    (traversing = false → u.satRun = 0) ∧
    (min p.trim.speedFloor 1000 ≤ t.ovrV → t.ovrV ≤ 1000 →
      min p.trim.speedFloor 1000 ≤ v.ovrV ∧ v.ovrV ≤ 1000) ∧
    (min p.trim.spindleFloor 1000 ≤ t.ovrN → t.ovrN ≤ 1000 →
      min p.trim.spindleFloor 1000 ≤ v.ovrN ∧ v.ovrN ≤ 1000) ∧
    (mag t.lateral ≤ p.trim.yLim → mag w.lateral ≤ p.trim.yLim ∧ mag (w.lateral - t.lateral) ≤ p.trim.yRate) ∧
    (lateral = -32768 → w = v)

/-- R49 to R51, R53, R56, R67, R68, R142: the planner at the start of a set. Commanded X rises by the travel of the latest
command; on an accepted set measured X and skew are formed from the gantry samples handed over and the lag from commanded
X, on a coast set measured X is extrapolated and the others stand; commanded X is reseeded without an active pass and, on
accepted sets, under QUICKSTOP; the mark filter counter follows the MARK line on accepted sets alone; and each head's
station is formed from measured X, X0 and its X offset. That the stations of the set that sets the datum use the new X0 is
the model's choice (log entry 47), and so is that the set on which a pass ends is not reseeded here (log entry 57). Behind
an edge, or a write that lowered the filter below the counter, the counter stands and gives no edge until the line reads
negated (R53, R142); that it stands also below a filter raised since is log entry 55. Nothing a set does after it changes
measured X, the skew, X0, a station or the loss hold counter. -/
def Obligations.SetsBeginWithMeasuredX : Prop :=
  (∀ (s : State) (accepted : Bool),
    let p := s.planner
    let travel := s.ring.output.xSpeed * s.gantry.tc
    let t := s.beginPlanner accepted
    let reseeds := s.active = false ∨ accepted = true ∧ p.xMode = .quickstop
    let risen := p.commandedX + Int.tdiv travel 1000
    let edge := s.lines.mark = true ∧ p.markHeld = false ∧ p.markCount + 1 = s.gantry.markFilter
    (accepted = true →
      let left := s.ring.handed.getD 14 0
      let right := s.ring.handed.getD 15 0
      t.planner.xLeft = left ∧ t.planner.xRight = right ∧ t.planner.skew = left - right ∧
      t.planner.measuredX = Int.tdiv (left + right) 2 ∧
      (¬ reseeds → t.planner.lag = Int.tdiv risen 1000 - t.planner.measuredX) ∧
      (s.lines.mark = false → t.planner.markCount = 0 ∧ t.planner.markHeld = false) ∧
      (s.lines.mark = true → p.markHeld = true → t.planner.markCount = p.markCount ∧ t.planner.markHeld = true) ∧
      (s.lines.mark = true → p.markHeld = false → p.markCount < s.gantry.markFilter →
        t.planner.markCount = p.markCount + 1) ∧
      (s.lines.mark = true → p.markHeld = false → s.gantry.markFilter ≤ p.markCount →
        t.planner.markCount = s.gantry.markFilter ∧ t.planner.markHeld = false) ∧
      (edge → t.planner.markHeld = true ∧ t.planner.latch = some ⟨t.planner.measuredX, if t.pass.datumValid = true then
          some (t.planner.measuredX - t.pass.x0) else none, s.ring.setNumber⟩) ∧
      (¬ edge → (s.lines.mark = true → t.planner.markHeld = p.markHeld) ∧
        t.pass = s.pass ∧ t.planner.latch = p.latch ∧ t.planner.latchCount = p.latchCount ∧ t.events = s.events)) ∧
    (accepted = false → t.planner = { p with
        measuredX := p.measuredX + Int.tdiv travel 1000000
        commandedX := t.planner.commandedX
        lag := t.planner.lag } ∧ (¬ reseeds → t.planner.lag = p.lag) ∧ t.pass = s.pass ∧ t.events = s.events) ∧
    (¬ reseeds → t.planner.commandedX = risen) ∧
    (reseeds → t.planner.commandedX = t.planner.measuredX * 1000 ∧ t.planner.lag = 0) ∧
    (∀ h, t.head h = { s.head h with seq := { (s.head h).seq with
      station := max (-2147483648)
        (min 2147483647 (t.planner.measuredX - t.pass.x0 + (s.head h).profile.trim.xOffset)) } }) ∧
    t = { s with
      planner := t.planner, pass := t.pass, events := t.events, headA := t.headA, headB := t.headB }) ∧
  (∀ (s t : State) (accepted loss : Bool), t = s.workSet accepted loss →
    t.planner.measuredX = s.planner.measuredX ∧ t.planner.skew = s.planner.skew ∧
    t.pass.x0 = s.pass.x0 ∧ t.pass.lossHold = s.pass.lossHold ∧ ∀ h, (t.head h).seq.station = (s.head h).seq.station) ∧
  ∀ s : State, s.power = .running →
    let stands := fun (t : State) => ∀ h, (t.head h).seq.station = max (-2147483648)
      (min 2147483647 (t.planner.measuredX - t.pass.x0 + (s.head h).profile.trim.xOffset))
    (∀ (now : Nat) (pins : Pins) (f : PassingFrame), s.service.resetDue = false → s.port.passing = some f →
      f.checkGood = true → s.covers f.payload.length = true → s.ring.isEarly now = false →
      ∃ t, exec (.frameCompletion now pins) s = .next t ∧
        t.planner.measuredX = Int.tdiv (t.ring.handed.getD 14 0 + t.ring.handed.getD 15 0) 2 ∧
        t.planner.skew = t.ring.handed.getD 14 0 - t.ring.handed.getD 15 0 ∧ stands t) ∧
    ∀ (stop : Bool) (due : Nat) (time : FrameTiming), s.ring.window = some due → s.ring.timing = some time →
      ∃ t, exec (.cycleWindowExpiry stop) s = .next t ∧ t.planner.skew = s.planner.skew ∧
        t.planner.measuredX = s.planner.measuredX + Int.tdiv (s.ring.output.xSpeed * s.gantry.tc) 1000000 ∧ stands t

/-- R56, R58 to R66, R71, R94, R98, R106, R118, R123, R126, R166: the order in which the blocks work a set, the planner at
the end of it, and the output set. It rebuilds the stop points, forms the X demand, brakes the target toward
the nearest stop point or toward the approach X, and moves the X command toward the target by at most a ramp step and
never through 0; the X mode is STILL at a command of 0 and MOVE otherwise. Under QUICKSTOP the command is 0 and the mode
stands. The pass-end test that follows changes none of these but a QUICKSTOP of a pass that ends, in every state in which
the pass and its heads agree, as every step keeps them (StepKeepsHeadsAndRecords). The output set of a set holds of each
head the depth demand, the Z mode of its state, the spindle command and the lateral trim that the set leaves, the X command,
and the X mode, which is QUICKSTOP instead where a HALT has been taken since the output set before (log entry 45); and it
carries the numbers of the set. A set is worked by the blocks in this order, behind the planner's start: the causes on
inputs and arrival, the head sequencers, the regulators, NO_CONTACT, the guard unit, the hand-over of the SLOW caps, the trim
units, the demands and Z modes of the states that the set leaves, the fences, the end of the planner, the disarming of the
guards and the output set. What the rules leave open of that order is DEDUCED (log entry 6). -/
def Obligations.SetsEndWithTheRamp : Prop :=
  (∀ (acc dec prev target : Int), 0 < acc → 0 < dec →
    let v := ramp acc dec prev target
    mag (v - prev) ≤ max acc dec ∧ min prev target ≤ v ∧ v ≤ max prev target ∧
    (0 < prev → 0 ≤ v) ∧ (prev < 0 → v ≤ 0) ∧ (v = prev → prev = target) ∧
    (0 ≤ target → target < prev → prev - v ≤ dec) ∧ (0 ≤ prev → prev < target → v - prev ≤ acc) ∧
    (0 ≤ prev → 0 ≤ target → v = prev + max (-dec) (min acc (target - prev)))) ∧
  (∀ (s : State) (accepted loss : Bool),
    let sequenced := ((s.openSet accepted loss).workSequencer accepted .a).workSequencer accepted .b
    let regulated := (sequenced.workRegulator accepted .a).workRegulator accepted .b
    let guarded := ((regulated.workNoContact accepted).workGuards accepted).handCaps accepted
    let trimmed := (guarded.workTrim accepted .a).workTrim accepted .b
    let settled := fun (t : State) (h : HeadId) => t.modHead h fun x => { x with reg := { x.reg with
      demand := if x.seq.state.parked = true then x.profile.depth.clear else x.reg.demand
      zMode := if x.seq.state.parked = true then .park else .position } }
    let fenced := fun (t : State) (h : HeadId) => t.modHead h fun x => { x with map := { x.map with
      fence := if x.seq.state = .spinup ∨ x.seq.state = .plunge ∨ x.seq.state = .dwell ∨ x.seq.state = .traverse ∨
          x.seq.state = .exit then
        some (max (-2147483648) (min 2147483647 (x.seq.station + t.gantry.fenceMargin))) else none } }
    s.workSet accepted loss =
      (fenced (fenced (settled (settled trimmed .a) .b) .a) .b).endPlanner.disarmGuards.formOutputs) ∧
  (∀ s : State, s.formOutputs = { s with
    halted := false
    ring := { s.ring with output :=
      { a := ⟨s.headA.reg.demand, s.headA.reg.zMode, s.headA.trim.spindle, s.headA.trim.lateral⟩
        b := ⟨s.headB.reg.demand, s.headB.reg.zMode, s.headB.trim.spindle, s.headB.trim.lateral⟩
        xSpeed := s.planner.xCommand
        xMode := if s.halted = true then .quickstop else s.planner.xMode
        number := ⟨s.ring.setNumber, s.ring.coastCount⟩ } } }) ∧
  (∀ (s t : State) (accepted loss : Bool), t = s.workSet accepted loss →
    let outputs := fun (x : Head) =>
      HeadOutput.mk x.reg.demand (if x.seq.state.parked = true then .park else .position) x.trim.spindle x.trim.lateral
    t.halted = false ∧ t.ring.output.a = outputs t.headA ∧ t.ring.output.b = outputs t.headB ∧
    t.ring.output.xSpeed = t.planner.xCommand ∧ t.ring.output.number = ⟨s.ring.setNumber, s.ring.coastCount⟩ ∧
    (t.ring.output.xMode = t.planner.xMode ∨ t.ring.output.xMode = .quickstop)) ∧
  ∀ s : State, PassHeadsOk s →
    let p := s.endPlanner.planner
    let entry := fun (e : StopPoint) => s.isPassHead e.head = true ∧ match e.cause with
      | .plunge => s.headState e.head = .waiting ∧ s.plungeX e.head = some e.x
      | .endOfRecord => ∃ reps length force speed rpm depth, s.headState e.head = .traverse ∧
          (s.head e.head).seq.executingRecord = some (.traverse reps length force speed rpm depth) ∧
          ((s.head e.head).seq.successor = none ∨ (∃ ms f, (s.head e.head).seq.successor = some (.dwell ms f)) ∨
            ∃ last rate runOut, (s.head e.head).seq.successor = some (.exit last .inPlace rate runOut)) ∧
          e.x = s.pass.x0 + ((s.head e.head).seq.progress.s0 + reps * length) - (s.head e.head).profile.trim.xOffset
    let moves := s.pass.state = .running ∨ s.pass.state = .held
    let holds := ∃ h, s.isPassHead h = true ∧ (s.headState h = .spinup ∨ s.headState h = .plunge ∨
      s.headState h = .dwell ∨ s.headState h = .withdraw ∨ (s.head h).exitPhase = some .brake ∨
      (s.head h).exitPhase = some .retract ∧ ∃ r, (s.head h).reg.exitRecord = some r ∧ r.kind = .inPlace)
    let asks := fun (h : HeadId) (v : Int) => s.isPassHead h = true ∧
      (s.headState h = .traverse ∧ (s.head h).trim.vh = some v ∨
        (s.head h).exitPhase = some .runout ∧ 0 < (s.head h).reg.demand ∧ v = (s.head h).seq.carried.speed)
    let step := fun (rate : Int) => max 1 (Int.tdiv (rate * s.gantry.tc) 1000000)
    let root := fun (d r : Int) => 0 ≤ r ∧ r * r ≤ 2 * s.gantry.dec * d ∧ 2 * s.gantry.dec * d < (r + 1) * (r + 1)
    let distance := s.pass.approachX - s.planner.measuredX
    let stopped := ∀ h, s.isPassHead h = true → s.headState h = .stopped
    (moves → ∀ e, e ∈ p.stopPoints ↔ entry e) ∧ (¬ moves → p.stopPoints = []) ∧
    (s.pass.state = .running →
      (holds → p.xDemand = 0) ∧
      (∀ h v, ¬ holds → asks h v → (∀ k w, asks k w → v ≤ w) → p.xDemand = v) ∧
      (¬ holds → (¬ ∃ h v, asks h v) → p.xDemand = if (∃ e ∈ p.stopPoints, e.cause = .plunge ∧
          s.planner.measuredX + s.gantry.arrivalTol < e.x) then s.gantry.approachSpeed else 0)) ∧
    (s.pass.state = .approach →
      (s.pass.holdCause = .none → ¬ stopped → p.xDemand = s.gantry.approachSpeed) ∧
      (s.pass.holdCause ≠ .none ∨ stopped → p.xDemand = 0)) ∧
    (s.pass.state ≠ .running → s.pass.state ≠ .approach → p.xDemand = 0) ∧
    (s.planner.xMode = .quickstop → p.xCommand = 0) ∧
    (s.planner.xMode ≠ .quickstop → 0 < s.gantry.acc → 0 < s.gantry.dec → ∃ target : Int,
      p.xCommand = ramp (step s.gantry.acc) (step s.gantry.dec) s.planner.xCommand target ∧
      (moves → p.stopPoints = [] → target = min p.xDemand s.gantry.xMax) ∧
      (∀ e, moves → e ∈ p.stopPoints → (∀ k ∈ p.stopPoints, e.x ≤ k.x) →
        ∃ r, (e.x ≤ s.planner.measuredX → r = 0) ∧ (s.planner.measuredX < e.x → root (e.x - s.planner.measuredX) r) ∧
          target = min (min p.xDemand s.gantry.xMax) r) ∧
      (s.pass.state = .approach → mag distance ≤ s.gantry.arrivalTol → target = 0) ∧
      (s.pass.state = .approach → s.gantry.arrivalTol < mag distance → ∃ r, root (mag distance) r ∧
        target = (if distance < 0 then -1 else 1) * min (min p.xDemand r) s.gantry.xMax) ∧
      (s.active = false → target = 0) ∧
      p.xMode = if p.xCommand = 0 then .still else .move) ∧
    (s.planner.xMode = .quickstop → p.xMode = if s.endPlanner.active = s.active then .quickstop else .still) ∧
    p = { s.planner with
      stopPoints := p.stopPoints, xDemand := p.xDemand, xCommand := p.xCommand, xMode := p.xMode }
end

