-- ==== Sys2Proof/Laws/State.lean ====
section
/-! SUPPORT. What each update of one head leaves alone, field by field, and what it leaves in the head it
changes. -/

namespace Sys2Proof.Machine

/-! ### setHead -/

@[simp] theorem State.setHead_power (s : State) (h : HeadId) (x : Head) : (s.setHead h x).power = s.power := by
  cases h <;> rfl

@[simp] theorem State.setHead_pass (s : State) (h : HeadId) (x : Head) : (s.setHead h x).pass = s.pass := by
  cases h <;> rfl

@[simp] theorem State.setHead_planner (s : State) (h : HeadId) (x : Head) : (s.setHead h x).planner = s.planner := by
  cases h <;> rfl

@[simp] theorem State.setHead_guards (s : State) (h : HeadId) (x : Head) : (s.setHead h x).guards = s.guards := by
  cases h <;> rfl

@[simp] theorem State.setHead_gantryFired (s : State) (h : HeadId) (x : Head) : (s.setHead h x).gantryFired = s.gantryFired := by
  cases h <;> rfl

@[simp] theorem State.setHead_halted (s : State) (h : HeadId) (x : Head) : (s.setHead h x).halted = s.halted := by
  cases h <;> rfl

@[simp] theorem State.setHead_ring (s : State) (h : HeadId) (x : Head) : (s.setHead h x).ring = s.ring := by
  cases h <;> rfl

@[simp] theorem State.setHead_events (s : State) (h : HeadId) (x : Head) : (s.setHead h x).events = s.events := by
  cases h <;> rfl

@[simp] theorem State.setHead_service (s : State) (h : HeadId) (x : Head) : (s.setHead h x).service = s.service := by
  cases h <;> rfl

@[simp] theorem State.setHead_gantry (s : State) (h : HeadId) (x : Head) : (s.setHead h x).gantry = s.gantry := by
  cases h <;> rfl

@[simp] theorem State.setHead_slotMap (s : State) (h : HeadId) (x : Head) : (s.setHead h x).slotMap = s.slotMap := by
  cases h <;> rfl

@[simp] theorem State.setHead_inForce (s : State) (h : HeadId) (x : Head) : (s.setHead h x).inForce = s.inForce := by
  cases h <;> rfl

@[simp] theorem State.setHead_lines (s : State) (h : HeadId) (x : Head) : (s.setHead h x).lines = s.lines := by
  cases h <;> rfl

@[simp] theorem State.setHead_port (s : State) (h : HeadId) (x : Head) : (s.setHead h x).port = s.port := by
  cases h <;> rfl

@[simp] theorem State.setHead_pending (s : State) (h : HeadId) (x : Head) : (s.setHead h x).pending = s.pending := by
  cases h <;> rfl

/-! ### modHead -/

@[simp] theorem State.modHead_power (s : State) (h : HeadId) (f : Head → Head) : (s.modHead h f).power = s.power := by
  cases h <;> rfl

@[simp] theorem State.modHead_pass (s : State) (h : HeadId) (f : Head → Head) : (s.modHead h f).pass = s.pass := by
  cases h <;> rfl

@[simp] theorem State.modHead_planner (s : State) (h : HeadId) (f : Head → Head) : (s.modHead h f).planner = s.planner := by
  cases h <;> rfl

@[simp] theorem State.modHead_guards (s : State) (h : HeadId) (f : Head → Head) : (s.modHead h f).guards = s.guards := by
  cases h <;> rfl

@[simp] theorem State.modHead_gantryFired (s : State) (h : HeadId) (f : Head → Head) : (s.modHead h f).gantryFired = s.gantryFired := by
  cases h <;> rfl

@[simp] theorem State.modHead_halted (s : State) (h : HeadId) (f : Head → Head) : (s.modHead h f).halted = s.halted := by
  cases h <;> rfl

@[simp] theorem State.modHead_ring (s : State) (h : HeadId) (f : Head → Head) : (s.modHead h f).ring = s.ring := by
  cases h <;> rfl

@[simp] theorem State.modHead_events (s : State) (h : HeadId) (f : Head → Head) : (s.modHead h f).events = s.events := by
  cases h <;> rfl

@[simp] theorem State.modHead_service (s : State) (h : HeadId) (f : Head → Head) : (s.modHead h f).service = s.service := by
  cases h <;> rfl

@[simp] theorem State.modHead_gantry (s : State) (h : HeadId) (f : Head → Head) : (s.modHead h f).gantry = s.gantry := by
  cases h <;> rfl

@[simp] theorem State.modHead_slotMap (s : State) (h : HeadId) (f : Head → Head) : (s.modHead h f).slotMap = s.slotMap := by
  cases h <;> rfl

@[simp] theorem State.modHead_inForce (s : State) (h : HeadId) (f : Head → Head) : (s.modHead h f).inForce = s.inForce := by
  cases h <;> rfl

@[simp] theorem State.modHead_lines (s : State) (h : HeadId) (f : Head → Head) : (s.modHead h f).lines = s.lines := by
  cases h <;> rfl

@[simp] theorem State.modHead_port (s : State) (h : HeadId) (f : Head → Head) : (s.modHead h f).port = s.port := by
  cases h <;> rfl

@[simp] theorem State.modHead_pending (s : State) (h : HeadId) (f : Head → Head) : (s.modHead h f).pending = s.pending := by
  cases h <;> rfl

/-! ### modSeq -/

@[simp] theorem State.modSeq_power (s : State) (h : HeadId) (f : Sequencer → Sequencer) : (s.modSeq h f).power = s.power := by
  cases h <;> rfl

@[simp] theorem State.modSeq_pass (s : State) (h : HeadId) (f : Sequencer → Sequencer) : (s.modSeq h f).pass = s.pass := by
  cases h <;> rfl

@[simp] theorem State.modSeq_planner (s : State) (h : HeadId) (f : Sequencer → Sequencer) : (s.modSeq h f).planner = s.planner := by
  cases h <;> rfl

@[simp] theorem State.modSeq_guards (s : State) (h : HeadId) (f : Sequencer → Sequencer) : (s.modSeq h f).guards = s.guards := by
  cases h <;> rfl

@[simp] theorem State.modSeq_gantryFired (s : State) (h : HeadId) (f : Sequencer → Sequencer) : (s.modSeq h f).gantryFired = s.gantryFired := by
  cases h <;> rfl

@[simp] theorem State.modSeq_halted (s : State) (h : HeadId) (f : Sequencer → Sequencer) : (s.modSeq h f).halted = s.halted := by
  cases h <;> rfl

@[simp] theorem State.modSeq_ring (s : State) (h : HeadId) (f : Sequencer → Sequencer) : (s.modSeq h f).ring = s.ring := by
  cases h <;> rfl

@[simp] theorem State.modSeq_events (s : State) (h : HeadId) (f : Sequencer → Sequencer) : (s.modSeq h f).events = s.events := by
  cases h <;> rfl

@[simp] theorem State.modSeq_service (s : State) (h : HeadId) (f : Sequencer → Sequencer) : (s.modSeq h f).service = s.service := by
  cases h <;> rfl

@[simp] theorem State.modSeq_gantry (s : State) (h : HeadId) (f : Sequencer → Sequencer) : (s.modSeq h f).gantry = s.gantry := by
  cases h <;> rfl

@[simp] theorem State.modSeq_slotMap (s : State) (h : HeadId) (f : Sequencer → Sequencer) : (s.modSeq h f).slotMap = s.slotMap := by
  cases h <;> rfl

@[simp] theorem State.modSeq_inForce (s : State) (h : HeadId) (f : Sequencer → Sequencer) : (s.modSeq h f).inForce = s.inForce := by
  cases h <;> rfl

@[simp] theorem State.modSeq_lines (s : State) (h : HeadId) (f : Sequencer → Sequencer) : (s.modSeq h f).lines = s.lines := by
  cases h <;> rfl

@[simp] theorem State.modSeq_port (s : State) (h : HeadId) (f : Sequencer → Sequencer) : (s.modSeq h f).port = s.port := by
  cases h <;> rfl

@[simp] theorem State.modSeq_pending (s : State) (h : HeadId) (f : Sequencer → Sequencer) : (s.modSeq h f).pending = s.pending := by
  cases h <;> rfl

/-! ### modProgress -/

@[simp] theorem State.modProgress_power (s : State) (h : HeadId) (f : Progress → Progress) : (s.modProgress h f).power = s.power := by
  cases h <;> rfl

@[simp] theorem State.modProgress_pass (s : State) (h : HeadId) (f : Progress → Progress) : (s.modProgress h f).pass = s.pass := by
  cases h <;> rfl

@[simp] theorem State.modProgress_planner (s : State) (h : HeadId) (f : Progress → Progress) : (s.modProgress h f).planner = s.planner := by
  cases h <;> rfl

@[simp] theorem State.modProgress_guards (s : State) (h : HeadId) (f : Progress → Progress) : (s.modProgress h f).guards = s.guards := by
  cases h <;> rfl

@[simp] theorem State.modProgress_gantryFired (s : State) (h : HeadId) (f : Progress → Progress) : (s.modProgress h f).gantryFired = s.gantryFired := by
  cases h <;> rfl

@[simp] theorem State.modProgress_halted (s : State) (h : HeadId) (f : Progress → Progress) : (s.modProgress h f).halted = s.halted := by
  cases h <;> rfl

@[simp] theorem State.modProgress_ring (s : State) (h : HeadId) (f : Progress → Progress) : (s.modProgress h f).ring = s.ring := by
  cases h <;> rfl

@[simp] theorem State.modProgress_events (s : State) (h : HeadId) (f : Progress → Progress) : (s.modProgress h f).events = s.events := by
  cases h <;> rfl

@[simp] theorem State.modProgress_service (s : State) (h : HeadId) (f : Progress → Progress) : (s.modProgress h f).service = s.service := by
  cases h <;> rfl

@[simp] theorem State.modProgress_gantry (s : State) (h : HeadId) (f : Progress → Progress) : (s.modProgress h f).gantry = s.gantry := by
  cases h <;> rfl

@[simp] theorem State.modProgress_slotMap (s : State) (h : HeadId) (f : Progress → Progress) : (s.modProgress h f).slotMap = s.slotMap := by
  cases h <;> rfl

@[simp] theorem State.modProgress_inForce (s : State) (h : HeadId) (f : Progress → Progress) : (s.modProgress h f).inForce = s.inForce := by
  cases h <;> rfl

@[simp] theorem State.modProgress_lines (s : State) (h : HeadId) (f : Progress → Progress) : (s.modProgress h f).lines = s.lines := by
  cases h <;> rfl

@[simp] theorem State.modProgress_port (s : State) (h : HeadId) (f : Progress → Progress) : (s.modProgress h f).port = s.port := by
  cases h <;> rfl

@[simp] theorem State.modProgress_pending (s : State) (h : HeadId) (f : Progress → Progress) : (s.modProgress h f).pending = s.pending := by
  cases h <;> rfl

/-! ### modReg -/

@[simp] theorem State.modReg_power (s : State) (h : HeadId) (f : Regulator → Regulator) : (s.modReg h f).power = s.power := by
  cases h <;> rfl

@[simp] theorem State.modReg_pass (s : State) (h : HeadId) (f : Regulator → Regulator) : (s.modReg h f).pass = s.pass := by
  cases h <;> rfl

@[simp] theorem State.modReg_planner (s : State) (h : HeadId) (f : Regulator → Regulator) : (s.modReg h f).planner = s.planner := by
  cases h <;> rfl

@[simp] theorem State.modReg_guards (s : State) (h : HeadId) (f : Regulator → Regulator) : (s.modReg h f).guards = s.guards := by
  cases h <;> rfl

@[simp] theorem State.modReg_gantryFired (s : State) (h : HeadId) (f : Regulator → Regulator) : (s.modReg h f).gantryFired = s.gantryFired := by
  cases h <;> rfl

@[simp] theorem State.modReg_halted (s : State) (h : HeadId) (f : Regulator → Regulator) : (s.modReg h f).halted = s.halted := by
  cases h <;> rfl

@[simp] theorem State.modReg_ring (s : State) (h : HeadId) (f : Regulator → Regulator) : (s.modReg h f).ring = s.ring := by
  cases h <;> rfl

@[simp] theorem State.modReg_events (s : State) (h : HeadId) (f : Regulator → Regulator) : (s.modReg h f).events = s.events := by
  cases h <;> rfl

@[simp] theorem State.modReg_service (s : State) (h : HeadId) (f : Regulator → Regulator) : (s.modReg h f).service = s.service := by
  cases h <;> rfl

@[simp] theorem State.modReg_gantry (s : State) (h : HeadId) (f : Regulator → Regulator) : (s.modReg h f).gantry = s.gantry := by
  cases h <;> rfl

@[simp] theorem State.modReg_slotMap (s : State) (h : HeadId) (f : Regulator → Regulator) : (s.modReg h f).slotMap = s.slotMap := by
  cases h <;> rfl

@[simp] theorem State.modReg_inForce (s : State) (h : HeadId) (f : Regulator → Regulator) : (s.modReg h f).inForce = s.inForce := by
  cases h <;> rfl

@[simp] theorem State.modReg_lines (s : State) (h : HeadId) (f : Regulator → Regulator) : (s.modReg h f).lines = s.lines := by
  cases h <;> rfl

@[simp] theorem State.modReg_port (s : State) (h : HeadId) (f : Regulator → Regulator) : (s.modReg h f).port = s.port := by
  cases h <;> rfl

@[simp] theorem State.modReg_pending (s : State) (h : HeadId) (f : Regulator → Regulator) : (s.modReg h f).pending = s.pending := by
  cases h <;> rfl

/-! ### modTrim -/

@[simp] theorem State.modTrim_power (s : State) (h : HeadId) (f : Trim → Trim) : (s.modTrim h f).power = s.power := by
  cases h <;> rfl

@[simp] theorem State.modTrim_pass (s : State) (h : HeadId) (f : Trim → Trim) : (s.modTrim h f).pass = s.pass := by
  cases h <;> rfl

@[simp] theorem State.modTrim_planner (s : State) (h : HeadId) (f : Trim → Trim) : (s.modTrim h f).planner = s.planner := by
  cases h <;> rfl

@[simp] theorem State.modTrim_guards (s : State) (h : HeadId) (f : Trim → Trim) : (s.modTrim h f).guards = s.guards := by
  cases h <;> rfl

@[simp] theorem State.modTrim_gantryFired (s : State) (h : HeadId) (f : Trim → Trim) : (s.modTrim h f).gantryFired = s.gantryFired := by
  cases h <;> rfl

@[simp] theorem State.modTrim_halted (s : State) (h : HeadId) (f : Trim → Trim) : (s.modTrim h f).halted = s.halted := by
  cases h <;> rfl

@[simp] theorem State.modTrim_ring (s : State) (h : HeadId) (f : Trim → Trim) : (s.modTrim h f).ring = s.ring := by
  cases h <;> rfl

@[simp] theorem State.modTrim_events (s : State) (h : HeadId) (f : Trim → Trim) : (s.modTrim h f).events = s.events := by
  cases h <;> rfl

@[simp] theorem State.modTrim_service (s : State) (h : HeadId) (f : Trim → Trim) : (s.modTrim h f).service = s.service := by
  cases h <;> rfl

@[simp] theorem State.modTrim_gantry (s : State) (h : HeadId) (f : Trim → Trim) : (s.modTrim h f).gantry = s.gantry := by
  cases h <;> rfl

@[simp] theorem State.modTrim_slotMap (s : State) (h : HeadId) (f : Trim → Trim) : (s.modTrim h f).slotMap = s.slotMap := by
  cases h <;> rfl

@[simp] theorem State.modTrim_inForce (s : State) (h : HeadId) (f : Trim → Trim) : (s.modTrim h f).inForce = s.inForce := by
  cases h <;> rfl

@[simp] theorem State.modTrim_lines (s : State) (h : HeadId) (f : Trim → Trim) : (s.modTrim h f).lines = s.lines := by
  cases h <;> rfl

@[simp] theorem State.modTrim_port (s : State) (h : HeadId) (f : Trim → Trim) : (s.modTrim h f).port = s.port := by
  cases h <;> rfl

@[simp] theorem State.modTrim_pending (s : State) (h : HeadId) (f : Trim → Trim) : (s.modTrim h f).pending = s.pending := by
  cases h <;> rfl

/-! ### modMap -/

@[simp] theorem State.modMap_power (s : State) (h : HeadId) (f : CompMap → CompMap) : (s.modMap h f).power = s.power := by
  cases h <;> rfl

@[simp] theorem State.modMap_pass (s : State) (h : HeadId) (f : CompMap → CompMap) : (s.modMap h f).pass = s.pass := by
  cases h <;> rfl

@[simp] theorem State.modMap_planner (s : State) (h : HeadId) (f : CompMap → CompMap) : (s.modMap h f).planner = s.planner := by
  cases h <;> rfl

@[simp] theorem State.modMap_guards (s : State) (h : HeadId) (f : CompMap → CompMap) : (s.modMap h f).guards = s.guards := by
  cases h <;> rfl

@[simp] theorem State.modMap_gantryFired (s : State) (h : HeadId) (f : CompMap → CompMap) : (s.modMap h f).gantryFired = s.gantryFired := by
  cases h <;> rfl

@[simp] theorem State.modMap_halted (s : State) (h : HeadId) (f : CompMap → CompMap) : (s.modMap h f).halted = s.halted := by
  cases h <;> rfl

@[simp] theorem State.modMap_ring (s : State) (h : HeadId) (f : CompMap → CompMap) : (s.modMap h f).ring = s.ring := by
  cases h <;> rfl

@[simp] theorem State.modMap_events (s : State) (h : HeadId) (f : CompMap → CompMap) : (s.modMap h f).events = s.events := by
  cases h <;> rfl

@[simp] theorem State.modMap_service (s : State) (h : HeadId) (f : CompMap → CompMap) : (s.modMap h f).service = s.service := by
  cases h <;> rfl

@[simp] theorem State.modMap_gantry (s : State) (h : HeadId) (f : CompMap → CompMap) : (s.modMap h f).gantry = s.gantry := by
  cases h <;> rfl

@[simp] theorem State.modMap_slotMap (s : State) (h : HeadId) (f : CompMap → CompMap) : (s.modMap h f).slotMap = s.slotMap := by
  cases h <;> rfl

@[simp] theorem State.modMap_inForce (s : State) (h : HeadId) (f : CompMap → CompMap) : (s.modMap h f).inForce = s.inForce := by
  cases h <;> rfl

@[simp] theorem State.modMap_lines (s : State) (h : HeadId) (f : CompMap → CompMap) : (s.modMap h f).lines = s.lines := by
  cases h <;> rfl

@[simp] theorem State.modMap_port (s : State) (h : HeadId) (f : CompMap → CompMap) : (s.modMap h f).port = s.port := by
  cases h <;> rfl

@[simp] theorem State.modMap_pending (s : State) (h : HeadId) (f : CompMap → CompMap) : (s.modMap h f).pending = s.pending := by
  cases h <;> rfl

/-! ### modFired -/

@[simp] theorem State.modFired_power (s : State) (h : HeadId) (f : HeadFired → HeadFired) : (s.modFired h f).power = s.power := by
  cases h <;> rfl

@[simp] theorem State.modFired_pass (s : State) (h : HeadId) (f : HeadFired → HeadFired) : (s.modFired h f).pass = s.pass := by
  cases h <;> rfl

@[simp] theorem State.modFired_planner (s : State) (h : HeadId) (f : HeadFired → HeadFired) : (s.modFired h f).planner = s.planner := by
  cases h <;> rfl

@[simp] theorem State.modFired_guards (s : State) (h : HeadId) (f : HeadFired → HeadFired) : (s.modFired h f).guards = s.guards := by
  cases h <;> rfl

@[simp] theorem State.modFired_gantryFired (s : State) (h : HeadId) (f : HeadFired → HeadFired) : (s.modFired h f).gantryFired = s.gantryFired := by
  cases h <;> rfl

@[simp] theorem State.modFired_halted (s : State) (h : HeadId) (f : HeadFired → HeadFired) : (s.modFired h f).halted = s.halted := by
  cases h <;> rfl

@[simp] theorem State.modFired_ring (s : State) (h : HeadId) (f : HeadFired → HeadFired) : (s.modFired h f).ring = s.ring := by
  cases h <;> rfl

@[simp] theorem State.modFired_events (s : State) (h : HeadId) (f : HeadFired → HeadFired) : (s.modFired h f).events = s.events := by
  cases h <;> rfl

@[simp] theorem State.modFired_service (s : State) (h : HeadId) (f : HeadFired → HeadFired) : (s.modFired h f).service = s.service := by
  cases h <;> rfl

@[simp] theorem State.modFired_gantry (s : State) (h : HeadId) (f : HeadFired → HeadFired) : (s.modFired h f).gantry = s.gantry := by
  cases h <;> rfl

@[simp] theorem State.modFired_slotMap (s : State) (h : HeadId) (f : HeadFired → HeadFired) : (s.modFired h f).slotMap = s.slotMap := by
  cases h <;> rfl

@[simp] theorem State.modFired_inForce (s : State) (h : HeadId) (f : HeadFired → HeadFired) : (s.modFired h f).inForce = s.inForce := by
  cases h <;> rfl

@[simp] theorem State.modFired_lines (s : State) (h : HeadId) (f : HeadFired → HeadFired) : (s.modFired h f).lines = s.lines := by
  cases h <;> rfl

@[simp] theorem State.modFired_port (s : State) (h : HeadId) (f : HeadFired → HeadFired) : (s.modFired h f).port = s.port := by
  cases h <;> rfl

@[simp] theorem State.modFired_pending (s : State) (h : HeadId) (f : HeadFired → HeadFired) : (s.modFired h f).pending = s.pending := by
  cases h <;> rfl

/-! ### The head that is changed, and the other -/

@[simp] theorem State.setHead_head (s : State) (h : HeadId) (x : Head) :
    (s.setHead h x).head h = x := by
  cases h <;> rfl

@[simp] theorem State.setHead_other (s : State) (h : HeadId) (x : Head) :
    (s.setHead h x).head h.other = s.head h.other := by
  cases h <;> rfl

@[simp] theorem State.modHead_head (s : State) (h : HeadId) (f : Head → Head) :
    (s.modHead h f).head h = f (s.head h) := by
  cases h <;> rfl

@[simp] theorem State.modHead_other (s : State) (h : HeadId) (f : Head → Head) :
    (s.modHead h f).head h.other = s.head h.other := by
  cases h <;> rfl

@[simp] theorem State.modSeq_head (s : State) (h : HeadId) (f : Sequencer → Sequencer) :
    (s.modSeq h f).head h = { s.head h with seq := f (s.head h).seq } := by
  cases h <;> rfl

@[simp] theorem State.modSeq_other (s : State) (h : HeadId) (f : Sequencer → Sequencer) :
    (s.modSeq h f).head h.other = s.head h.other := by
  cases h <;> rfl

@[simp] theorem State.modProgress_head (s : State) (h : HeadId) (f : Progress → Progress) :
    (s.modProgress h f).head h = { s.head h with seq := { (s.head h).seq with progress := f (s.head h).seq.progress } } := by
  cases h <;> rfl

@[simp] theorem State.modProgress_other (s : State) (h : HeadId) (f : Progress → Progress) :
    (s.modProgress h f).head h.other = s.head h.other := by
  cases h <;> rfl

@[simp] theorem State.modReg_head (s : State) (h : HeadId) (f : Regulator → Regulator) :
    (s.modReg h f).head h = { s.head h with reg := f (s.head h).reg } := by
  cases h <;> rfl

@[simp] theorem State.modReg_other (s : State) (h : HeadId) (f : Regulator → Regulator) :
    (s.modReg h f).head h.other = s.head h.other := by
  cases h <;> rfl

@[simp] theorem State.modTrim_head (s : State) (h : HeadId) (f : Trim → Trim) :
    (s.modTrim h f).head h = { s.head h with trim := f (s.head h).trim } := by
  cases h <;> rfl

@[simp] theorem State.modTrim_other (s : State) (h : HeadId) (f : Trim → Trim) :
    (s.modTrim h f).head h.other = s.head h.other := by
  cases h <;> rfl

@[simp] theorem State.modMap_head (s : State) (h : HeadId) (f : CompMap → CompMap) :
    (s.modMap h f).head h = { s.head h with map := f (s.head h).map } := by
  cases h <;> rfl

@[simp] theorem State.modMap_other (s : State) (h : HeadId) (f : CompMap → CompMap) :
    (s.modMap h f).head h.other = s.head h.other := by
  cases h <;> rfl

@[simp] theorem State.modFired_head (s : State) (h : HeadId) (f : HeadFired → HeadFired) :
    (s.modFired h f).head h = { s.head h with fired := f (s.head h).fired } := by
  cases h <;> rfl

@[simp] theorem State.modFired_other (s : State) (h : HeadId) (f : HeadFired → HeadFired) :
    (s.modFired h f).head h.other = s.head h.other := by
  cases h <;> rfl

@[simp] theorem HeadId.other_other (h : HeadId) : h.other.other = h := by
  cases h <;> rfl

/-- A head is the one named or the other. -/
theorem HeadId.eq_or_other (g h : HeadId) : g = h ∨ g = h.other := by
  cases g <;> cases h <;> simp [HeadId.other]

/-- The head state under an update of one head's sequencer. -/
theorem State.modSeq_headState (s : State) (h : HeadId) (f : Sequencer → Sequencer) :
    (s.modSeq h f).headState h = (f (s.head h).seq).state := by
  cases h <;> rfl

end Sys2Proof.Machine
end

