-- ==== Sys2Proof/Laws/Work.lean ====
section
/-! SUPPORT. What the work of a set can do to the state, said once: `Worked s t` lists what stands and how the rest
may move, and every operation that the blocks use on a set has one lemma here. -/

namespace Sys2Proof.Machine

/-! ## The relation -/

/-- A property of the event unit that raising an event and recording a fault keep. -/
structure EventClosed (P : EventUnit → Prop) : Prop where
  insert : ∀ u k stamp detail, P u → u.enables k = true →
    P { u with entries := insertEvent k stamp detail u.entries }
  record : ∀ u f, P u →
    P { u with fault := some (u.fault.getD f), faultCount := countUp 65535 u.faultCount }

/-- How a head's last completed kind and its queue move while no record joins: the oldest record completes, the
pending records are removed, or the queue is emptied (R26). -/
inductive QueueMoves : Option SegKind → List Segment → Option SegKind → List Segment → Prop
  | refl (k : Option SegKind) (q : List Segment) : QueueMoves k q k q
  | complete (k : Option SegKind) (g : Segment) (rest : List Segment) : QueueMoves k (g :: rest) (some g.kind) rest
  | take (k : Option SegKind) (q : List Segment) : QueueMoves k q k (q.take 1)
  | clear (k : Option SegKind) (q : List Segment) : QueueMoves k q none []
  | trans {k l m : Option SegKind} {p q r : List Segment} : QueueMoves k p l q → QueueMoves l q m r →
      QueueMoves k p m r

/-- The work of a block on a set takes `s` to `t`. -/
structure Worked (s t : State) : Prop where
  power   : t.power = s.power
  gantry  : t.gantry = s.gantry
  slotMap : t.slotMap = s.slotMap
  inForce : t.inForce = s.inForce
  lines   : t.lines = s.lines
  port    : t.port = s.port
  pending : t.pending = s.pending
  service : t.service = { s.service with mode := t.service.mode }
  mode    : t.service.mode = s.service.mode ∨ (s.service.mode = .ready ∧ t.service.mode = .fault)
  active  : t.active = true → s.active = true
  ring    : t.ring = { s.ring with output := t.ring.output }
  guards  : t.guards.map GuardRecord.rearmed = s.guards.map GuardRecord.rearmed
  events  : ∀ P, EventClosed P → P s.events → P t.events
  profile : ∀ h, (t.head h).profile = (s.head h).profile
  points  : ∀ h, (t.head h).map.points = (s.head h).map.points
  queue   : ∀ h, QueueMoves (s.head h).seq.lastKind (s.head h).seq.queue (t.head h).seq.lastKind (t.head h).seq.queue

theorem Worked.refl (s : State) : Worked s s where
  power := rfl
  gantry := rfl
  slotMap := rfl
  inForce := rfl
  lines := rfl
  port := rfl
  pending := rfl
  service := rfl
  mode := .inl rfl
  active := id
  ring := rfl
  guards := rfl
  events := fun _ _ => id
  profile := fun _ => rfl
  points := fun _ => rfl
  queue := fun _ => .refl _ _

theorem Worked.trans {s t u : State} (a : Worked s t) (b : Worked t u) : Worked s u where
  power := b.power.trans a.power
  gantry := b.gantry.trans a.gantry
  slotMap := b.slotMap.trans a.slotMap
  inForce := b.inForce.trans a.inForce
  lines := b.lines.trans a.lines
  port := b.port.trans a.port
  pending := b.pending.trans a.pending
  service := by rw [b.service, a.service]
  mode := by
    rcases b.mode with hb | ⟨hb, hu⟩ <;> rcases a.mode with ha | ⟨ha, ht⟩
    · exact .inl (hb.trans ha)
    · exact .inr ⟨ha, hb.trans ht⟩
    · exact .inr ⟨ha ▸ hb, hu⟩
    · exact .inr ⟨ha, hu⟩
  active := fun h => a.active (b.active h)
  ring := by rw [b.ring, a.ring]
  guards := b.guards.trans a.guards
  events := fun P c h => b.events P c (a.events P c h)
  profile := fun h => (b.profile h).trans (a.profile h)
  points := fun h => (b.points h).trans (a.points h)
  queue := fun h => .trans (a.queue h) (b.queue h)

theorem Worked.ite {s a b : State} {c : Prop} [Decidable c] (ha : Worked s a) (hb : Worked s b) :
    Worked s (if c then a else b) := by
  split
  · exact ha
  · exact hb

theorem Worked.foldl {α : Type} {f : State → α → State} (h : ∀ s x, Worked s (f s x)) (l : List α) (s : State) :
    Worked s (l.foldl f s) := by
  induction l generalizing s with
  | nil => exact .refl s
  | cons x xs ih => exact (h s x).trans (ih _)

/-! ## Single updates -/

/-- A head changed within its records: profile and map points stand, and the queue loses records only. -/
theorem Worked.modHead (s : State) (h : HeadId) (f : Head → Head)
    (hp : (f (s.head h)).profile = (s.head h).profile)
    (hm : (f (s.head h)).map.points = (s.head h).map.points)
    (hq : QueueMoves (s.head h).seq.lastKind (s.head h).seq.queue (f (s.head h)).seq.lastKind
      (f (s.head h)).seq.queue) : Worked s (s.modHead h f) where
  power := by simp
  gantry := by simp
  slotMap := by simp
  inForce := by simp
  lines := by simp
  port := by simp
  pending := by simp
  service := by simp
  mode := by simp
  active := by simp [State.active]
  ring := by simp
  guards := by simp
  events := by simp
  profile := fun g => by
    rcases HeadId.eq_or_other g h with rfl | rfl
    · simpa using hp
    · simp
  points := fun g => by
    rcases HeadId.eq_or_other g h with rfl | rfl
    · simpa using hm
    · simp
  queue := fun g => by
    rcases HeadId.eq_or_other g h with rfl | rfl
    · simpa using hq
    · simpa using .refl _ _

theorem Worked.modSeq (s : State) (h : HeadId) (f : Sequencer → Sequencer)
    (hq : QueueMoves (s.head h).seq.lastKind (s.head h).seq.queue (f (s.head h).seq).lastKind
      (f (s.head h).seq).queue) : Worked s (s.modSeq h f) :=
  Worked.modHead s h _ rfl rfl hq

theorem Worked.modProgress (s : State) (h : HeadId) (f : Progress → Progress) : Worked s (s.modProgress h f) :=
  Worked.modSeq s h _ (.refl _ _)

theorem Worked.modReg (s : State) (h : HeadId) (f : Regulator → Regulator) : Worked s (s.modReg h f) :=
  Worked.modHead s h _ rfl rfl (.refl _ _)

theorem Worked.modTrim (s : State) (h : HeadId) (f : Trim → Trim) : Worked s (s.modTrim h f) :=
  Worked.modHead s h _ rfl rfl (.refl _ _)

theorem Worked.modFired (s : State) (h : HeadId) (f : HeadFired → HeadFired) : Worked s (s.modFired h f) :=
  Worked.modHead s h _ rfl rfl (.refl _ _)

theorem Worked.modMap (s : State) (h : HeadId) (f : CompMap → CompMap)
    (hm : (f (s.head h).map).points = (s.head h).map.points) : Worked s (s.modMap h f) :=
  Worked.modHead s h _ rfl hm (.refl _ _)

/-- The pass record changed, without a pass becoming active. -/
theorem Worked.pass (s : State) (p : PassRecord) (h : p.state.active = true → s.pass.state.active = true) :
    Worked s { s with pass := p } :=
  { Worked.refl s with active := h }

theorem Worked.planner (s : State) (p : Planner) : Worked s { s with planner := p } :=
  { Worked.refl s with }

/-- The guard records changed in their run fields only. -/
theorem Worked.setGuards (s : State) (f : GuardRecord → GuardRecord) (h : ∀ g, (f g).rearmed = g.rearmed) :
    Worked s { s with guards := s.guards.map f } :=
  { Worked.refl s with
    guards := by
      rw [List.map_map]
      exact List.map_congr_left fun g _ => h g }

theorem Worked.halted (s : State) (b : Bool) : Worked s { s with halted := b } :=
  { Worked.refl s with }

theorem Worked.gantryFired (s : State) (f : GantryFired) : Worked s { s with gantryFired := f } :=
  { Worked.refl s with }

/-- READY becomes FAULT. -/
theorem Worked.toFault (s : State) (h : s.service.mode = .ready) :
    Worked s { s with service := { s.service with mode := .fault } } :=
  { Worked.refl s with mode := .inr ⟨h, rfl⟩, service := rfl }

/-! ## Events and faults -/

/-- What raising an event does to the event unit. -/
theorem State.raise_events (s : State) (k : EventKind) (detail : Nat) :
    (s.raise k detail).events = if s.events.enables k then
      { s.events with entries := insertEvent k s.ring.setNumber detail s.events.entries } else s.events := by
  unfold State.raise
  split <;> rfl

theorem State.raise_worked (s : State) (k : EventKind) (detail : Nat) : Worked s (s.raise k detail) := by
  unfold State.raise
  split
  · rename_i he
    exact { Worked.refl s with events := fun P c h => c.insert _ _ _ _ h he }
  · exact .refl s

/-- A fault recorded fills an empty record and counts (R187). -/
theorem State.recordFault_events (s : State) (k : FaultKind) (head : Option HeadId) (station value : Int) :
    (s.recordFault k head station value).events =
      { s.events with
        fault := some (s.events.fault.getD ⟨k, head, s.ring.setNumber, station, value⟩)
        faultCount := countUp 65535 s.events.faultCount } := by
  unfold State.recordFault
  cases s.events.fault <;> rfl

theorem State.recordFault_worked (s : State) (k : FaultKind) (head : Option HeadId) (station value : Int) :
    Worked s (s.recordFault k head station value) :=
  { Worked.refl s with
    events := fun P c h => by
      rw [State.recordFault_events]
      exact c.record _ _ h }

theorem State.takeFault_worked (s : State) (k : FaultKind) (head : Option HeadId) (station value : Int) :
    Worked s (s.takeFault k head station value) := by
  unfold State.takeFault
  exact .ite (((s.recordFault_worked ..).trans (State.raise_worked ..)).trans (State.raise_worked ..))
    ((s.recordFault_worked ..).trans (State.raise_worked ..))

theorem State.faultOf_worked (s : State) (k : FaultKind) (o : Owner) (v : Int) : Worked s (s.faultOf k o v) :=
  s.takeFault_worked ..

/-! ## Guards -/

theorem State.clearLatched_worked (s : State) (f : Owner → Bool) : Worked s (s.clearLatched f) :=
  .setGuards s _ fun g => by split <;> rfl

theorem State.disarmGuards_worked (s : State) : Worked s s.disarmGuards :=
  .setGuards s _ fun g => by split <;> rfl

theorem GuardRecord.judge_rearmed (g : GuardRecord) (v : Int) : (g.judge v).rearmed = g.rearmed := by
  unfold GuardRecord.judge
  dsimp only
  split
  · split <;> rfl
  · rfl

theorem State.judgeGuards_worked (s : State) : Worked s s.judgeGuards :=
  .setGuards s _ fun g => by
    unfold State.judgeGuard
    split
    · exact g.judge_rearmed _
    · rfl

theorem State.clearFired_worked (s : State) : Worked s s.clearFired :=
  ((Worked.modFired s ..).trans (Worked.modFired ..)).trans (Worked.gantryFired ..)

theorem State.setFired_worked (s : State) (c : Cause) : Worked s (s.setFired c) := by
  unfold State.setFired
  split
  all_goals first
    | exact Worked.modFired s _ _
    | exact Worked.gantryFired s _

theorem State.dropHeadFired_worked (s : State) (h : HeadId) : Worked s (s.dropHeadFired h) := by
  unfold State.dropHeadFired
  exact Worked.modFired s h _

theorem State.dropFired_worked (s : State) : Worked s s.dropFired := by
  unfold State.dropFired
  have h := (s.dropHeadFired_worked .a).trans (State.dropHeadFired_worked _ .b)
  exact .ite h (h.trans (Worked.gantryFired ..))

theorem State.handCaps_worked (s : State) (accepted : Bool) : Worked s (s.handCaps accepted) := by
  unfold State.handCaps
  exact .ite ((Worked.modTrim s ..).trans (Worked.modTrim ..)) (.refl s)

/-! ## Leaving the pass -/

theorem State.park_worked (s : State) (h : HeadId) (st : HeadState) : Worked s (s.park h st) :=
  .modHead s h _ rfl rfl (.refl _ _)

theorem State.dropExecuting_worked (s : State) (h : HeadId) : Worked s (s.dropExecuting h) :=
  .modSeq s h _ (.refl _ _)

theorem State.dropPending_worked (s : State) (h : HeadId) : Worked s (s.dropPending h) :=
  .modSeq s h _ (.take _ _)

theorem State.carryLastSet_worked (s : State) (h : HeadId) : Worked s (s.carryLastSet h) :=
  .modHead s h _ rfl rfl (.refl _ _)

theorem State.enterExit_worked (s : State) (h : HeadId) (p : ExitPhase) (r : ExitRecord) :
    Worked s (s.enterExit h p r) :=
  .modHead s h _ rfl rfl (.refl _ _)

theorem State.endPass_worked (s : State) : Worked s s.endPass := by
  unfold State.endPass
  refine ((((Worked.pass s _ ?_).trans (State.raise_worked ..)).trans (Worked.planner ..)).trans
    (State.clearLatched_worked ..)).trans (State.clearFired_worked _)
  intro h
  dsimp only at h
  split at h <;> cases h

theorem State.testPassEnd_worked (s : State) : Worked s s.testPassEnd :=
  .ite s.endPass_worked (.refl s)

theorem State.stopHead_worked (s : State) (h : HeadId) : Worked s (s.stopHead h) := by
  unfold State.stopHead
  exact ((((s.park_worked h .stopped).trans (State.dropExecuting_worked ..)).trans
    (Worked.modSeq _ h _ (.clear _ _))).trans (Worked.modTrim ..)).trans (State.clearLatched_worked ..)

theorem State.finishHead_worked (s : State) (h : HeadId) : Worked s (s.finishHead h) :=
  ((s.park_worked h .finished).trans (State.dropExecuting_worked ..)).trans (State.clearLatched_worked ..)

/-! ## Orders -/

theorem State.holdOrder_worked (s : State) (c : HoldCause) : Worked s (s.holdOrder c) := by
  cases hs : s.pass.state <;> simp only [State.holdOrder, hs]
  case running => exact .pass s _ fun _ => by rw [hs]; rfl
  case approach => exact .pass s _ fun _ => by rw [hs]; rfl
  case held => exact .pass s _ fun _ => by rw [hs]; rfl
  all_goals exact .refl s

theorem State.exitFrom_worked (s : State) (h : HeadId) (k : ExitKind) : Worked s (s.exitFrom h k) := by
  cases hs : (s.head h).seq.state <;> simp only [State.exitFrom, hs]
  case waiting => exact s.stopHead_worked h
  case spinup => exact s.stopHead_worked h
  case plunge => exact s.enterExit_worked ..
  case dwell => exact s.enterExit_worked ..
  case traverse =>
    cases k
    · exact (s.carryLastSet_worked h).trans (State.enterExit_worked ..)
    · exact (s.carryLastSet_worked h).trans (State.enterExit_worked ..)
  all_goals exact .refl s

theorem State.exitOrder_worked (s : State) (h : HeadId) (k : ExitKind) : Worked s (s.exitOrder h k) := by
  unfold State.exitOrder
  exact .ite (((Worked.modSeq s h _ (.refl _ _)).trans (State.dropPending_worked ..)).trans
    (State.exitFrom_worked ..)) (.refl s)

theorem State.carryExit_worked (s : State) (h : HeadId) : Worked s (s.carryExit h) :=
  .ite (s.exitOrder_worked ..) (.refl s)

theorem State.exitAndCarry_worked (s : State) (h : HeadId) (k : ExitKind) : Worked s (s.exitAndCarry h k) :=
  .ite ((s.exitOrder_worked ..).trans (State.carryExit_worked ..)) (.refl s)

theorem State.exitEach_worked (s : State) : Worked s s.exitEach := by
  unfold State.exitEach
  exact .ite ((Worked.foldl (fun s h => State.exitOrder_worked s h _) _ s).trans
    (Worked.foldl (fun s h => State.carryExit_worked s h) _ _)) (.refl s)

theorem State.reseed_worked (s : State) : Worked s s.reseed :=
  .planner s _

theorem State.quickStopX_worked (s : State) : Worked s s.quickStopX :=
  (Worked.halted s true).trans (.ite (.refl _) ((Worked.planner _ _).trans (State.reseed_worked _)))

theorem State.quickStop_worked (s : State) : Worked s s.quickStop := by
  refine s.quickStopX_worked.trans ?_
  unfold State.quickStop
  dsimp only
  split
  · rename_i hm
    exact .toFault _ hm
  · exact .refl _

theorem State.enterWithdraw_worked (s : State) (h : HeadId) : Worked s (s.enterWithdraw h) := by
  unfold State.enterWithdraw
  have a : Worked s (if s.headState h = .traverse then s.carryLastSet h else s) :=
    .ite (s.carryLastSet_worked h) (.refl s)
  exact (a.trans (State.dropPending_worked ..)).trans (.modHead _ h _ rfl rfl (.refl _ _))

theorem State.haltHead_worked (s : State) (h : HeadId) : Worked s (s.haltHead h) := by
  unfold State.haltHead
  dsimp only
  split
  · exact .refl s
  · have a := Worked.modSeq s h (fun q => { q with order := .withdraw }) (.refl _ _)
    split
    · exact a.trans (State.enterWithdraw_worked ..)
    · split
      · exact a.trans (State.stopHead_worked ..)
      · exact a

theorem State.headHalt_worked (s : State) (h : HeadId) : Worked s (s.headHalt h) := by
  unfold State.headHalt
  split
  · have a := (s.quickStop_worked).trans (State.haltHead_worked _ h)
    dsimp only
    split
    · exact .ite (a.trans (State.haltHead_worked ..)) a
    · exact .ite (a.trans (State.holdOrder_worked ..)) a
  · exact .refl s

theorem State.haltAll_worked (s : State) : Worked s s.haltAll := by
  unfold State.haltAll
  exact .ite (s.quickStop_worked.trans (Worked.foldl (fun s h => s.haltHead_worked h) _ _)) (.refl s)

theorem State.guardOrder_worked (s : State) (g : GuardRecord) (v : Int) : Worked s (s.guardOrder g v) := by
  unfold State.guardOrder
  split
  · exact .refl s
  · exact .refl s
  · exact s.holdOrder_worked _
  · exact (s.faultOf_worked ..).trans (State.exitAndCarry_worked ..)
  · exact (s.faultOf_worked ..).trans (State.exitEach_worked _)
  · exact (s.faultOf_worked ..).trans (State.headHalt_worked ..)
  · exact (s.faultOf_worked ..).trans (State.haltAll_worked _)

theorem State.takeGuardTrip_worked (s : State) (i : Nat) (v : Int) : Worked s (s.takeGuardTrip i v) := by
  unfold State.takeGuardTrip
  split
  · exact (s.raise_worked ..).trans (State.guardOrder_worked ..)
  · exact .refl s

theorem State.takeCause_worked (s : State) (c : Cause) : Worked s (s.takeCause c) := by
  have a := s.setFired_worked c
  unfold State.takeCause
  cases c <;> refine a.trans ?_
  case guard => exact State.takeGuardTrip_worked ..
  case headStale => exact (State.faultOf_worked ..).trans (State.headHalt_worked ..)
  case saturation | holdLimit | spinupTimeout | startMissed | noContact =>
    exact (State.faultOf_worked ..).trans (State.exitAndCarry_worked ..)
  all_goals exact (State.faultOf_worked ..).trans (State.haltAll_worked _)

theorem State.takeCauses_worked (s : State) (cs : List Cause) : Worked s (s.takeCauses cs) :=
  (Worked.foldl State.takeCause_worked _ s).trans (State.testPassEnd_worked _)

/-! ## The head sequencer -/

theorem State.completeRecord_worked (s : State) (h : HeadId) : Worked s (s.completeRecord h) := by
  unfold State.completeRecord
  split
  · exact .refl s
  · rename_i r rest hq
    refine (Worked.modSeq s h _ ?_).trans (State.raise_worked ..)
    simp only [hq]
    exact .complete _ r rest

theorem State.raiseQueueLow_worked (s : State) (h : HeadId) (r : Segment) : Worked s (s.raiseQueueLow h r) :=
  .ite (s.raise_worked ..) (.refl s)

theorem State.countRepetition_worked (s : State) (h : HeadId) : Worked s (s.countRepetition h) :=
  .modSeq s h _ (by split <;> exact .refl _ _)

theorem repetitionLoop_worked (n : Nat) (h : HeadId) (s : State) : Worked s (repetitionLoop n h s) := by
  induction n generalizing s with
  | zero => exact .refl s
  | succ n ih => exact .ite ((s.countRepetition_worked h).trans (ih _)) (.refl s)

theorem State.countRepetitions_worked (s : State) (h : HeadId) : Worked s (s.countRepetitions h) := by
  unfold State.countRepetitions
  split
  · exact repetitionLoop_worked ..
  · exact .refl s

theorem State.enterExitRecord_worked (s : State) (h : HeadId) (k : ExitKind) (rate runOut : Int) :
    Worked s (s.enterExitRecord h k rate runOut) :=
  .ite (s.enterExit_worked ..) (s.enterExit_worked ..)

theorem State.fillTraverse_worked (s : State) (h : HeadId) (s0 : Int) (v : SegValues) :
    Worked s (s.fillTraverse h s0 v) :=
  .modSeq s h _ (.refl _ _)

theorem State.endShort_worked (s : State) (h : HeadId) (reps : Nat) (v : SegValues) :
    Worked s (s.endShort h reps v) :=
  (Worked.modSeq s h _ (.refl _ _)).trans (State.raise_worked ..)

theorem State.startTraverse_worked (s : State) (h : HeadId) (s0 : Int) (reps : Nat) (length : Int)
    (v : SegValues) : Worked s (s.startTraverse h s0 reps length v) :=
  (s.fillTraverse_worked h s0 v).trans
    (.ite (State.endShort_worked ..) (State.countRepetitions_worked ..))

theorem State.startRecord_worked (s : State) (h : HeadId) (e : Int) : Worked s (s.startRecord h e) := by
  unfold State.startRecord
  split
  · exact .refl s
  · rename_i r _ _
    cases r with
    | start => exact (Worked.modSeq s h _ (.refl _ _)).trans (State.raiseQueueLow_worked ..)
    | dwell => exact (Worked.modSeq s h _ (.refl _ _)).trans (State.raiseQueueLow_worked ..)
    | traverse => exact (s.startTraverse_worked ..).trans (State.raiseQueueLow_worked ..)
    | exit =>
      exact ((Worked.modSeq s h _ (.refl _ _)).trans (State.enterExitRecord_worked ..)).trans
        (State.raiseQueueLow_worked ..)

theorem State.starve_worked (s : State) (h : HeadId) : Worked s (s.starve h) :=
  (Worked.modProgress s h _).trans (State.raise_worked ..)

theorem finishRecord_worked (n : Nat) (h : HeadId) (s : State) : Worked s (finishRecord n h s) := by
  induction n generalizing s with
  | zero => exact .refl s
  | succ n ih =>
    unfold finishRecord
    split
    · exact s.starve_worked h
    · split
      · exact .refl s
      · have a := (s.completeRecord_worked h).trans (State.startRecord_worked _ h (s.head h).seq.endStation)
        exact .ite (a.trans (ih _)) a

theorem State.finishExecuting_worked (s : State) (h : HeadId) : Worked s (s.finishExecuting h) :=
  finishRecord_worked ..

theorem State.dwellEnd_worked (s : State) (h : HeadId) : Worked s (s.dwellEnd h) :=
  .ite ((Worked.modProgress s h _).trans (State.finishExecuting_worked ..)) (.refl s)

theorem State.repetitionEnd_worked (s : State) (h : HeadId) : Worked s (s.repetitionEnd h) := by
  unfold State.repetitionEnd
  have a := s.countRepetition_worked h
  exact .ite (.ite (a.trans (State.finishExecuting_worked ..)) a) (.refl s)

theorem State.completeAtRest_worked (s : State) (h : HeadId) : Worked s (s.completeAtRest h) :=
  .ite (s.finishExecuting_worked h) (.refl s)

theorem State.starvationEnd_worked (s : State) (h : HeadId) : Worked s (s.starvationEnd h) :=
  .ite ((Worked.modProgress s h _).trans (State.finishExecuting_worked ..)) (.refl s)

theorem State.takeAppendedStart_worked (s : State) (h : HeadId) : Worked s (s.takeAppendedStart h) :=
  .ite (s.startRecord_worked ..) (.refl s)

theorem State.startSpinup_worked (s : State) (h : HeadId) : Worked s (s.startSpinup h) := by
  unfold State.startSpinup
  exact .ite (((s.park_worked ..).trans (Worked.modSeq _ h _ (.refl _ _))).trans
    (.modHead _ h _ rfl rfl (.refl _ _))) (.refl s)

theorem State.atSpeed_worked (s : State) (h : HeadId) : Worked s (s.atSpeed h) :=
  .ite (.modHead s h _ rfl rfl (.refl _ _)) (.refl s)

theorem State.waitAgain_worked (s : State) (h : HeadId) : Worked s (s.waitAgain h) := by
  unfold State.waitAgain
  have a := (s.park_worked h .waiting).trans (State.dropExecuting_worked _ h)
  exact .ite (a.trans (State.raise_worked ..)) (a.trans (State.startRecord_worked ..))

theorem State.spindownEnd_worked (s : State) (h : HeadId) : Worked s (s.spindownEnd h) := by
  unfold State.spindownEnd
  split
  · dsimp only
    split
    · have a := s.completeRecord_worked h
      exact (Worked.ite (a.trans (State.stopHead_worked ..))
        (.ite (a.trans (State.finishHead_worked ..)) (a.trans (State.waitAgain_worked ..)))).trans
        (State.testPassEnd_worked _)
    · exact (Worked.ite (s.stopHead_worked h) (s.waitAgain_worked h)).trans (State.testPassEnd_worked _)
  · exact .refl s

theorem State.workSpinup_worked (s : State) (accepted : Bool) (h : HeadId) :
    Worked s (s.workSpinup accepted h) := by
  unfold State.workSpinup
  have a := Worked.modSeq s h (fun q => { q with spinupTimer := q.spinupTimer + 1 }) (.refl _ _)
  exact .ite ((a.trans (Worked.modSeq _ h _ (.refl _ _))).trans (State.atSpeed_worked ..)) a

theorem State.workDwell_worked (s : State) (accepted : Bool) (h : HeadId) :
    Worked s (s.workDwell accepted h) := by
  unfold State.workDwell
  exact .ite (.ite (s.starvationEnd_worked h) (.refl s))
    ((Worked.modProgress s h _).trans (State.dwellEnd_worked ..))

theorem State.workTraverse_worked (s : State) (accepted : Bool) (h : HeadId) :
    Worked s (s.workTraverse accepted h) := by
  unfold State.workTraverse
  have a := s.countRepetitions_worked h
  refine .ite (.ite (a.trans (State.finishExecuting_worked ..)) a)
    (.ite (.ite (s.starvationEnd_worked h) (.refl s)) ?_)
  cases (s.head h).seq.successor with
  | none => exact s.starve_worked h
  | some g =>
    cases g with
    | dwell => exact s.completeAtRest_worked h
    | _ => exact .ite (s.finishExecuting_worked h) (.refl s)

theorem State.workState_worked (s : State) (accepted : Bool) (h : HeadId) :
    Worked s (s.workState accepted h) := by
  cases hs : s.headState h <;> simp only [State.workState, hs]
  case waiting => exact s.startSpinup_worked h
  case spinup => exact s.workSpinup_worked ..
  case plunge => exact .ite (s.starvationEnd_worked h) (.refl s)
  case dwell => exact s.workDwell_worked ..
  case traverse => exact s.workTraverse_worked ..
  case spindown => exact .ite (s.spindownEnd_worked h) (.refl s)
  all_goals exact .refl s

theorem State.workHoldTimer_worked (s : State) (h : HeadId) : Worked s (s.workHoldTimer h) := by
  unfold State.workHoldTimer
  exact Worked.modSeq s h _ (.refl _ _)

theorem State.workSequencer_worked (s : State) (accepted : Bool) (h : HeadId) :
    Worked s (s.workSequencer accepted h) :=
  ((Worked.ite (s.takeAppendedStart_worked h) (.refl s)).trans (State.workState_worked ..)).trans
    (State.workHoldTimer_worked ..)

/-! ## Maps and the regulator -/

theorem State.formFence_worked (s : State) (h : HeadId) : Worked s (s.formFence h) := by
  unfold State.formFence
  exact Worked.modMap s h _ rfl

theorem State.formTargets_worked (s : State) (h : HeadId) : Worked s (s.formTargets h) :=
  .modHead s h _ rfl rfl (.refl _ _)

theorem State.regulate_worked (s : State) (h : HeadId) : Worked s (s.regulate h) := by
  unfold State.regulate
  exact (s.formTargets_worked h).trans (Worked.modReg ..)

theorem State.setDemand_worked (s : State) (h : HeadId) (d : Int) : Worked s (s.setDemand h d) :=
  .modReg s h _

theorem State.coastTargets_worked (s : State) (h : HeadId) : Worked s (s.coastTargets h) :=
  (s.formTargets_worked h).trans (State.setDemand_worked ..)

theorem State.takeContact_worked (s : State) (h : HeadId) : Worked s (s.takeContact h) :=
  .ite (.modReg s h _) (.refl s)

theorem State.seatComplete_worked (s : State) (h : HeadId) : Worked s (s.seatComplete h) :=
  .ite (s.finishExecuting_worked h) (.refl s)

theorem State.judgeSeat_worked (s : State) (h : HeadId) : Worked s (s.judgeSeat h) := by
  refine .modHead s h _ ?_ ?_ ?_ <;> dsimp only <;> split
  all_goals first
    | rfl
    | exact .refl _ _

theorem State.enterRetract_worked (s : State) (h : HeadId) : Worked s (s.enterRetract h) :=
  .modProgress s h _

theorem State.brakeEnd_worked (s : State) (h : HeadId) : Worked s (s.brakeEnd h) :=
  .ite (s.enterRetract_worked h) (.refl s)

theorem State.runoutEnd_worked (s : State) (h : HeadId) : Worked s (s.runoutEnd h) :=
  .ite (s.enterRetract_worked h) (.refl s)

theorem State.workRunout_worked (s : State) (h : HeadId) : Worked s (s.workRunout h) :=
  (s.setDemand_worked ..).trans (State.runoutEnd_worked ..)

theorem State.retractStep_worked (s : State) (h : HeadId) : Worked s (s.retractStep h) :=
  s.setDemand_worked ..

theorem State.retractEnd_worked (s : State) (h : HeadId) : Worked s (s.retractEnd h) :=
  .ite (s.park_worked ..) (.refl s)

theorem State.enterSpinstop_worked (s : State) (h : HeadId) : Worked s (s.enterSpinstop h) :=
  .ite (.modHead s h _ rfl rfl (.refl _ _)) (.refl s)

theorem State.withdrawStep_worked (s : State) (h : HeadId) : Worked s (s.withdrawStep h) :=
  (s.setDemand_worked ..).trans (State.enterSpinstop_worked ..)

theorem State.withdrawalEnd_worked (s : State) (h : HeadId) : Worked s (s.withdrawalEnd h) :=
  .ite ((s.stopHead_worked h).trans (State.testPassEnd_worked _)) (.refl s)

theorem State.formRamp_worked (s : State) (accepted : Bool) (h : HeadId) : Worked s (s.formRamp accepted h) := by
  cases hs : (s.head h).seq.state <;> simp only [State.formRamp, hs]
  case exit =>
    split
    · exact .ite (s.workRunout_worked h) (s.setDemand_worked ..)
    · exact s.retractStep_worked h
    · exact .ite ((s.brakeEnd_worked h).trans (State.retractStep_worked ..)) (.refl s)
  case withdraw =>
    split
    · exact s.withdrawStep_worked h
    · exact s.setDemand_worked ..
  case plunge => exact .refl s
  case dwell => exact .refl s
  case traverse => exact .refl s
  all_goals exact s.setDemand_worked ..

theorem State.workSeat_worked (s : State) (h : HeadId) : Worked s (s.workSeat h) := by
  have a := ((s.regulate_worked h).trans (State.judgeSeat_worked _ h)).trans (State.seatComplete_worked _ h)
  exact .ite (a.trans (State.formRamp_worked ..)) a

theorem State.workDescent_worked (s : State) (h : HeadId) : Worked s (s.workDescent h) :=
  .ite ((s.takeContact_worked h).trans (State.workSeat_worked ..))
    (.ite (s.setDemand_worked ..) (s.setDemand_worked ..))

theorem State.workRegulated_worked (s : State) (accepted : Bool) (h : HeadId) :
    Worked s (s.workRegulated accepted h) :=
  .ite (s.regulate_worked h) (s.coastTargets_worked h)

theorem State.workExit_worked (s : State) (accepted : Bool) (h : HeadId) : Worked s (s.workExit accepted h) := by
  unfold State.workExit
  split
  · exact s.formRamp_worked ..
  · exact .ite (s.retractEnd_worked h) (s.formRamp_worked ..)
  · exact .ite (s.formRamp_worked ..) (s.workRegulated_worked ..)

theorem State.workPhase_worked (s : State) (accepted : Bool) (h : HeadId) :
    Worked s (s.workPhase accepted h) := by
  cases hs : s.headState h <;> simp only [State.workPhase, hs]
  case plunge =>
    split
    · exact .ite (s.workDescent_worked h) (s.setDemand_worked ..)
    · exact .ite (s.workSeat_worked h) (s.coastTargets_worked h)
  case dwell => exact s.workRegulated_worked ..
  case traverse => exact s.workRegulated_worked ..
  case exit => exact s.workExit_worked ..
  case withdraw =>
    split
    · exact s.formRamp_worked ..
    · exact .ite ((s.formRamp_worked accepted h).trans (State.withdrawalEnd_worked ..)) (s.formRamp_worked ..)
  all_goals exact s.formRamp_worked ..

theorem State.workRegulator_worked (s : State) (accepted : Bool) (h : HeadId) :
    Worked s (s.workRegulator accepted h) :=
  (Worked.modReg s h _).trans (State.workPhase_worked ..)

theorem State.reformDemand_worked (s : State) (accepted : Bool) (before : State) (h : HeadId) :
    Worked s (s.reformDemand accepted before h) :=
  .ite (.refl s) (s.formRamp_worked ..)

theorem State.settleDemand_worked (s : State) (h : HeadId) : Worked s (s.settleDemand h) :=
  .modHead s h _ rfl rfl (.refl _ _)

/-! ## Trims, the planner and the guards -/

theorem State.workTrim_worked (s : State) (accepted : Bool) (h : HeadId) : Worked s (s.workTrim accepted h) := by
  unfold State.workTrim
  exact Worked.modHead s h _ rfl rfl (.refl _ _)

theorem State.formStation_worked (s : State) (h : HeadId) : Worked s (s.formStation h) := by
  unfold State.formStation
  exact Worked.modSeq s h _ (.refl _ _)

theorem State.setDatum_worked (s : State) : Worked s s.setDatum :=
  .ite (.pass s _ id) (.refl s)

theorem State.takeMarkEdge_worked (s : State) : Worked s s.takeMarkEdge :=
  ((s.setDatum_worked).trans (Worked.planner ..)).trans (State.raise_worked ..)

theorem State.markEdge_worked (s : State) : Worked s s.markEdge :=
  .ite ((Worked.planner s _).trans (State.takeMarkEdge_worked _)) (.refl s)

theorem State.sampleMark_worked (s : State) : Worked s s.sampleMark :=
  .ite (.planner s _) (.ite (.refl s) (.ite s.markEdge_worked (.planner s _)))

theorem State.followX_worked (s : State) (accepted : Bool) : Worked s (s.followX accepted) :=
  .planner s _

theorem State.reseedStart_worked (s : State) (accepted : Bool) : Worked s (s.reseedStart accepted) :=
  .ite s.reseed_worked (.refl s)

theorem State.beginPlanner_worked (s : State) (accepted : Bool) : Worked s (s.beginPlanner accepted) := by
  unfold State.beginPlanner
  have a := (s.followX_worked accepted).trans (State.reseedStart_worked _ accepted)
  exact ((Worked.ite (a.trans (State.sampleMark_worked _)) a).trans (State.formStation_worked ..)).trans
    (State.formStation_worked ..)

theorem State.endPlanner_worked (s : State) : Worked s s.endPlanner :=
  .ite ((Worked.planner s _).trans (State.testPassEnd_worked _)) (.planner s _)

theorem State.workNoContact_worked (s : State) (accepted : Bool) : Worked s (s.workNoContact accepted) := by
  unfold State.workNoContact
  exact .ite (((s.takeCauses_worked _).trans (State.reformDemand_worked ..)).trans (State.reformDemand_worked ..))
    (.refl s)

theorem State.workGuards_worked (s : State) (accepted : Bool) : Worked s (s.workGuards accepted) := by
  unfold State.workGuards
  dsimp only
  have a := s.disarmGuards_worked
  generalize s.disarmGuards = t at a ⊢
  have b : Worked s (if accepted = true then t.judgeGuards else t) := .ite (a.trans t.judgeGuards_worked) a
  generalize (if accepted = true then t.judgeGuards else t) = u at b ⊢
  exact ((((b.trans (State.takeCauses_worked ..)).trans (State.reformDemand_worked ..)).trans
    (State.reformDemand_worked ..)).trans (State.disarmGuards_worked _)).trans (State.dropFired_worked _)

/-! ## The pass controller -/

theorem State.stopEvery_worked (s : State) : Worked s s.stopEvery :=
  (Worked.foldl (fun s h => s.stopHead_worked h) _ s).trans (State.testPassEnd_worked _)

theorem State.toRunning_worked (s : State) (h : s.active = true) : Worked s s.toRunning :=
  (Worked.pass s _ fun _ => h).trans (State.reseed_worked _)

theorem State.faultBehind_worked (s : State) (h : HeadId) : Worked s (s.faultBehind h) :=
  s.takeFault_worked ..

theorem State.arrival_worked (s : State) : Worked s s.arrival := by
  unfold State.arrival
  split
  · rename_i hd
    have ha : s.active = true := by
      simp only [State.arrivalDue, Bool.and_eq_true, decide_eq_true_eq] at hd
      simp [State.active, PassState.active, hd.1.1.1.1]
    unfold State.arrive
    exact .ite ((s.faultOf_worked ..).trans (State.stopEvery_worked _))
      (.ite ((s.faultBehind_worked _).trans (State.stopEvery_worked _))
        (.ite ((s.faultBehind_worked _).trans (State.stopEvery_worked _)) (s.toRunning_worked ha)))
  · exact .refl s

theorem State.abortPass_worked (s : State) : Worked s s.abortPass :=
  (Worked.foldl (fun s h => s.exitOrder_worked h _) _ s).trans (State.testPassEnd_worked _)

theorem State.countLossHold_worked (s : State) : Worked s s.countLossHold.1 := by
  unfold State.countLossHold
  split
  · exact .pass s _ id
  · exact .refl s

theorem State.loseRing_worked (s : State) : Worked s s.loseRing.1 := by
  unfold State.loseRing
  split
  · split
    · exact .refl s
    · exact s.holdOrder_worked _
  · exact .refl s

/-! ## A whole set -/

theorem State.formOutputs_worked (s : State) : Worked s s.formOutputs :=
  { Worked.refl s with ring := rfl }

theorem State.openSet_worked (s : State) (accepted loss : Bool) : Worked s (s.openSet accepted loss) :=
  (s.takeCauses_worked _).trans (State.arrival_worked _)

theorem State.workHeads_worked (s : State) (accepted : Bool) : Worked s (s.workHeads accepted) :=
  ((((s.workSequencer_worked ..).trans (State.workSequencer_worked ..)).trans
    (State.workRegulator_worked ..)).trans (State.workRegulator_worked ..)).trans (State.workNoContact_worked ..)

theorem State.closeSet_worked (s : State) (accepted : Bool) : Worked s (s.closeSet accepted) :=
  ((((((((s.workTrim_worked ..).trans (State.workTrim_worked ..)).trans (State.settleDemand_worked ..)).trans
    (State.settleDemand_worked ..)).trans (State.formFence_worked ..)).trans (State.formFence_worked ..)).trans
    (State.endPlanner_worked _)).trans (State.disarmGuards_worked _)).trans (State.formOutputs_worked _)

theorem State.workSet_worked (s : State) (accepted loss : Bool) : Worked s (s.workSet accepted loss) :=
  ((((s.openSet_worked ..).trans (State.workHeads_worked ..)).trans (State.workGuards_worked ..)).trans
    (State.handCaps_worked ..)).trans (State.closeSet_worked ..)

/-- All that the work of a sample set can do. -/
theorem State.sampleSet_worked (s : State) : Worked s s.sampleSet :=
  (s.beginPlanner_worked true).trans (State.workSet_worked ..)

/-- All that the work of a coast set can do. -/
theorem State.coastSet_worked (s : State) (lost : Bool) : Worked s (s.coastSet lost) := by
  unfold State.coastSet
  have a := (s.beginPlanner_worked false).trans (State.countLossHold_worked _)
  cases lost
  · exact a.trans (State.workSet_worked ..)
  · exact (a.trans (State.loseRing_worked _)).trans (State.workSet_worked ..)

end Sys2Proof.Machine
end

