-- ==== Sys2Proof/Laws/Service.lean ====
section
/-! SUPPORT. What serving a request does, said once: which command asks which request, what its reply leaves behind,
and what every request leaves as it stands. -/

namespace Sys2Proof.Machine

open Sys2Proof.Safety

/-- A command that asks a request runs it (R169). -/
theorem exec_asked {c : Instr} {k : RequestKind} {r : Request} (h : asked c = some (k, r)) (s : State) :
    exec c s = .next (s.request k r) := by
  cases c <;> first
    | (simp only [asked, Option.some.injEq, Prod.mk.injEq] at h; obtain ⟨rfl, rfl⟩ := h; rfl)
    | (simp only [asked, reduceCtorEq] at h)

/-- A node that does not serve sends the area on (R169). -/
theorem State.request_passed {s : State} (h : s.serving = false) (k : RequestKind) (r : Request) :
    s.request k r = { s with port := { s.port with reply := none, area := none } } := by
  simp [State.request, h, State.passArea]

/-- The answer of a request of a node that serves: checks 1 and 2 of R170, then the request's own. -/
def State.checkedAnswer (s : State) (k : RequestKind) (r : Request) : Answer :=
  if k.lengthOk r.length.toNat then k.answer s r else s.refuse .value

/-- What a served request leaves: a read its reply alone, another request the last reply record as well (R171,
R172). -/
theorem State.request_served {s : State} (h : s.serving = true) (k : RequestKind) (r : Request) :
    s.request k r =
      if k.reads then
        readReply (s.checkedAnswer k r).state k r (s.checkedAnswer k r).reply.code (s.checkedAnswer k r).reply.data
      else replied (s.checkedAnswer k r).state k r (s.checkedAnswer k r).reply.code
        (s.checkedAnswer k r).reply.data := by
  simp only [State.request, h, State.serve, State.answerRequest, ite_true]
  cases k.reads <;> rfl

/-- The supply state, the lines, the ring connection and the commands waiting, which no request touches. -/
structure SameNode (s t : State) : Prop where
  power   : t.power = s.power
  lines   : t.lines = s.lines
  port    : t.port = s.port
  pending : t.pending = s.pending

theorem SameNode.refl (s : State) : SameNode s s := ⟨rfl, rfl, rfl, rfl⟩

theorem SameNode.trans {s t u : State} (a : SameNode s t) (b : SameNode t u) : SameNode s u :=
  ⟨b.power.trans a.power, b.lines.trans a.lines, b.port.trans a.port, b.pending.trans a.pending⟩

theorem Worked.sameNode {s t : State} (w : Worked s t) : SameNode s t :=
  ⟨w.power, w.lines, w.port, w.pending⟩

theorem State.startHead_worked (s : State) (h : HeadId) : Worked s (s.startHead h) := by
  unfold State.startHead
  have a := Worked.modSeq s h (fun q => { q with order := .none, faultExit := false }) (.refl _ _)
  exact .ite (((a.trans (State.park_worked ..)).trans (State.dropExecuting_worked ..)).trans
    (State.startRecord_worked ..)) ((a.trans (State.park_worked ..)).trans (State.dropExecuting_worked ..))

theorem State.setApproach_worked (s : State) : Worked s s.setApproach := by
  unfold State.setApproach
  split
  · exact .pass s _ id
  · exact .refl s

/-- PASS START fills the pass record; all that follows is the work of the blocks (R4). -/
theorem State.startPass_worked (s : State) (o : PassOrder) :
    Worked { s with pass := o.record } (s.startPass o) := by
  unfold State.startPass
  exact ((((((State.startHead_worked _ .a).trans (State.startHead_worked _ .b)).trans
    (State.setApproach_worked _)).trans (State.reseed_worked _)).trans
    ((Worked.modTrim ..).trans (Worked.modTrim ..))).trans (State.clearLatched_worked ..)).trans
    (State.clearFired_worked _)

theorem State.startPass_sameNode (s : State) (o : PassOrder) : SameNode s (s.startPass o) :=
  SameNode.trans (t := { s with pass := o.record }) ⟨rfl, rfl, rfl, rfl⟩ (s.startPass_worked o).sameNode

theorem putGuards_sameNode (k : Nat) (gs : List GuardRecord) (s : State) : SameNode s (putGuards k gs s) := by
  induction gs generalizing k s with
  | nil => exact .refl s
  | cons g gs ih => exact SameNode.trans (t := s.putGuard k g) ⟨rfl, rfl, rfl, rfl⟩ (ih (k + 1) _)

theorem State.refuseFence_sameNode (s : State) (h : HeadId) (k : Nat) : SameNode s (s.refuseFence h k) :=
  ((Worked.modMap s h _ rfl).trans (State.raise_worked ..)).sameNode

theorem completeStream_sameNode (s : State) (c : Stream) (records : List (List Byte)) :
    SameNode s (completeStream s c records).state := by
  unfold completeStream applySegments applyPoints applyGuards
  dsimp only
  repeat' split
  all_goals first
    | exact ⟨rfl, rfl, rfl, rfl⟩
    | exact SameNode.trans (t := s.closeStream) ⟨rfl, rfl, rfl, rfl⟩ (State.refuseFence_sameNode ..)
    | exact SameNode.trans (t := s.closeStream) ⟨rfl, rfl, rfl, rfl⟩ (putGuards_sameNode ..)
    | (constructor <;> simp [State.done, State.closeStream])

/-- Every request leaves the supply state, the lines, the ring connection and the commands waiting as they are. -/
theorem answer_sameNode (k : RequestKind) (s : State) (r : Request) : SameNode s (k.answer s r).state := by
  cases k <;> simp only [RequestKind.answer]
  case streamData =>
    unfold answerStreamData
    dsimp only
    repeat' split
    all_goals first
      | exact ⟨rfl, rfl, rfl, rfl⟩
      | exact completeStream_sameNode ..
  case passStart =>
    unfold answerPassStart
    repeat' split
    all_goals first
      | exact ⟨rfl, rfl, rfl, rfl⟩
      | exact State.startPass_sameNode ..
  case passHold =>
    unfold answerPassHold
    repeat' split
    all_goals first
      | exact ⟨rfl, rfl, rfl, rfl⟩
      | exact (State.holdOrder_worked ..).sameNode
  case passAbort =>
    unfold answerPassAbort
    repeat' split
    all_goals first
      | exact ⟨rfl, rfl, rfl, rfl⟩
      | exact (State.abortPass_worked ..).sameNode
  case writeRecord =>
    unfold answerWriteRecord answerWriteSegment answerWriteMap answerWriteMapHeader answerWriteGuard
      answerWriteGantry answerWriteHeadProfile answerWriteSlotMap State.onHead State.ofLength writePoint writeHeader
      writeGuard writeGantry writePage writeSlot
    dsimp only
    repeat' split
    all_goals first
      | exact ⟨rfl, rfl, rfl, rfl⟩
      | exact State.refuseFence_sameNode ..
      | (constructor <;> simp [State.done])
  case readRecord =>
    unfold answerReadRecord State.onHead readSegmentRecord readMapRecord readGuardRecord readGantryRecord
      readPageRecord readSlotRecord
    dsimp only
    repeat' split
    all_goals exact ⟨rfl, rfl, rfl, rfl⟩
  case appendSegment =>
    unfold answerAppend State.onHead appendRecord
    dsimp only
    repeat' split
    all_goals first
      | exact ⟨rfl, rfl, rfl, rfl⟩
      | (constructor <;> simp [State.done, State.append])
  case cancelPending =>
    unfold answerCancel State.onHead State.cancel
    dsimp only
    repeat' split
    all_goals first
      | exact ⟨rfl, rfl, rfl, rfl⟩
      | (constructor <;> simp [State.done, State.dropPending])
  all_goals
    first
      | unfold answerReadStatus
      | unfold answerStreamOpen
      | unfold answerStreamCancel
      | unfold answerPassResume
      | unfold answerEnterReady
      | unfold answerEnterConfig
      | unfold answerTakeEvent
      | unfold answerSetEventMask
      | unfold answerClearFault
      | unfold answerResetNode
    repeat' first
      | split
      | dsimp only
    all_goals exact ⟨rfl, rfl, rfl, rfl⟩

end Sys2Proof.Machine
end

