-- ==== Sys2Proof/Laws/Keeps.lean ====
section
/-! SUPPORT. A property of the state that every part of a command keeps is kept by every command and every step:
the induction over the commands, done once. -/

namespace Sys2Proof.Machine

open Sys2Proof.Safety

/-- Every part of a command keeps the property `P`. -/
structure Kept (P : State → Prop) : Prop where
  worked   : ∀ s t, Worked s t → P s → P t
  power    : ∀ s p, P s → P { s with power := p }
  port     : ∀ s p, P s → P { s with port := p }
  pending  : ∀ s l, P s → P { s with pending := l }
  reply    : ∀ s l, P s → P { s with service := { s.service with lastReply := l } }
  powerOn  : ∀ straps, P (State.powerOn straps)
  reset    : ∀ s straps p, P s → P (s.afterReset straps p)
  answer   : ∀ k s r, P s → P (RequestKind.answer k s r).state
  bad      : ∀ s, P s → P s.refuseBad
  short    : ∀ s, P s → P s.refuseShort
  early    : ∀ s, P s → P { s with ring := { s.ring with early := countUp 65535 s.ring.early } }
  accepted : ∀ s now pins, P s → P (s.countAccepted now pins)
  samples  : ∀ s captured, P s → P { s with ring := s.ring.takeSamples captured }
  missed   : ∀ s due tc stop, P s → P (s.countMiss due tc stop)
  lost     : ∀ s, P s → P { s with ring := { s.ring with state := .lost } }
  idle     : ∀ s c, s.service.stream = some c → P s →
    P { s with service := { s.service with stream := some { c with idle := countUp 65535 c.idle } } }
  close    : ∀ s, P s → P s.closeStream

namespace Kept

variable {P : State → Prop} (k : Kept P)
include k

theorem raised {s : State} (e : EventKind) (detail : Nat) (h : P s) : P (s.raise e detail) :=
  k.worked _ _ (State.raise_worked ..) h

theorem lostRing {s : State} (h : P s) : P s.markLost :=
  k.raised _ _ (k.lost s h)

theorem checked {s : State} (q : RequestKind) (r : Request) (h : P s) : P (s.checkedAnswer q r).state := by
  unfold State.checkedAnswer
  split
  · exact k.answer _ _ _ h
  · exact h

theorem answeredRequest {s : State} (q : RequestKind) (r : Request) (h : P s) : P (s.answerRequest q r).state := by
  have a := k.checked q r h
  unfold State.checkedAnswer at a
  unfold State.answerRequest
  dsimp only
  split
  · exact a
  · exact k.reply _ _ a

theorem serveCode {s : State} (code : BitVec 8) (r : Request) (h : P s) : P (s.serveCode code r) := by
  unfold State.serveCode
  split
  · exact k.port _ _ (k.answeredRequest _ _ h)
  · exact k.port _ _ (k.reply _ _ h)

theorem request {s : State} (q : RequestKind) (r : Request) (h : P s) : P (s.request q r) := by
  unfold State.request
  split
  · exact k.port _ _ (k.answeredRequest _ _ h)
  · exact k.port _ _ h

theorem requestUnknown {s : State} (code : BitVec 8) (r : Request) (h : P s) : P (s.requestUnknown code r) := by
  unfold State.requestUnknown
  split
  · exact k.port _ _ (k.reply _ _ h)
  · exact k.port _ _ h

theorem carryFrame {s : State} (f : Frame) (h : P s) : P (s.carryFrame f) := by
  refine k.port _ _ ?_
  unfold State.serveArea
  dsimp only
  split
  · exact k.serveCode _ _ h
  · exact k.port _ _ h

theorem expireStream {s : State} (h : P s) : P s.expireStream := by
  unfold State.expireStream
  split
  · exact k.raised _ _ (k.close s h)
  · exact h

theorem countIdle {s : State} (h : P s) : P s.countIdle := by
  unfold State.countIdle
  split
  · rename_i c hc
    exact k.expireStream (k.idle s c hc h)
  · exact h

theorem restoreRing {s : State} (misses : Nat) (h : P s) : P (s.restoreRing misses) :=
  k.worked _ _ ((State.raise_worked ..).trans (.pass _ _ id)) h

theorem acceptFrame {s : State} (payload : List Byte) (now : Nat) (pins : Pins) (h : P s) :
    P (s.acceptFrame payload now pins) := by
  have a := k.samples _ (captureInputs s.inForce payload) (k.accepted s now pins h)
  unfold State.acceptFrame
  dsimp only
  refine k.worked _ _ (State.sampleSet_worked _) (k.countIdle ?_)
  split
  · exact k.restoreRing _ a
  · exact a

theorem testFrame {s : State} (f : PassingFrame) (now : Nat) (pins : Pins) (h : P s) :
    P (s.testFrame f now pins) := by
  unfold State.testFrame
  split
  · exact k.bad s h
  · split
    · exact k.short s h
    · split
      · exact k.raised _ _ (k.early s h)
      · exact k.acceptFrame _ _ _ h

theorem completeFrame {s : State} (now : Nat) (pins : Pins) (h : P s) : P (s.completeFrame now pins) := by
  unfold State.completeFrame
  split
  · exact k.reset _ _ _ h
  · split
    · exact k.testFrame _ _ _ (k.port _ _ h)
    · exact h

theorem expireWindow {s : State} (stop : Bool) (h : P s) : P (s.expireWindow stop) := by
  unfold State.expireWindow
  split
  · rename_i due t _ _
    have a := k.missed s due t.tc stop h
    dsimp only
    refine k.worked _ _ (State.coastSet_worked _ _) (k.countIdle ?_)
    split
    · exact k.lostRing a
    · exact a
  · exact h

theorem ringLoss {s : State} (h : P s) : P s.ringLoss := by
  unfold State.ringLoss
  split
  · have a := k.worked _ _ (State.loseRing_worked s.markLost) (k.lostRing h)
    dsimp only
    split
    · exact k.worked _ _ ((State.takeCause_worked ..).trans (State.testPassEnd_worked _)) a
    · exact a
  · exact h

/-- An event of the blocks works the state it is judged on. -/
theorem happened {s t : State} (w : Worked s t) (h : P s) : P (s.ifRunning t) := by
  unfold State.ifRunning
  split
  · exact k.worked _ _ w h
  · exact h

omit k in
theorem ifRunning {s t : State} (h : P s) (h' : P t) : P (s.ifRunning t) := by
  unfold State.ifRunning
  split
  · exact h'
  · exact h

/-- Every command keeps the property. -/
theorem exec {c : Instr} {s t : State} (h : P s) (e : Machine.exec c s = .next t) : P t := by
  cases hc : asked c with
  | some kr =>
    rw [exec_asked hc] at e
    cases e
    exact k.request _ _ h
  | none =>
    cases c <;> simp only [asked, reduceCtorEq] at hc <;> obtain rfl := Host.Outcome.next.inj e
    case powerOn => exact k.pending _ _ (k.powerOn _)
    case supplyLoss => exact k.port _ _ (k.power _ _ h)
    case resetLine =>
      split
      · exact k.port _ _ (k.power _ _ h)
      · exact h
    case resetNegated =>
      split
      · exact k.reset _ _ _ h
      · exact h
    case startTime =>
      split
      · exact k.power _ _ h
      · exact h
    case cycleFrame =>
      split
      · exact k.carryFrame _ h
      · exact k.port _ _ h
    case frameCompletion => exact Kept.ifRunning h (k.completeFrame _ _ h)
    case cycleWindowExpiry => exact Kept.ifRunning h (k.expireWindow _ h)
    case ringLost => exact Kept.ifRunning h (k.ringLoss h)
    case streamExpired => exact Kept.ifRunning h (k.expireStream h)
    case unknownRequest => exact k.requestUnknown _ _ h
    all_goals refine k.happened ?_ h
    case filteredMarkEdge => exact State.markEdge_worked _
    case arrival => exact State.arrival_worked _
    case spinupStart => exact State.startSpinup_worked ..
    case atSpeed => exact State.atSpeed_worked ..
    case contact => exact State.takeContact_worked ..
    case seatComplete => exact State.seatComplete_worked ..
    case dwellEnd => exact State.dwellEnd_worked ..
    case repetitionEnd => exact State.repetitionEnd_worked ..
    case traverseCompletesAtRest => exact State.completeAtRest_worked ..
    case starvationEnd => exact State.starvationEnd_worked ..
    case appendedStartTaken => exact State.takeAppendedStart_worked ..
    case brakeEnd => exact State.brakeEnd_worked ..
    case runoutEnd => exact State.runoutEnd_worked ..
    case retractEnd => exact State.retractEnd_worked ..
    case spindownEnd => exact State.spindownEnd_worked ..
    case spinstop => exact State.enterSpinstop_worked ..
    case withdrawalEnd => exact State.withdrawalEnd_worked ..
    case passEnd => exact State.testPassEnd_worked ..
    all_goals exact .ite ((State.takeCause_worked ..).trans (State.testPassEnd_worked _)) (.refl _)

/-- Every step keeps the property. -/
theorem step {s t : State} (h : P s) (e : Machine.step s = .next t) : P t := by
  unfold Machine.step at e
  split at e
  · cases e
    exact h
  · exact k.exec (k.pending _ _ h) e

end Kept

end Sys2Proof.Machine
end

