-- ==== Sys2Proof/Laws/PerInstr.lean ====
section
/-! SUPPORT. What holds of each command as syntax, one lemma for each constructor. -/

namespace Sys2Proof.Laws

/-- A well-formed command that carries a service area carries the 52 bytes of request data whole (R191). -/
def CarriesArea.Statement (i : Instr) : Prop :=
  ∀ r, i.request? = some r → i.wellFormed = true → r.payload.length = 52

/-- The request data of a request that is whole. -/
theorem whole_length {r : Request} (h : r.whole = true) : r.payload.length = 52 := by
  simpa [Request.whole] using h

/-- The request data of a WRITE RECORD row that names its table. -/
theorem names_length {r : Request} {t : Nat} (h : r.names t = true) : r.payload.length = 52 := by
  simp only [Request.names, Bool.and_eq_true] at h
  exact whole_length h.1

theorem CarriesArea.powerOn (straps : BitVec 6) : CarriesArea.Statement (.powerOn straps) := by
  intro r h
  simp [Instr.request?] at h

theorem CarriesArea.supplyLoss : CarriesArea.Statement (.supplyLoss) := by
  intro r h
  simp [Instr.request?] at h

theorem CarriesArea.resetLine (pulse : ResetPulse) : CarriesArea.Statement (.resetLine pulse) := by
  intro r h
  simp [Instr.request?] at h

theorem CarriesArea.resetNegated (straps : BitVec 6) : CarriesArea.Statement (.resetNegated straps) := by
  intro r h
  simp [Instr.request?] at h

theorem CarriesArea.startTime : CarriesArea.Statement (.startTime) := by
  intro r h
  simp [Instr.request?] at h

theorem CarriesArea.cycleFrame (f : Frame) : CarriesArea.Statement (.cycleFrame f) := by
  intro r h
  simp [Instr.request?] at h

theorem CarriesArea.frameCompletion (now : Nat) (pins : Pins) : CarriesArea.Statement (.frameCompletion now pins) := by
  intro r h
  simp [Instr.request?] at h

theorem CarriesArea.cycleWindowExpiry (stop : Bool) : CarriesArea.Statement (.cycleWindowExpiry stop) := by
  intro r h
  simp [Instr.request?] at h

theorem CarriesArea.ringLost : CarriesArea.Statement (.ringLost) := by
  intro r h
  simp [Instr.request?] at h

theorem CarriesArea.holdWindowReached : CarriesArea.Statement (.holdWindowReached) := by
  intro r h
  simp [Instr.request?] at h

theorem CarriesArea.streamExpired : CarriesArea.Statement (.streamExpired) := by
  intro r h
  simp [Instr.request?] at h

theorem CarriesArea.readStatus (r : Request) : CarriesArea.Statement (.readStatus r) := by
  intro q h w
  cases h
  exact whole_length w

theorem CarriesArea.readRecord (r : Request) : CarriesArea.Statement (.readRecord r) := by
  intro q h w
  cases h
  exact whole_length w

theorem CarriesArea.writeRecordSegment (r : Request) : CarriesArea.Statement (.writeRecordSegment r) := by
  intro q h w
  cases h
  exact names_length w

theorem CarriesArea.writeRecordMap (r : Request) : CarriesArea.Statement (.writeRecordMap r) := by
  intro q h w
  cases h
  exact names_length (by simp only [Instr.wellFormed, Bool.and_eq_true] at w; exact w.1)

theorem CarriesArea.writeRecordMapHeader (r : Request) : CarriesArea.Statement (.writeRecordMapHeader r) := by
  intro q h w
  cases h
  exact names_length (by simp only [Instr.wellFormed, Bool.and_eq_true] at w; exact w.1)

theorem CarriesArea.writeRecordGuard (r : Request) : CarriesArea.Statement (.writeRecordGuard r) := by
  intro q h w
  cases h
  exact names_length w

theorem CarriesArea.writeRecordGantryProfile (r : Request) : CarriesArea.Statement (.writeRecordGantryProfile r) := by
  intro q h w
  cases h
  exact names_length w

theorem CarriesArea.writeRecordHeadProfile (r : Request) : CarriesArea.Statement (.writeRecordHeadProfile r) := by
  intro q h w
  cases h
  exact names_length w

theorem CarriesArea.writeRecordSlotMap (r : Request) : CarriesArea.Statement (.writeRecordSlotMap r) := by
  intro q h w
  cases h
  exact names_length w

theorem CarriesArea.appendSegment (r : Request) : CarriesArea.Statement (.appendSegment r) := by
  intro q h w
  cases h
  exact whole_length w

theorem CarriesArea.cancelPending (r : Request) : CarriesArea.Statement (.cancelPending r) := by
  intro q h w
  cases h
  exact whole_length w

theorem CarriesArea.streamOpen (r : Request) : CarriesArea.Statement (.streamOpen r) := by
  intro q h w
  cases h
  exact whole_length w

theorem CarriesArea.streamData (r : Request) : CarriesArea.Statement (.streamData r) := by
  intro q h w
  cases h
  exact whole_length w

theorem CarriesArea.streamCancel (r : Request) : CarriesArea.Statement (.streamCancel r) := by
  intro q h w
  cases h
  exact whole_length w

theorem CarriesArea.passStart (r : Request) : CarriesArea.Statement (.passStart r) := by
  intro q h w
  cases h
  exact whole_length w

theorem CarriesArea.passHold (r : Request) : CarriesArea.Statement (.passHold r) := by
  intro q h w
  cases h
  exact whole_length w

theorem CarriesArea.passResume (r : Request) : CarriesArea.Statement (.passResume r) := by
  intro q h w
  cases h
  exact whole_length w

theorem CarriesArea.passAbort (r : Request) : CarriesArea.Statement (.passAbort r) := by
  intro q h w
  cases h
  exact whole_length w

theorem CarriesArea.enterReady (r : Request) : CarriesArea.Statement (.enterReady r) := by
  intro q h w
  cases h
  exact whole_length w

theorem CarriesArea.enterConfig (r : Request) : CarriesArea.Statement (.enterConfig r) := by
  intro q h w
  cases h
  exact whole_length w

theorem CarriesArea.clearFault (r : Request) : CarriesArea.Statement (.clearFault r) := by
  intro q h w
  cases h
  exact whole_length w

theorem CarriesArea.takeEvent (r : Request) : CarriesArea.Statement (.takeEvent r) := by
  intro q h w
  cases h
  exact whole_length w

theorem CarriesArea.setEventMask (r : Request) : CarriesArea.Statement (.setEventMask r) := by
  intro q h w
  cases h
  exact whole_length w

theorem CarriesArea.resetNode (r : Request) : CarriesArea.Statement (.resetNode r) := by
  intro q h w
  cases h
  exact whole_length w

theorem CarriesArea.unknownRequest (code : BitVec 8) (r : Request) : CarriesArea.Statement (.unknownRequest code r) := by
  intro q h w
  cases h
  exact whole_length (by simp only [Instr.wellFormed, Bool.and_eq_true] at w; exact w.1)

theorem CarriesArea.filteredMarkEdge : CarriesArea.Statement (.filteredMarkEdge) := by
  intro r h
  simp [Instr.request?] at h

theorem CarriesArea.arrival : CarriesArea.Statement (.arrival) := by
  intro r h
  simp [Instr.request?] at h

theorem CarriesArea.spinupStart (h : HeadId) : CarriesArea.Statement (.spinupStart h) := by
  intro r h
  simp [Instr.request?] at h

theorem CarriesArea.atSpeed (h : HeadId) : CarriesArea.Statement (.atSpeed h) := by
  intro r h
  simp [Instr.request?] at h

theorem CarriesArea.spinupTimeout (h : HeadId) : CarriesArea.Statement (.spinupTimeout h) := by
  intro r h
  simp [Instr.request?] at h

theorem CarriesArea.contact (h : HeadId) : CarriesArea.Statement (.contact h) := by
  intro r h
  simp [Instr.request?] at h

theorem CarriesArea.noContact (h : HeadId) : CarriesArea.Statement (.noContact h) := by
  intro r h
  simp [Instr.request?] at h

theorem CarriesArea.seatComplete (h : HeadId) : CarriesArea.Statement (.seatComplete h) := by
  intro r h
  simp [Instr.request?] at h

theorem CarriesArea.dwellEnd (h : HeadId) : CarriesArea.Statement (.dwellEnd h) := by
  intro r h
  simp [Instr.request?] at h

theorem CarriesArea.repetitionEnd (h : HeadId) : CarriesArea.Statement (.repetitionEnd h) := by
  intro r h
  simp [Instr.request?] at h

theorem CarriesArea.traverseCompletesAtRest (h : HeadId) : CarriesArea.Statement (.traverseCompletesAtRest h) := by
  intro r h
  simp [Instr.request?] at h

theorem CarriesArea.starvationEnd (h : HeadId) : CarriesArea.Statement (.starvationEnd h) := by
  intro r h
  simp [Instr.request?] at h

theorem CarriesArea.appendedStartTaken (h : HeadId) : CarriesArea.Statement (.appendedStartTaken h) := by
  intro r h
  simp [Instr.request?] at h

theorem CarriesArea.brakeEnd (h : HeadId) : CarriesArea.Statement (.brakeEnd h) := by
  intro r h
  simp [Instr.request?] at h

theorem CarriesArea.runoutEnd (h : HeadId) : CarriesArea.Statement (.runoutEnd h) := by
  intro r h
  simp [Instr.request?] at h

theorem CarriesArea.retractEnd (h : HeadId) : CarriesArea.Statement (.retractEnd h) := by
  intro r h
  simp [Instr.request?] at h

theorem CarriesArea.spindownEnd (h : HeadId) : CarriesArea.Statement (.spindownEnd h) := by
  intro r h
  simp [Instr.request?] at h

theorem CarriesArea.spinstop (h : HeadId) : CarriesArea.Statement (.spinstop h) := by
  intro r h
  simp [Instr.request?] at h

theorem CarriesArea.withdrawalEnd (h : HeadId) : CarriesArea.Statement (.withdrawalEnd h) := by
  intro r h
  simp [Instr.request?] at h

theorem CarriesArea.passEnd : CarriesArea.Statement (.passEnd) := by
  intro r h
  simp [Instr.request?] at h

theorem CarriesArea.holdLimit (h : HeadId) : CarriesArea.Statement (.holdLimit h) := by
  intro r h
  simp [Instr.request?] at h

theorem CarriesArea.saturation (h : HeadId) : CarriesArea.Statement (.saturation h) := by
  intro r h
  simp [Instr.request?] at h

theorem CarriesArea.headStale (h : HeadId) : CarriesArea.Statement (.headStale h) := by
  intro r h
  simp [Instr.request?] at h

theorem CarriesArea.xStale : CarriesArea.Statement (.xStale) := by
  intro r h
  simp [Instr.request?] at h

end Sys2Proof.Laws
end

