-- ==== Sys2Proof/Tests/Slice0.lean ====
section
/-! SUPPORT. Tests: an ill-formed command for each check of well-formedness, worked cases of the manual, and for each
statement that has hypotheses a concrete state and operands that meet them, clause by clause at boundary values. -/

open Sys2Proof Sys2Proof.Machine Sys2Proof.Safety

namespace Sys2Proof.Tests

/-! ## Helpers -/

/-- Request data of 52 bytes from its first bytes. -/
def payload (bytes : List Nat) : List Byte :=
  bytes.map (BitVec.ofNat 8) ++ List.replicate (52 - bytes.length) 0

/-- A request by length, table, head, index and its first bytes. -/
def req (length : Nat) (table : Nat := 0) (head : Nat := 0) (index : Nat := 0) (bytes : List Nat := []) : Request :=
  ⟨7, BitVec.ofNat 8 length, BitVec.ofNat 8 table, BitVec.ofNat 8 head, BitVec.ofNat 16 index, payload bytes⟩

/-- A ready node in CONFIG. -/
def config : State := { State.reset with power := .running }

/-- A ready node in READY with both heads present and the STOP line negated. -/
def ready : State := { config with
  service := { config.service with mode := .ready }
  gantry := { config.gantry with present := .both }
  lines := { config.lines with stop := false }
  inForce := some config.slotMap }

def startA : Segment := .start 1000 800 5000 5000
def dwellA : Segment := .dwell 200 20000
def traverseA : Segment := .traverse 2 500000 24000 12000 1100 5200
def exitA (last : Bool) : Segment := .exit last .inPlace 0 0

/-- A sequencer with an executing record. -/
def seqIn (st : HeadState) (queue : List Segment) : Sequencer :=
  { Sequencer.initial with state := st, executing := true, queue := queue }

/-- A READY node with a pass of head A. -/
def inPass (p : PassState) (seq : Sequencer) : State := { ready with
  pass := { ready.pass with heads := .a, state := p, datumValid := true }
  headA := { ready.headA with seq := seq } }

/-- An event pending. -/
def event (k : EventKind) (count : Nat) : EventEntry := ⟨k, count, 0, 0⟩

/-! ## Well-formedness -/

theorem test_refuses_short_payload : (Instr.readStatus { req 0 with payload := [] }).wellFormed = false := by decide
theorem test_refuses_other_table : (Instr.writeRecordGuard (req 16 1)).wellFormed = false := by decide
theorem test_refuses_header_as_point : (Instr.writeRecordMap (req 8 1 0 65535)).wellFormed = false := by decide
theorem test_refuses_point_as_header : (Instr.writeRecordMapHeader (req 10 1 0 5)).wellFormed = false := by decide
theorem test_refuses_known_code : (Instr.unknownRequest 18 (req 0)).wellFormed = false := by decide
theorem test_takes_unknown_code : (Instr.unknownRequest 19 (req 0)).wellFormed = true := by decide

/-! ## The queue and the table -/

theorem test_no_word_spells_a_command : decodeTableWord 16 0 = none := by decide
theorem test_unspelt_word_leaves_the_state : State.reset.withFetchWord 16 3 = State.reset := by decide
theorem test_step_takes_the_front :
    ∃ t, step { State.reset with pending := [.startTime, .supplyLoss] } = .next t ∧ t.power = .running ∧
      t.pending = [.supplyLoss] := ⟨_, rfl, rfl, rfl⟩

/-! ## Worked cases of the manual -/

/-- 3.13. -/
theorem test_isqrt : isqrt 410000000 = 20248 ∧ isqrt 398000000 = 19949 ∧ isqrt 396000000 = 19899 := by decide
/-- 3.13, R64. -/
theorem test_ramp : ramp 50 50 20000 19949 = 19950 ∧ ramp 50 50 30 (-100) = 0 ∧ rampStep 1000 500 = 1 := by decide

/-- The map of 6.2.1. -/
def map621 : List MapPoint := [⟨1000000, 1000, 0⟩, ⟨1000400, 1001, -3⟩, ⟨1400000, 1010, 40⟩, ⟨1600000, 1030, 80⟩]
theorem test_lookup_between : lookup map621 1000100 = (1000, -1) ∧ lookup map621 1000200 = (1001, -2) := by decide
theorem test_lookup_ends : lookup map621 950000 = (1000, 0) ∧ lookup map621 2300000 = (1030, 80) := by decide

/-- The map of 6.8, with the fence at 970,000. -/
def map68 : List MapPoint :=
  [⟨0, 1000, 0⟩, ⟨500000, 1010, 20⟩, ⟨1000000, 1020, 40⟩, ⟨1500000, 1000, 0⟩, ⟨2000000, 990, -20⟩]
theorem test_points_of_6_8 :
    checkPoint (some 970000) map68 3 ⟨1500000, 1025, 30⟩ = .done ∧
    checkPoint (some 970000) map68 2 ⟨1000000, 1030, 50⟩ = .fence ∧
    checkPoint (some 970000) map68 5 ⟨2600000, 980, -30⟩ = .done ∧
    checkPoint (some 970000) map68 4 ⟨1400000, 990, -20⟩ = .value := by decide
theorem test_lookup_of_6_8 : lookup map68 820000 = (1016, 33) := by decide

/-- The profile of 4.3.1. -/
def profile431 : HeadProfile :=
  { HeadProfile.default with gains := ⟨120, 400, 200, 1500, 500, 50⟩ }
/-- 4.3.1. -/
theorem test_traverse_set :
    let r := ({ Regulator.initial 0 with accumulator := 180000, target := 24867, nominal := 5250 }).regulate profile431
      1000 23900 5510 true
    r.error = 967 ∧ r.accumulator = 180306 ∧ r.demand = 5522 ∧ r.satRun = 0 ∧ r.rateLimited = false := by decide
/-- 4.3.2, sets 1 and 2. -/
theorem test_top_of_window :
    let r := ({ Regulator.initial 0 with accumulator := 150000, target := 30000, nominal := 6800 }).regulate profile431
      1000 28000 6950 true
    let u := r.regulate profile431 1000 28400 r.demand true
    (r.accumulator, r.demand, r.side, r.satRun, r.rateLimited) = (150720, 6970, SatSide.high, 1, true) ∧
    (u.accumulator, u.demand, u.side, u.satRun) = (150720, 6990, SatSide.high, 2) := by decide
/-- 5.3.1, sets 2 and 5; 5.7.1, sets 1 and 2. -/
theorem test_trims :
    let t := (Trim.initial.takeTemp 3950).stepOverrides TrimPage.default
    let u := (t.takeTemp 5250).stepOverrides TrimPage.default
    let y := (Trim.initial.stepLateral TrimPage.default 400).stepLateral TrimPage.default 400
    (t.ovrV, t.speedDemand 12000, u.ovrN, y.lateral) = (998, 11976, 998, 10) := by decide

/-- The guard of 7.9 at sets 1 to 3. -/
def guard79 : GuardRecord :=
  { GuardRecord.initial with comparison := .above, hi := 1800, filter := .twoOfThree, action := .slow, cap := 900 }
theorem test_guard_trips :
    let g := ((guard79.judge 1750).judge 1820).judge 1830
    (g.window, g.tripped, g.trips) = ([false, true, true], true, 1) ∧ (g.judge 1800).tripped = true ∧
    ((g.judge 1800).judge 1700).tripped = false := by decide


/-! ## Witnesses: the machine as a whole -/

theorem test_meets_StepRunsTheFrontCommand :
    ({ config with pending := [.passEnd] } : State).pending = .passEnd :: [] ∧ config.pending = [] := by decide

/-- A state with a pass, a queue, a map, a pending event, a fault and an open stream, and a command waiting. -/
def busy : State :=
  let s := inPass .running { seqIn .traverse [traverseA, exitA true] with lastKind := some .dwell }
  { s with
    headA := { s.headA with map := ⟨[⟨0, 1000, 0⟩, ⟨1000, 1010, 5⟩], none, 0⟩ }
    events := ⟨[event .halt 1, event .markLatch 255], 0x3FFF, some ⟨.skew, none, 0, 0, 0⟩, 1⟩
    service := { s.service with stream := some ⟨.map, .a, 0, 2, 1, 0, 0⟩, staging := [List.replicate 16 0] }
    pending := [.streamCancel (req 0)] }

theorem test_meets_the_invariants_of_a_step :
    PendingOk busy ∧ MaskOk busy ∧ QueueOk busy .a ∧ MapOk busy .a ∧ PassMode busy ∧ SlotsInForce busy ∧ StreamOk busy ∧
    RingCounts busy ∧ FaultOk busy ∧ ∃ t, step busy = .next t ∧ t.service.stream = none := by
  refine ⟨?_, ?_, ?_, ?_, ?_, ?_, ?_, ?_, ?_, _, rfl, rfl⟩
  · unfold PendingOk PendingSet; decide
  · unfold MaskOk; decide
  · exact ⟨by decide, rfl, rfl, trivial⟩
  · unfold MapOk CompMap.ordered; decide
  · unfold PassMode; decide
  · unfold SlotsInForce; decide
  · show 1 ≤ 1 ∧ _; decide
  · unfold RingCounts; decide
  · unfold FaultOk; decide

/-- A head A that plunges while the cycle window runs out: its START executes, its spindle turns, and the bridge
stands. -/
def plunged : State :=
  let q := { seqIn .plunge [startA, dwellA] with carried := ⟨5000, 0, 800, 5000⟩ }
  let s := inPass .running q
  { s with
    headA := { s.headA with
      reg := { s.headA.reg with demand := 4000, segment := q.carried }, trim := { s.headA.trim with spindle := 800 } }
    ring := { s.ring with
      window := some 2500
      timing := some ⟨1000, 1000⟩
      output := { s.ring.output with a := { s.ring.output.a with zDemand := 4000, spindle := 800 } } }
    pending := [.cycleWindowExpiry false] }

theorem test_profile_in_range : ProfileInRange .default := by
  simp [ProfileInRange, HeadProfile.default, DepthPage.default, GainPage.default, LimitPage.default, TrimPage.default]

theorem test_meets_StepKeepsHeadsAndRecords : HeadsOk plunged ∧ ∃ t, step plunged = .next t := by
  refine ⟨⟨?_, ⟨?_, ?_, ?_⟩, ⟨?_, ?_, ?_, ?_⟩, ?_⟩, _, rfl⟩
  · unfold PassMode; decide
  · intro h; cases h <;> decide
  · intro _ h; cases h <;> decide
  · intro h; cases h
  · show GantryInRange { GantryProfile.default with present := .both }
    simp [GantryInRange, GantryProfile.default]
  · intro h; cases h <;> exact test_profile_in_range
  · intro _ h _; cases h <;> decide
  · intro h g hg
    cases h
    · rcases List.mem_cons.1 hg with rfl | hg
      · simp only [startA, SegmentInRange]; decide
      · obtain rfl := List.mem_singleton.1 hg
        simp only [dwellA, SegmentInRange]; decide
    · cases hg
  · intro h
    cases h
    · exact ⟨⟨by decide, rfl, rfl, trivial⟩, by unfold RecordOk; decide⟩
    · exact ⟨⟨by decide, trivial⟩, by unfold RecordOk; decide⟩

theorem test_meets_StepKeepsTheBridgeAtRest :
    BridgeOk plunged ∧ Standing (plunged.head .a) ∧
    ((inPass .running { seqIn .exit [exitA true] with
      progress := { Progress.cleared with exitPhase := some .runout } }).head .a).exitPhase = some .runout := by
  refine ⟨⟨by decide, ?_, ?_⟩, .inr (.inl rfl), rfl⟩
  · intro h _; cases h <;> decide
  · intro h r e; cases h <;> cases e

theorem test_meets_StepKeepsTheToolLaws :
    (∀ h, ToolOk plunged h) ∧ (plunged.headA.profile.depth.clear < plunged.prevDemand .a) ∧
    ∃ t, step plunged = .next t ∧ t.ring.output ≠ plunged.ring.output ∧
      t.headA.profile = plunged.headA.profile := by
  refine ⟨?_, by decide, _, rfl, by decide, by decide⟩
  intro h
  cases h <;> refine ⟨by decide, ?_, ?_, ?_, ?_, ?_, ?_, ?_, ?_, ?_, ?_⟩ <;>
    (first
      | decide
      | (intro _; exact ⟨by decide, by decide⟩)
      | (intro e a; cases a))

/-! ## Witnesses: supply, reset and frames -/

/-- A frame of 64 bytes whose area asks STREAM CANCEL of node 1, its area check making the exclusive-or 0. -/
def cancelArea : List Byte := [1, 8, 5, 0, 0, 0, 0, 0, 0, 0, 4, 8] ++ List.replicate 52 0

/-- A node whose slot map in force enables one output slot behind the area. -/
def slotted : State := { ready with
  slotMap := ready.slotMap.set 17 ⟨64, true⟩
  inForce := some (ready.slotMap.set 17 ⟨64, true⟩) }

/-- A frame that passes, its header written in. -/
def framed (s : State) (f : PassingFrame) : State :=
  { s with port := { s.port with passing := some f, outgoing := some ⟨[], .unchanged⟩ } }

theorem test_meets_SupplyResetAndStart :
    100 ≤ (⟨100, 0⟩ : ResetPulse).micros ∧ State.reset.power.alive = true ∧ config.port.passing = none ∧ (⟨99, 0⟩ : ResetPulse).micros < 100 ∧
    State.reset.power = .starting ∧
    (framed config ⟨[], true, [0]⟩).port.passing = some ⟨[], true, [0]⟩ ∧
    (framed config ⟨[], true, [0]⟩).port.outgoing = some ⟨[], .unchanged⟩ ∧ config.power.alive = true := by decide

theorem test_meets_ResetsRetainTables :
    ({ config with power := .inReset } : State).power = .inReset ∧
    ({ config with service := { config.service with resetDue := true } } : State).service.resetDue = true ∧
    config.power = .running ∧ (⟨false, false, 5⟩ : Pins).straps = 5 ∧ config.serving = true ∧ (req 0).length.toNat = 0 ∧
    config.active = false ∧ busy.serving = true ∧ busy.active = true := by decide

theorem test_meets_FrameCarriesPendingOutputs :
    State.reset.power ≠ .running ∧ slotted.power = .running ∧ config.service.mode = .config ∧
    ∃ t, exec (.cycleFrame ⟨List.replicate 96 9, true⟩) slotted = .next t ∧ t.writtenIds 96 = [17] ∧
      t.slotOffset 17 = 64 ∧ t.port.area = none := ⟨by decide, by decide, by decide, _, rfl, by decide, by decide, by decide⟩

/-- R171: a frame with an output slot behind its area leaves with the reply in its first 64 bytes. -/
theorem test_meets_FrameCarriesPendingOutputs_with_an_area :
    let frame : Frame := ⟨cancelArea ++ List.replicate 32 9, true⟩
    slotted.power = .running ∧ frame.payload.length = 96 ∧
    ∃ t o a, exec (.cycleFrame frame) slotted = .next t ∧ t.port.outgoing = some o ∧ t.port.area = some a ∧
      t.writtenIds 96 = [17] ∧ t.slotOffset 17 = 64 ∧ o.payload.take 64 = a ∧ a ≠ cancelArea ∧
      o.payload.drop 68 = List.replicate 28 9 :=
  ⟨by decide, by decide, _, _, _, rfl, rfl, rfl, by decide, by decide, by decide, by decide, by decide⟩

theorem test_meets_FrameServesItsArea :
    (cancelArea.length = 64 ∧ config.serving = true ∧ fieldU 0 1 (cancelArea.take 64) = config.lines.strap.toNat ∧
      xorHalves (cancelArea.take 64) = 0 ∧ fieldU 1 1 (cancelArea.take 64) = RequestKind.streamCancel.code ∧
      asked (.streamCancel (readArea (cancelArea.take 64))) = some (.streamCancel, readArea (cancelArea.take 64))) ∧
    ({ config with lines := { config.lines with strap := 63 } } : State).serving = false ∧
    (cancelArea.take 63).length < 64 ∧ fieldU 0 1 ((2 :: cancelArea.tail).take 64) ≠ config.lines.strap.toNat ∧
    xorHalves ((1 :: 9 :: cancelArea.drop 2).take 64) ≠ 0 ∧
    (unknownCode 19 = true ∧ fieldU 1 1 ((1 :: 19 :: 5 :: 0 :: 0 :: 0 :: 0 :: 0 :: 0 :: 0 :: 4 :: 19 ::
      List.replicate 52 0 : List Byte).take 64) = (19 : BitVec 8).toNat ∧
      xorHalves ((1 :: 19 :: 5 :: 0 :: 0 :: 0 :: 0 :: 0 :: 0 :: 0 :: 4 :: 19 :: List.replicate 52 0 : List Byte).take 64)
        = 0) := by decide

/-- A frame of 64 bytes whose area is a WRITE RECORD of node 1 that names table 6. -/
def tableSixArea : List Byte := [1, 3, 5, 0, 0, 0, 6, 0, 0, 0, 2, 3] ++ List.replicate 52 0

theorem test_meets_MalformedRequestsRefused_in_a_frame :
    64 ≤ tableSixArea.length ∧ config.power = .running ∧ config.serving = true ∧
    fieldU 0 1 (tableSixArea.take 64) = config.lines.strap.toNat ∧ xorHalves (tableSixArea.take 64) = 0 ∧
    fieldU 1 1 (tableSixArea.take 64) = 3 ∧ 5 < fieldU 6 1 (tableSixArea.take 64) := by decide

theorem test_meets_MalformedRequestsRefused :
    asked (.readStatus (req 1)) = some (.readStatus, req 1) ∧ asked (.passHold (req 1)) = some (.passHold, req 1) ∧
    RequestKind.readStatus.lengthOk (req 1).length.toNat = false ∧
    RequestKind.passHold.lengthOk (req 1).length.toNat = false ∧ config.serving = true ∧
    ({ config with lines := { config.lines with strap := 0 } } : State).serving = false ∧
    (req 9).length.toNat ≠ 8 ∧ (req 9).index.toNat ≠ 65535 ∧ (req 9).length.toNat ≠ 10 ∧ (req 15).length.toNat ≠ 16 ∧
    (req 41).length.toNat ≠ 42 ∧ (req 2).length.toNat ≠ 3 ∧ 1 < (req 0 0 2).head.toNat ∧
    unknownCode 0 = true ∧ unknownCode 19 = true ∧ unknownCode 255 = true := by decide

theorem test_meets_AreasAreSealed :
    config.serving = true ∧ asked (.takeEvent (req 0)) = some (.takeEvent, req 0) ∧
    (19 : BitVec 8) = BitVec.ofNat 8 19 := by decide

/-- A ready node whose ring is UP, a frame passing. -/
def arriving (payload : List Byte) (good : Bool) : State :=
  let s := framed ready ⟨payload, good, []⟩
  { s with ring := { s.ring with state := .up, timing := some ⟨1000, 1000⟩, window := some 2500 } }

theorem test_meets_AcceptedFrameNumbersTheSet :
    let s := arriving (List.replicate 64 0) true
    s.power = .running ∧ s.service.resetDue = false ∧ s.port.passing = some ⟨List.replicate 64 0, true, []⟩ ∧
    s.covers 64 = true ∧ s.ring.isEarly 1500 = false ∧
    ({ s with ring := { s.ring with state := .lost } } : State).ring.state = .lost ∧ s.ring.state ≠ .lost ∧
    (∀ e ∈ s.events.entries, e.kind ≠ .ringRestored) ∧ s.events.enables .ringRestored = true ∧
    min (1998 + 1) 65535 < s.gantry.streamTimeout ∧ s.gantry.streamTimeout ≤ min (1999 + 1) 65535 := by decide

theorem test_meets_RefusedFramesCount :
    let s := arriving (List.replicate 64 0) true
    s.power = .running ∧ s.service.resetDue = false ∧
    (arriving [] false).port.passing = some ⟨[], false, []⟩ ∧
    (arriving (List.replicate 63 0) true).port.passing = some ⟨List.replicate 63 0, true, []⟩ ∧
    (arriving (List.replicate 63 0) true).covers 63 = false ∧
    s.port.passing = some ⟨List.replicate 64 0, true, []⟩ ∧ s.covers 64 = true ∧ s.ring.isEarly 1499 = true := by
  decide

theorem test_meets_WindowExpiryRunsACoastSet :
    let s := arriving [] true
    let lost := { s with ring := { s.ring with missCount := 3 } }
    s.power = .running ∧ s.ring.window = some 2500 ∧ s.ring.timing = some ⟨1000, 1000⟩ ∧ s.ring.state = .up ∧
    min (s.ring.missCount + 1) 65535 < s.gantry.missLimit ∧ lost.gantry.missLimit ≤ min (lost.ring.missCount + 1) 65535 ∧
    ready.ring.state = .down ∧ ready.ring.window = none := by decide

/-- R10, R164, R165: an expiry that makes a loss in WITHDRAW loss mode, and one that brings the loss hold counter to the
hold window, HALT the pass; one that brings it below the window, or makes a loss in HOLD loss mode, does not. -/
theorem test_loss_within_a_coast_set :
    let s := inPass .running (seqIn .traverse [traverseA])
    let after := fun (mode : LossMode) (cause : HoldCause) (count misses : Nat) =>
      match exec (.cycleWindowExpiry false) { s with
        pass := { s.pass with state := if cause = .none then .running else .held, holdCause := cause, lossHold := count }
        gantry := { s.gantry with lossMode := mode }
        ring := { s.ring with
          state := .coasting, timing := some ⟨1000, 1000⟩, window := some 2500, missCount := misses } } with
      | .next t => (t.headState .a, t.pass.state, t.pass.holdCause, t.pass.lossHold)
      | _ => (.idle, .idle, .none, 0)
    after .withdraw .none 0 3 = (.withdraw, .running, .none, 0) ∧
    after .hold .none 0 3 = (.traverse, .held, .ring, 0) ∧
    after .hold .ring 498 3 = (.traverse, .held, .ring, 499) ∧
    after .hold .ring 499 3 = (.withdraw, .held, .ring, 500) := by decide

/-- A map in force that captures FORCE A and HEADSEQ A of a payload of zeros. -/
def sampled (reference : Option Int) : State :=
  let s := arriving (List.replicate 96 0) true
  { s with
    inForce := some ((ready.slotMap.set 0 ⟨64, true⟩).set 6 ⟨66, true⟩)
    ring := { s.ring with reference := ⟨reference, none, none⟩ } }

theorem test_meets_StaleGroupsHandOverLastGood :
    let s := sampled (some 0)
    s.power = .running ∧ s.service.resetDue = false ∧ s.port.passing = some ⟨List.replicate 96 0, true, []⟩ ∧
    s.covers 96 = true ∧ s.ring.isEarly 1500 = false ∧
    (captureInputs s.inForce (List.replicate 96 0)).getD 6 none = some 0 ∧ s.ring.reference.a = some 0 ∧
    (captureInputs s.inForce (List.replicate 96 0)).getD 0 none = some 0 ∧
    (captureInputs s.inForce (List.replicate 96 0)).getD 16 none = none ∧ (sampled none).ring.reference.a ≠ some 0 := by
  decide

theorem test_meets_RingLossHoldsOrHalts :
    let up := fun (s : State) => { s with ring := { s.ring with state := .up, missCount := 4 } }
    let s := up (inPass .running (seqIn .traverse [traverseA]))
    let hold := { s with gantry := { s.gantry with lossMode := .hold } }
    let held := { hold with pass := { hold.pass with holdCause := .ring, lossHold := 500 } }
    s.power = .running ∧ s.ring.state = .up ∧ s.gantry.missLimit ≤ s.ring.missCount ∧ (up ready).active = false ∧
    s.active = true ∧ s.gantry.lossMode = .withdraw ∧ hold.gantry.lossMode = .hold ∧
    hold.pass.lossHold ≠ hold.gantry.holdWindow ∧ held.active = true ∧ held.pass.holdCause = .ring ∧
    held.pass.lossHold = held.gantry.holdWindow ∧
    ({ hold with gantry := { hold.gantry with holdWindow := 0 } } : State).pass.lossHold = 0 ∧
    hold.pass.holdCause ≠ .ring ∧ (hold.holdOrder .ring).pass.holdCause = .ring := by decide

/-! ## Witnesses: the tables -/

theorem test_meets_ReadStatusPages :
    config.serving = true ∧ (req 0).length.toNat = 0 ∧ (req 0 0 0 10).index.toNat = 10 ∧
    10 < (req 0 0 0 11).index.toNat := by decide

theorem test_meets_ReadRecordTables :
    busy.serving = true ∧ (req 0).length.toNat = 0 ∧ headOfCode (req 0).head.toNat = some .a ∧
    (req 0).table.toNat = 0 ∧ busy.headA.seq.queue[(req 0 0 0 1).index.toNat]? = some (exitA true) ∧
    busy.headA.seq.queue.length ≤ (req 0 0 0 2).index.toNat ∧ (req 0 1).table.toNat = 1 ∧
    (req 0 1 0 65535).index.toNat = 65535 ∧ busy.headA.map.points[(req 0 1 0 1).index.toNat]? = some ⟨1000, 1010, 5⟩ ∧
    busy.headA.map.points.length ≤ (req 0 1 0 2).index.toNat ∧ (req 0 1 0 2).index.toNat ≠ 65535 ∧
    busy.guards[(req 0 2 0 11).index.toNat]? = some .initial ∧ busy.guards.length ≤ (req 0 2 0 12).index.toNat ∧
    (req 0 4 0 3).index.toNat ≤ 3 ∧ 3 < (req 0 4 0 4).index.toNat ∧ (req 0 3 0 1).index.toNat ≠ 0 ∧
    busy.slotMap[(req 0 5 0 27).index.toNat]? = some ⟨0, false⟩ ∧ busy.slotMap.length ≤ (req 0 5 0 28).index.toNat ∧
    5 < (req 0 6).table.toNat ∧ 1 < (req 0 0 2).head.toNat := by decide

theorem test_meets_SegmentImagesReadBack :
    SegmentInRange 7000 (.start (-2147483648) 100 60000 7000) ∧ SegmentInRange 7000 (.dwell 60000 0) ∧
    SegmentInRange 7000 (.traverse 64 625000 0 1 3000 25000) ∧ SegmentInRange 7000 (.exit true .runOut 0 1) ∧
    readSegment 7000 (Segment.image (.dwell 60000 0)) = some (.dwell 60000 0) := by
  simp only [SegmentInRange]; decide

theorem test_meets_TableImagesReadBack :
    GantryInRange .default ∧ (⟨2147483647, 500, 2000⟩ : MapPoint).inRange = true ∧
    guard79.owner.watches guard79.channel = true ∧ guard79.comparison.limitsOk guard79.lo guard79.hi = true ∧
    guard79.owner.arms guard79.arm.toNat = true ∧ 0 ≤ guard79.cap ∧ guard79.cap ≤ 1000 ∧ (3 : Nat) ≤ 3 ∧
    (⟨65535, true⟩ : SlotEntry).offset < 65536 :=
  ⟨by simp [GantryInRange, GantryProfile.default], by decide⟩

/-- A node whose head A holds the map of 6.8 and the fence at `fence`. -/
def fenced (fence : Option Int) : State :=
  { ready with headA := { ready.headA with map := ⟨map68, fence, 0⟩ } }

/-- A WRITE RECORD of a map point at an index: station, kf, dz as bytes. -/
def pointAt (index : Nat) (bytes : List Nat) : Request := req 8 1 0 index bytes

theorem test_meets_MapWritesChecked_refused :
    (fenced none).serving = true ∧ headOfCode (pointAt 5 []).head.toNat = some .a ∧ (pointAt 5 []).index.toNat ≠ 65535 ∧
    (pointAt 5 []).length.toNat = 8 ∧ (pointAt 128 []).index.toNat = 128 ∧
    (fenced none).headA.map.points.length < (pointAt 6 []).index.toNat ∧ 128 < (pointAt 129 []).index.toNat ∧
    (pointAt 5 []).index.toNat ≤ (fenced none).headA.map.points.length ∧ (pointAt 127 []).index.toNat < 128 := by decide

theorem test_meets_MapWritesChecked_full (p : MapPoint) :
    ((ready.modMap .a fun m => { m with points := List.replicate 128 p }).head .a).map.points.length = 128 :=
  List.length_replicate

theorem test_meets_MapWritesChecked_ranged :
    readPoint (slice 0 8 (pointAt 5 [64, 172, 39, 0, 212, 3, 226, 255]).payload) = ⟨2600000, 980, -30⟩ ∧
    (readPoint (slice 0 8 (pointAt 5 [64, 172, 39, 0, 243, 1]).payload)).kf = 499 ∧
    readPoint (slice 0 8 (pointAt 5 [128, 132, 30, 0, 244, 1, 208, 7]).payload) = ⟨2000000, 500, 2000⟩ ∧
    map68[4]? = some ⟨2000000, 990, -20⟩ ∧ (fenced (some 2000001)).headA.map.fence = some 2000001 ∧
    (fenced (some 2000000)).headA.map.fence = some 2000000 := by decide

theorem test_meets_MapWritesChecked_header :
    (fenced (some 970000)).serving = true ∧ headOfCode (req 10 1).head.toNat = some .a ∧ (req 10 1).length.toNat = 10 ∧
    map68.length < fieldU 0 2 (req 10 1 0 0 [6]).payload ∧ fieldU 0 2 (req 10 1 0 0 [5]).payload = map68.length ∧
    fieldU 0 2 (req 10 1 0 0 [4]).payload < map68.length ∧ ((fenced none).headState .a).working = false ∧
    (busy.headState .a).working = true ∧ busy.active = true ∧ fieldU 0 2 (req 10 1 0 0 [1]).payload < busy.headA.map.points.length ∧
    (fenced (some 970000)).headA.map.fence = some 970000 ∧ map68[1]? = some ⟨500000, 1010, 20⟩ ∧
    fieldU 0 2 (req 10 1 0 0 [2]).payload = 1 + 1 := by decide

/-- A WRITE RECORD of a guard with its first bytes. -/
def guardWrite (index : Nat) (bytes : List Nat) : Request := req 16 2 0 index bytes

theorem test_meets_GuardGantryAndSlotMapWritten_guard :
    let bs := slice 0 16 (guardWrite 11 [128, 2, 0, 2, 0, 0, 0, 0, 8, 7, 0, 0, 31, 1, 132, 3]).payload
    ready.serving = true ∧ (guardWrite 11 []).length.toNat = 16 ∧ busy.active = true ∧ ready.active = false ∧
    11 < (guardWrite 12 []).index.toNat ∧ (guardWrite 11 []).index.toNat ≤ 11 ∧
    1000 < fieldU 14 2 (slice 0 16 (guardWrite 11 [0, 0, 0, 0, 0, 0, 0, 0, 0, 0, 0, 0, 0, 0, 233, 3]).payload) ∧
    fieldU 0 1 bs % 4 = 0 ∧ fieldU 1 1 bs < 8 ∧ fieldU 2 1 bs < 2 ∧ fieldU 3 1 bs ≤ 3 ∧ fieldU 12 1 bs < 32 ∧
    fieldU 13 1 bs ≤ 4 ∧ fieldU 14 2 bs ≤ 1000 := by decide

theorem test_meets_GuardGantryAndSlotMapWritten_gantry_and_slots :
    config.serving = true ∧ (req 42 3).length.toNat = 42 ∧ ready.service.mode ≠ .config ∧ config.service.mode = .config ∧
    (req 42 3 0 1).index.toNat ≠ 0 ∧
    firstFalse (gantryChecks (slice 0 42 (req 42 3).payload)) = some 1 ∧
    firstFalse (gantryChecks (slice 0 42 (payload (GantryProfile.default.image.map BitVec.toNat)))) = none ∧
    (req 3 5).length.toNat = 3 ∧ 27 < (req 3 5 0 28).index.toNat ∧ (req 3 5 0 27).index.toNat ≤ 27 ∧
    1 < fieldU 2 1 (slice 0 3 (req 3 5 0 27 [64, 0, 2]).payload) ∧
    fieldU 2 1 (slice 0 3 (req 3 5 0 27 [64, 0, 1]).payload) ≤ 1 := by decide

/-- Head profile page 3 at its defaults, and with T_lo above T_hi. -/
def page3 (tLo : Int) : Request :=
  req 22 4 0 3 (HeadProfile.pageImage { HeadProfile.default with trim := { TrimPage.default with tLo := tLo } } 3 |>.map
    BitVec.toNat)

theorem test_meets_HeadProfilePageWritten :
    ready.serving = true ∧ headOfCode (page3 4000).head.toNat = some .a ∧ 3 < (req 22 4 0 4).index.toNat ∧
    (page3 4000).index.toNat ≤ 3 ∧ (req 21 4 0 3).length.toNat ≠ pageLength 3 ∧
    (page3 4000).length.toNat = pageLength (page3 4000).index.toNat ∧ ready.headState .a = .idle ∧
    ready.service.mode ≠ .config ∧ busy.headState .a = .traverse ∧ busy.service.mode = .ready ∧
    firstFalse (pageChecks 3 (slice 0 22 (page3 20001).payload)) = some 0 ∧
    firstFalse (pageChecks 3 (slice 0 22 (page3 5201).payload)) = none ∧
    (ready.headA.profile.withPage 3 (slice 0 22 (page3 5201).payload)).brokenRelation 3 = some 1 ∧
    (ready.headA.profile.withPage 3 (slice 0 22 (page3 5200).payload)).brokenRelation 3 = none := by decide

/-! ## Witnesses: queues and streams -/

/-- The bytes of a segment record, as request data. -/
def recordBytes (g : Segment) : List Nat := g.image.map BitVec.toNat

/-- A READY node whose head A holds a queue outside the pass. -/
def queued (q : List Segment) : State :=
  { ready with headA := { ready.headA with seq := { Sequencer.initial with queue := q } } }

theorem test_meets_AppendsAndCancels :
    let read := fun g => readSegment 7000 (slice 0 16 (req 16 0 0 0 (recordBytes g)).payload)
    ready.serving = true ∧ headOfCode (req 16).head.toNat = some .a ∧ (req 16).length.toNat = 16 ∧
    16 ≤ (queued (List.replicate 16 dwellA)).headA.seq.queue.length ∧
    (queued (List.replicate 15 dwellA)).headA.seq.queue.length < 16 ∧ read (.dwell 60001 0) = none ∧
    read dwellA = some dwellA ∧ mayFollow none dwellA.kind = false ∧ read startA = some startA ∧
    mayFollow none startA.kind = true ∧ (req 0).length.toNat = 0 ∧ (busy.headState .a).working = true ∧
    ((queued [startA]).headState .a).working = false := by decide

/-- A READY node with an open stream of `n` records to come. -/
def streaming (table : StreamTable) (n : Nat) (expected : BitVec 16) : State :=
  { ready with service := { ready.service with stream := some ⟨table, .a, 0, n, n, expected, 2000⟩ } }

theorem test_meets_StreamsOpenExpireAndCancel :
    ready.serving = true ∧ (req 8).length.toNat = 8 ∧ busy.service.stream ≠ none ∧ busy.serving = true ∧
    ready.service.stream = none ∧ fieldU 4 2 (req 8 0 0 0 [2, 2, 0, 0, 65, 0]).payload = 65 ∧
    fieldU 0 1 (req 8 0 0 0 [2, 2, 0, 0, 64, 0]).payload = 2 ∧ fieldU 4 2 (req 8 0 0 0 [1, 1, 0, 0, 64, 0]).payload = 64 ∧
    busy.power = .running ∧ busy.service.stream = some ⟨.map, .a, 0, 2, 1, 0, 0⟩ ∧ 0 < busy.gantry.streamTimeout ∧
    (streaming .map 1 0).service.stream = some ⟨.map, .a, 0, 1, 1, 0, 2000⟩ ∧
    (streaming .map 1 0).gantry.streamTimeout ≤ 2000 ∧ (req 0).length.toNat = 0 := by decide

/-- STREAM DATA of one record. -/
def dataOf (bytes : List Nat) : Request := req 16 0 0 0 bytes

theorem test_meets_StreamsApplyWholeOrNotAtAll :
    let check := fun bytes => xorHalves [slice 0 16 (dataOf bytes).payload].flatten
    let stream : StreamTable → Stream := fun t => ⟨t, .a, 0, 1, 1, check (recordBytes startA), 2000⟩
    ready.serving = true ∧ (dataOf []).length.toNat = 16 * 1 ∧ ready.service.stream = none ∧
    (streaming .segment 1 (check (recordBytes startA))).service.stream = some (stream .segment) ∧ 1 < 2 ∧
    check (recordBytes dwellA) ≠ check (recordBytes startA) ∧
    [slice 0 16 (dataOf (recordBytes startA)).payload].map (readSegment 7000) = [startA].map some ∧
    mayFollow none startA.kind = true ∧ [slice 0 16 (dataOf []).payload].map (readSegment 7000) = [none] ∧
    [slice 0 16 (dataOf (guard79.image.map BitVec.toNat |>.take 16)).payload].map readGuard = [guard79].map some ∧
    ready.guards.length = 12 ∧ ready.active = false ∧ busy.active = true ∧ 0 + 1 ≤ 12 ∧ 12 < 12 + 1 := by decide

theorem test_meets_a_run_of_map_points :
    RunOfWrites none 0 [] [⟨0, 1000, 0⟩, ⟨1, 1000, 0⟩] [⟨0, 1000, 0⟩, ⟨1, 1000, 0⟩] ∧
    ¬ ∃ points, RunOfWrites (some 0) 0 [] [⟨0, 1000, 0⟩] points :=
  ⟨⟨rfl, rfl, rfl⟩, fun ⟨_, h, _⟩ => absurd h (by decide)⟩

/-! ## Witnesses: passes, modes and events -/

/-- The request data of a PASS START: number, heads, datum mode, linked. -/
def passStart (heads mode linked : Nat) : Request := req 10 0 0 0 [1, 0, heads, mode, linked, 0, 232, 3, 0, 0]

/-- A READY node with a START at the head of each queue. -/
def loaded : State :=
  let s := queued [startA, dwellA]
  { s with headB := { s.headB with seq := { Sequencer.initial with queue := [startA] } } }

theorem test_meets_PassStartFillsThePass :
    loaded.serving = true ∧ (passStart 3 0 1).length.toNat = 10 ∧ config.service.mode ≠ .ready ∧ busy.active = true ∧
    ({ loaded with lines := { loaded.lines with stop := true } } : State).lines.stop = true ∧
    loaded.service.mode = .ready ∧ loaded.active = false ∧ loaded.lines.stop = false ∧
    fieldU 2 1 (passStart 4 0 0).payload = 4 ∧ fieldU 4 1 (passStart 3 0 2).payload = 2 ∧
    fieldU 3 1 (passStart 3 1 0).payload = 1 ∧ fieldU 4 1 (passStart 3 0 1).payload = 1 ∧
    fieldU 2 1 (passStart 3 0 1).payload = 3 ∧ fieldU 3 1 (passStart 3 0 1).payload = 0 ∧
    (∀ h, loaded.gantry.present.has h = true) ∧ loaded.headA.seq.queue = [startA, dwellA] ∧
    loaded.headB.seq.queue = [startA] ∧ ready.headA.seq.queue = [] ∧ loaded.events.enables .queueLow = true := by
  refine ⟨by decide, by decide, by decide, by decide, by decide, by decide, by decide, by decide, by decide, by decide,
    by decide, by decide, by decide, by decide, ?_, by decide⟩
  intro h
  cases h <;> decide

/-- A held pass, its cause given. -/
def heldFor (cause : HoldCause) : State :=
  let s := inPass .held (seqIn .traverse [traverseA])
  { s with pass := { s.pass with holdCause := cause } }

theorem test_meets_HoldOrdersKeepTheHigherCause :
    busy.serving = true ∧ (req 0).length.toNat = 0 ∧
    HoldCause.request ≠ .none ∧ HoldCause.halt ≠ .none ∧ busy.pass.state = .running ∧
    (inPass .approach (seqIn .waiting [startA])).pass.state = .approach ∧
    (inPass .approach (seqIn .waiting [startA])).pass.holdCause = .none ∧ (heldFor .guard).pass.state = .held ∧
    ready.active = false := by decide

theorem test_meets_PassResumeAndAbort :
    (heldFor .request).serving = true ∧ (req 0).length.toNat = 0 ∧ (heldFor .request).service.mode = .ready ∧
    (heldFor .request).pass.state = .held ∧ (heldFor .request).planner.xMode ≠ .quickstop ∧
    (heldFor .ring).pass.holdCause = .ring ∧ (heldFor .ring).ring.state ≠ .up ∧ config.service.mode ≠ .ready ∧
    (heldFor .request).active = true ∧ busy.pass.state ≠ .held := by decide

/-- A node in CONFIG whose slot map enables every channel, one behind the other. -/
def mapped : State :=
  { config with
    gantry := { config.gantry with present := .both }
    slotMap := (List.range 28).map fun id => ⟨64 + 8 * id, true⟩ }

theorem test_meets_ModesEntered :
    mapped.serving = true ∧ (req 0).length.toNat = 0 ∧ ready.service.mode ≠ .config ∧ mapped.service.mode = .config ∧
    config.gantry.present = .none ∧ mapped.gantry.present ≠ .none ∧ mapped.gantry.approachSpeed ≤ mapped.gantry.xMax ∧
    mapped.readyFailure = none ∧ ({ mapped with slotMap := config.slotMap } : State).readyFailure ≠ none ∧
    ({ mapped with gantry := { mapped.gantry with xMax := 9999 } } : State).gantry.xMax < mapped.gantry.approachSpeed ∧
    busy.service.mode ≠ .config ∧ busy.active = true ∧ ready.active = false := by decide

/-- R136, R143: the reply data of the first check that fails, for checks 3 to 8, each at the edge of what it admits. -/
theorem test_first_failing_check :
    let headA := fun (p : HeadProfile) => ({ mapped with headA := { mapped.headA with profile := p } } : State).readyFailure
    let headB := fun (p : HeadProfile) => ({ mapped with headB := { mapped.headB with profile := p } } : State).readyFailure
    let slot := fun (id offset : Nat) (enabled : Bool) =>
      ({ mapped with slotMap := mapped.slotMap.set id ⟨offset, enabled⟩ } : State).readyFailure
    let p := HeadProfile.default
    headA { p with depth := { p.depth with dMin := 7000 } } = some (.items [3, 0, 1]) ∧
    headA { p with limits := { p.limits with faultExit := .runOut, faultRunOut := 0 } } = some (.items [3, 2, 6]) ∧
    headB { p with trim := { p.trim with tLo := 5201 } } = some (.items [4, 3, 1]) ∧
    headB { p with trim := { p.trim with tLo := 5200 } } = none ∧
    slot 14 176 false = some (.items [5, 14]) ∧ slot 24 256 false = some (.items [6, 24]) ∧
    slot 0 63 true = some (.items [7, 0]) ∧ slot 27 1017 true = some (.items [7, 27]) ∧ slot 27 1016 true = none ∧
    slot 3 81 true = some (.items [8, 3, 2]) ∧ slot 3 82 true = none ∧ slot 26 73 true = some (.items [8, 26, 1]) := by
  decide

theorem test_meets_ClearFaultEmptiesTheRecord :
    busy.serving = true ∧ (req 0).length.toNat = 0 ∧ busy.lines.stop = false ∧ config.lines.stop = true ∧
    (∀ h, busy.headState h ≠ .withdraw ∧ busy.headState h ≠ .spindown) ∧
    (inPass .running (seqIn .withdraw [])).headState .a = .withdraw := by
  refine ⟨by decide, by decide, by decide, by decide, ?_, by decide⟩
  intro h
  cases h <;> decide

theorem test_meets_EventsTakenAndMasked :
    busy.serving = true ∧ (req 0).length.toNat = 0 ∧ ready.events.entries = [] ∧ event .halt 1 ∈ busy.events.entries ∧
    (∀ f ∈ busy.events.entries, (event .halt 1).kind.num ≤ f.kind.num) ∧ (req 2).length.toNat = 2 ∧
    32768 ≤ fieldU 0 2 (req 2 0 0 0 [0, 128]).payload ∧ fieldU 0 2 (req 2 0 0 0 [255, 127]).payload < 32768 := by decide

theorem test_meets_ModesEntered_sound :
    (∀ id < 28, mapped.slotMap[id]? = some ⟨64 + 8 * id, true⟩ ∧ channelWidth id ≤ 8) ∧
    mapped.headA.profile.depth.dMin < mapped.headA.profile.depth.dMax ∧
    mapped.headA.profile.limits.faultExit ≠ .runOut ∧
    mapped.headA.profile.trim.tLo ≤ mapped.headA.profile.trim.tHi ∧ mapped.headB.profile = mapped.headA.profile := by
  decide

/-! ## Witnesses: events inside a set -/

/-- An APPROACH in MARK mode without a datum, one MARK reading short of an edge. -/
def marking : State :=
  let s := inPass .approach (seqIn .waiting [startA])
  { s with
    pass := { s.pass with datumMode := .mark, datumValid := false }
    planner := { s.planner with markCount := 1 } }

theorem test_meets_MarkEdgeSetsDatumOrLatches :
    marking.power = .running ∧ marking.planner.markHeld = false ∧
    marking.planner.markCount + 1 = marking.gantry.markFilter ∧ marking.markEdge.planner.markHeld = true ∧
    ready.planner.markCount + 1 ≠ ready.gantry.markFilter ∧ marking.pass.state = .approach ∧ marking.pass.datumMode = .mark ∧ marking.pass.datumValid = false ∧
    ({ ready with planner := marking.planner } : State).pass.state ≠ .approach := by decide

/-- An approach with the bridge `x` from its target. -/
def approaching (x : Int) : State :=
  let s := inPass .approach (seqIn .waiting [startA])
  { s with
    pass := { s.pass with approachX := 1000 }
    planner := { s.planner with measuredX := 1000 + x } }

theorem test_meets_ArrivalRunsOrAborts :
    (approaching 100).power = .running ∧ (approaching 100).pass.state = .approach ∧
    (approaching 100).pass.holdCause = .none ∧ (approaching 100).pass.heads ≠ .none ∧
    (approaching 100).isPassHead .a = true ∧ (approaching 100).headState .a ≠ .stopped ∧
    mag ((approaching 100).pass.approachX - (approaching 100).planner.measuredX) ≤ (approaching 100).gantry.arrivalTol ∧
    (approaching 100).ring.output.xSpeed = 0 ∧ (approaching 100).planner.xCommand = 0 ∧
    (approaching 100).plungeX .a = some 1000 ∧ ¬ (1000 : Int) < 1100 - 100 ∧ (approaching 100).isPassHead .b = false ∧
    ({ approaching 100 with pass := { (approaching 100).pass with x0 := -1 } } : State).plungeX .a = some 999 ∧
    mag (marking.pass.approachX - marking.planner.measuredX) ≤ marking.gantry.arrivalTol ∧
    (approaching 100).events.fault = none := by decide

/-- R188: a MARK edge sets the datum, and an ARRIVAL before the next set finds a START behind the bridge. The fault has the
station of the head from the new X0. -/
theorem test_start_behind_has_the_station_of_the_new_datum :
    let s := { marking with
      headA := { marking.headA with seq := seqIn .waiting [.start (-500) 800 5000 5000] }
      gantry := { marking.gantry with markStation := 300 }
      pass := { marking.pass with approachX := 5000 }
      planner := { marking.planner with measuredX := 5000 } }
    ∃ u t f, exec .filteredMarkEdge s = .next u ∧ exec .arrival u = .next t ∧ t.events.fault = some f ∧ u.pass.x0 = 4700 ∧
      f.kind = .startBehind ∧ f.head = some .a ∧ f.station = 300 ∧ f.value = 800 :=
  ⟨_, _, _, rfl, rfl, rfl, by decide, by decide, by decide, by decide, by decide⟩

/-- A head with its profile's limits at the edge of a timer or counter. -/
def counted (st : HeadState) (n : Nat) : State :=
  inPass .running { seqIn st [startA, dwellA] with spinupTimer := n, holdTimer := n, atSpeedCount := 3 }

theorem test_meets_SpinupReachesThePlunge :
    let s := { approaching 100 with pass := { (approaching 100).pass with state := .running } }
    s.power = .running ∧ s.headA.seq.executingRecord = some startA ∧ s.headA.seq.state = .waiting ∧
    s.pass.state = .running ∧
    mag (s.pass.x0 + 1000 - s.headA.profile.trim.xOffset - s.planner.measuredX) ≤ s.gantry.arrivalTol ∧
    s.ring.output.xSpeed = 0 ∧ (counted .spinup 5000).headA.seq.state = .spinup ∧
    3 ≤ (counted .spinup 5000).headA.seq.atSpeedCount ∧ (counted .spinup 5000).active = true ∧
    (counted .spinup 5000).headA.fired.spinupTimeout = false ∧
    (counted .spinup 5000).headA.profile.limits.spinupLimit ≤ (counted .spinup 5000).headA.seq.spinupTimer ∧
    (counted .spinup 5000).headA.seq.order = .none := by decide

/-- R15: a spin-up at speed, one reading short of it, on a coast set, and off its speed. -/
theorem test_spinup_sets :
    let s := fun n rpm => ({ inPass .running { seqIn .spinup [startA] with atSpeedCount := n, spinupTimer := 7 } with
      headA := { (inPass .running { seqIn .spinup [startA] with atSpeedCount := n, spinupTimer := 7 }).headA with
        trim := { ready.headA.trim with spindle := rpm } } } : State)
    let seen := fun (t : State) => (t.headA.seq.state, t.headA.seq.atSpeedCount, t.headA.seq.spinupTimer)
    (s 2 0).headA.seq.state = .spinup ∧ seen ((s 2 0).workSequencer true .a) = (.plunge, 3, 8) ∧
    seen ((s 1 0).workSequencer true .a) = (.spinup, 2, 8) ∧ seen ((s 2 0).workSequencer false .a) = (.spinup, 2, 8) ∧
    seen ((s 2 800).workSequencer true .a) = (.spinup, 0, 8) := by decide

/-- A plunging head with a FORCE sample, a demand of the previous set and a seat counter. -/
def plunging (phase : PlungePhase) (force demand : Int) : State :=
  let s := inPass .running { seqIn .plunge [startA, dwellA] with carried := ⟨5000, 0, 800, 5000⟩ }
  { s with
    headA := { s.headA with reg := { s.headA.reg with plungePhase := phase, seatCount := 50 } }
    ring := { s.ring with
      handed := s.ring.handed.set 0 force
      output := { s.ring.output with a := { s.ring.output.a with zDemand := demand } } } }

theorem test_meets_PlungeSeatsOrRetracts :
    (plunging .descent 2500 0).power = .running ∧ (plunging .descent 2500 0).headA.seq.state = .plunge ∧
    (plunging .descent 2500 0).headA.reg.plungePhase = .descent ∧
    divZero (plunging .descent 2500 0).headA.seq.carried.force 2 ≤ (plunging .descent 2500 0).input .a .force ∧
    (plunging .descent 2499 5000).input .a .force < divZero (plunging .descent 2499 5000).headA.seq.carried.force 2 ∧
    (plunging .descent 2499 5000).prevDemand .a = min (plunging .descent 2499 5000).headA.seq.carried.depth 7000 ∧
    (plunging .descent 2499 5000).active = true ∧ (plunging .descent 2499 5000).headA.seq.order = .none ∧
    (plunging .seat 0 0).headA.reg.plungePhase = .seat ∧ (plunging .seat 0 0).headA.seq.progress.starved = false ∧
    (plunging .seat 0 0).headA.profile.gains.seatSets ≤ (plunging .seat 0 0).headA.reg.seatCount := by decide

/-- R81, R83, R92: the sets of a descent short of its limit, at it, on a coast set and at contact, and of a seat that
completes into a DWELL, into an EXIT and not at all. -/
theorem test_plunge_sets :
    let at' := fun (s : State) accepted => (s.workRegulator accepted .a).headA
    let exits := { plunging .seat 5000 4000 with
      headA := { (plunging .seat 5000 4000).headA with
        seq := { (plunging .seat 5000 4000).headA.seq with queue := [startA, exitA true] } } }
    (at' (plunging .descent 2499 4000) true).reg.demand = min (4000 + DepthPage.default.plungeRate) 5000 ∧
    (at' (plunging .descent 2499 4999) true).reg.demand = 5000 ∧ (at' (plunging .descent 2499 5000) true).reg.demand = 5000 ∧
    (at' (plunging .descent 2499 4000) false).reg.demand = 4000 ∧
    (at' (plunging .descent 2500 4000) true).reg.plungePhase = .seat ∧
    (at' (plunging .seat 5000 4000) true).seq.state = .dwell ∧ (at' exits true).seq.state = .exit ∧
    (at' (plunging .seat 0 4000) true).seq.state = .plunge ∧ (at' (plunging .seat 0 4000) true).reg.seatCount = 0 ∧
    (at' (plunging .seat 0 4000) false).reg.demand = 4000 ∧ (at' (plunging .seat 0 4000) false).reg.target = 5000 := by decide

/-- A head whose executing record is at its end, as the flags say, at a station. -/
def ending (st : HeadState) (queue : List Segment) (reached starved : Bool) (station : Int) : State :=
  inPass .running { seqIn st queue with
    progress := { Progress.cleared with endReached := reached, starved := starved, repsDone := 1 }, station := station }

theorem test_meets_RecordsReachTheirEnds :
    let dwell := (ending .dwell [dwellA, traverseA] false false 0).headA.seq
    let turn := (ending .traverse [traverseA, dwellA] false false 1000000).headA.seq
    let rest := (ending .traverse [traverseA, dwellA] true false 0).headA.seq
    let starved := (ending .traverse [traverseA, dwellA] true true 0).headA.seq
    let waiting := { (ending .waiting [startA] false false 0).headA.seq with executing := false }
    ready.power = .running ∧ dwell.executingRecord = some dwellA ∧ dwell.progress.dwellLeft = 0 ∧
    dwell.progress.endReached = false ∧ turn.executingRecord = some traverseA ∧
    turn.progress.s0 + (turn.progress.repsDone + 1) * 500000 ≤ turn.station ∧ rest.successor = some dwellA ∧
    rest.progress.endReached = true ∧ rest.progress.starved = false ∧ ready.ring.output.xSpeed = 0 ∧
    starved.executing = true ∧ starved.progress.starved = true ∧ starved.successor ≠ none ∧ waiting.state = .waiting ∧
    waiting.executing = false ∧ waiting.queue = [startA] := by decide

/-- R39: two sets and one set left of a DWELL before a TRAVERSE. -/
theorem test_dwell_sets :
    let s := fun n => inPass .running { seqIn .dwell [dwellA, traverseA] with
      progress := { Progress.cleared with dwellLeft := n } }
    let seen := fun (t : State) => (t.headA.seq.state, t.headA.seq.progress.dwellLeft)
    (s 2).headA.seq.executingRecord = some (.dwell 200 20000) ∧ (s 2).headA.seq.progress.endReached = false ∧
    seen ((s 2).workSequencer true .a) = (.dwell, 1) ∧ seen ((s 1).workSequencer false .a) = (.traverse, 0) := by decide

theorem test_meets_FinishedRecordsHandOver :
    let q := fun queue => (ending .traverse queue true false 0).headA.seq
    (q [traverseA]).executing = true ∧ (q [traverseA]).queue = traverseA :: [] ∧
    (q [traverseA, dwellA]).queue = traverseA :: dwellA :: [] ∧ traverseA.kind = .traverse ∧
    ({ ready with ring := { ready.ring with output := { ready.ring.output with xSpeed := 1 } } } : State).ring.output.xSpeed
      ≠ 0 ∧ ready.ring.output.xSpeed = 0 ∧ 0 < 200 ∧ 0 < ready.gantry.tc ∧
    (q [dwellA, traverseA]).queue = dwellA :: traverseA :: [] ∧ 1 ≤ 2 ∧ (0 : Int) < 500000 ∧
    (q [dwellA, traverseA]).station < (q [dwellA, traverseA]).endStation + 500000 ∧
    (q [traverseA, exitA true]).queue = traverseA :: exitA true :: [] ∧
    (q [startA, .dwell 0 9000]).queue = startA :: .dwell 0 9000 :: [] ∧ startA.kind ≠ .traverse ∧
    (ending .dwell [dwellA, traverseA] true false 1000000).headA.seq.endStation + 2 * 500000 ≤
      (ending .dwell [dwellA, traverseA] true false 1000000).headA.seq.station := by decide

/-- A head in a phase of its exit or withdrawal. -/
def exiting (st : HeadState) (phase : ExitPhase) (w : WithdrawPhase) (demand : Int) : State :=
  let s := inPass .running { seqIn st [exitA true] with progress := { Progress.cleared with exitPhase := some phase } }
  { s with headA := { s.headA with reg := { s.headA.reg with withdraw := w, demand := demand } } }

theorem test_meets_ExitsAndWithdrawalsEnd :
    (exiting .exit .brake .rising 0).power = .running ∧ (exiting .exit .brake .rising 0).headA.seq.state = .exit ∧
    (exiting .exit .brake .rising 0).headA.seq.progress.exitPhase = some .brake ∧
    (exiting .exit .brake .rising 0).ring.output.xSpeed = 0 ∧
    (exiting .exit .runout .rising 0).headA.seq.progress.exitPhase = some .runout ∧
    (exiting .exit .runout .rising 0).headA.reg.demand ≤ 0 ∧
    (exiting .exit .retract .rising 0).prevDemand .a = (exiting .exit .retract .rising 0).headA.profile.depth.clear ∧
    ({ exiting .exit .retract .rising 0 with ring := { ready.ring with handed := ready.ring.handed.set 4 (-9500) } } :
      State).input .a .zpos ≤ (exiting .exit .retract .rising 0).headA.profile.depth.clear + 500 ∧
    (exiting .withdraw .brake .rising (-10000)).headA.seq.state = .withdraw ∧
    (exiting .withdraw .brake .rising (-10000)).headA.reg.demand = (-10000 : Int) ∧
    (exiting .withdraw .brake .spinstop 0).headA.reg.withdraw = .spinstop ∧
    (exiting .withdraw .brake .spinstop 0).input .a .spindle < 30 := by decide

theorem test_meets_SpindownEndsInThreeWays :
    let s := fun fault queue => inPass .running { seqIn .spindown queue with faultExit := fault }
    (s true [exitA true]).power = .running ∧ (s true [exitA true]).headState .a = .spindown ∧
    ({ s true [exitA true] with ring := { ready.ring with handed := ready.ring.handed.set 5 29 } } : State).input .a .spindle
      < 30 ∧ (s true [exitA true]).headA.seq.faultExit = true ∧ (s false [exitA true, startA]).headA.seq.faultExit = false ∧
    (s false [exitA true, startA]).headA.seq.executing = true ∧
    (s false [exitA true, startA]).headA.seq.queue = .exit true .inPlace 0 0 :: [startA] ∧
    (s false [exitA false]).headA.seq.queue = [.exit false .inPlace 0 0] ∧
    ready.events.enables .queueStarved = true ∧
    (s false [exitA false, startA]).headA.seq.queue = .exit false .inPlace 0 0 :: .start 1000 800 5000 5000 :: [] := by
  decide

theorem test_meets_PassEndsCompleteOrAborted :
    let s := fun st => inPass .running { seqIn st [] with executing := false }
    (s .finished).power = .running ∧ (s .finished).active = true ∧ (s .finished).isPassHead .a = true ∧
    (s .finished).isPassHead .b = false ∧ (s .finished).headState .a = .finished ∧ (s .stopped).headState .a = .stopped ∧
    (s .finished).planner.xCommand = 0 ∧ (s .waiting).headState .a ≠ .finished ∧
    (s .waiting).headState .a ≠ .stopped := by decide

/-- A head in TRAVERSE with its saturation run, its stale count and the gantry's at their limits. -/
def limited : State :=
  let s := counted .traverse 3000
  { s with
    headA := { s.headA with reg := { s.headA.reg with satRun := 500 } }
    ring := { s.ring with stale := ⟨5, 0, 5⟩ } }

theorem test_meets_FixedGuardsSendTheirOrders :
    limited.power = .running ∧ limited.active = true ∧ limited.headA.seq.state = .traverse ∧
    limited.headA.fired.saturation = false ∧ limited.headA.profile.limits.saturationLimit ≤ limited.headA.reg.satRun ∧
    limited.headA.fired.holdLimit = false ∧ limited.headA.profile.limits.holdLimit ≤ limited.headA.seq.holdTimer ∧
    limited.headA.seq.state.working = true ∧ limited.headA.fired.headStale = false ∧
    limited.headA.profile.limits.staleLimit ≤ limited.headStaleCount .a ∧ limited.gantryFired.xStale = false ∧
    limited.gantry.xStaleLimit ≤ limited.ring.stale.x := by decide

/-- R128: the hold timer of a TRAVERSE at rest, in motion, and of a PLUNGE that has not starved. -/
theorem test_hold_timer_sets :
    let moving := { limited with ring := { limited.ring with output := { limited.ring.output with xSpeed := 1 } } }
    ((limited.workSequencer false .a).headA.seq.holdTimer, (moving.workSequencer true .a).headA.seq.holdTimer,
      ((counted .plunge 9).workSequencer true .a).headA.seq.holdTimer) = (3001, 0, 0) := by decide

/-- A WAITING head whose plunge X lies behind the bridge in a RUNNING pass, with the STOP line asserted. -/
def missed : State :=
  let s := inPass .running (seqIn .waiting [startA])
  { s with planner := { s.planner with measuredX := 2000 }, lines := { s.lines with stop := true } }

theorem test_meets_FixedGuardsSendTheirOrders_on_a_set :
    missed.stopLineDue = true ∧ missed.startMissedBy .a = some 1000 ∧ .stopLine ∈ missed.inputCauses false ∧
    .startMissed .a 1000 ∈ missed.inputCauses true := by decide

/-- R82, R125 to R129: the guards on head counters, SATURATION on accepted sets alone; NO_CONTACT below half the plunge
force at the descent limit; and a fired flag that stands while its guard is armed. -/
theorem test_meets_FixedGuardsSendTheirOrders_on_counters :
    let s := plunging .descent 2499 5000
    let fired : State := { limited with
      headA := { limited.headA with fired := ⟨true, true, true, true⟩ }, gantryFired := ⟨true, true, true, true⟩ }
    limited.counterCauses true .a = [.saturation .a 500, .holdLimit .a 3000] ∧
    limited.counterCauses false .a = [.holdLimit .a 3000] ∧
    (counted .spinup 5000).counterCauses false .a = [.spinupTimeout .a 5000] ∧
    (counted .spinup 4999).counterCauses true .a = [] ∧ s.contactCauses = [.noContact .a 2499] ∧
    (plunging .descent 2500 5000).contactCauses = [] ∧
    ((s.workNoContact true).headA.exitPhase, (s.workNoContact true).headA.reg.demand) = (some .retract, 4980) ∧
    fired.dropFired.headA.fired = ⟨true, true, false, true⟩ ∧ fired.dropFired.gantryFired = fired.gantryFired ∧
    ({ fired with pass := { fired.pass with state := .complete } } : State).dropFired.gantryFired = .clear := by decide

/-- R124: an EXIT order and a HALT all taken together leave FAULT and one stopped head, in whichever order they are
taken, although either alone would have ended the pass. -/
theorem test_exit_and_halt_together :
    let both := fun (cs : List Cause) => (cs.foldl State.takeCause missed).testPassEnd
    let seen := fun (t : State) => (t.service.mode, t.pass.state, t.headA.seq.state, t.headA.seq.order)
    seen (both [.startMissed .a 1000, .stopLine]) = (.fault, .aborted, .stopped, .withdraw) ∧
    seen (both [.stopLine, .startMissed .a 1000]) = (.fault, .aborted, .stopped, .withdraw) := by decide

/-! ## Witnesses: orders, guards, the map and the work of a set -/

theorem test_meets_ExitOrdersByHeadState :
    (ready.headA.seq.state.working = false) ∧ (counted .spinup 0).headA.seq.order = .none ∧
    (counted .spinup 0).headA.seq.state = .spinup ∧ (plunging .seat 0 0).headA.seq.state = .plunge ∧
    (counted .traverse 0).headA.seq.state = .traverse ∧ (exiting .exit .brake .rising 0).headA.seq.order = .none ∧
    (exiting .exit .brake .rising 0).headA.seq.state = .exit := by decide

theorem test_meets_HaltsClearTheSeam :
    limited.active = true ∧ limited.isPassHead .a = true ∧ limited.headA.seq.order ≠ .withdraw ∧
    limited.headA.inSeam = true ∧ (counted .spinup 0).headA.inSeam = false ∧
    (counted .spinup 0).headState .a ≠ .withdraw ∧ ((counted .spinup 0).headState .a).working = true ∧
    limited.isPassHead .b = false ∧ limited.planner.xMode ≠ .quickstop ∧ limited.haltAll.active = true ∧
    limited.service.mode = .ready ∧
    limited.pass.linked = false ∧ limited.haltAll.halted = true ∧ limited.haltAll.testPassEnd.active = true ∧
    (limited.headHalt .a).testPassEnd.active = true ∧ (limited.haltAll.headA.seq.order = .withdraw) ∧
    (exiting .withdraw .brake .rising 0).headA.inSeam = false ∧
    (exiting .withdraw .brake .rising 0).headState .a = .withdraw := by decide

/-- A pass of both heads, A in TRAVERSE and B as its sequencer says, linked or not. -/
def together (linked : Bool) (b : Sequencer) : State :=
  { limited with
    pass := { limited.pass with heads := .both, linked := linked }
    headB := { limited.headB with seq := b } }

/-- R23, R24: a head HALT of A stops a waiting head B of a linked pass, and holds an unlinked one. -/
theorem test_head_halt_by_link :
    let b := seqIn .waiting [startA]
    let t := (together true b).headHalt .a
    let u := (together false b).headHalt .a
    (t.headState .a, t.headState .b, t.pass.state) = (.withdraw, .stopped, .running) ∧
    (u.headState .a, u.headState .b, u.pass.state, u.pass.holdCause) = (.withdraw, .waiting, .held, .halt) := by decide

/-- R16, R86: a BRAKE entered with the X command of the previous output set 0 makes its first retract step at once. -/
theorem test_brake_ends_on_its_first_set :
    let s := exiting .exit .brake .rising 5000
    let out := { s.ring.output with a := { s.ring.output.a with zDemand := 5000 } }
    let t := ({ s with ring := { s.ring with output := out } } : State).formRamp true .a
    t.headA.seq.progress.exitPhase = some .retract ∧ t.headA.reg.demand = 4980 := by decide

/-- R12, R24, R66: an approach whose head has stopped is braking; a HALT all sets its X command to 0 and so ends the pass,
and the output set of that set carries QUICKSTOP. -/
theorem test_halt_all_ends_a_braking_pass :
    let s := inPass .approach { Sequencer.initial with state := .stopped }
    let t := ({ s with planner := { s.planner with xCommand := 300, xMode := .move } } : State).haltAll
    let u := t.testPassEnd
    (u.pass.state, u.planner.xCommand, u.planner.xMode, u.service.mode) = (.aborted, 0, .still, .fault) ∧
    (u.formOutputs.ring.output.xSpeed, u.formOutputs.ring.output.xMode) = (0, .quickstop) := by decide

/-- The guard of 7.9 enabled on head A, with a running pass. -/
def guarding (action : Action) (tripped : Bool) : State :=
  { limited with
    guards := [{ guard79 with
      enabled := true, channel := .torque, owner := .head .a, arm := 8, action := action, tripped := tripped }]
    ring := { limited.ring with handed := limited.ring.handed.set 1 1801 } }

theorem test_meets_GuardFiltersTrip :
    let g := { guard79 with enabled := true, channel := Channel.torque, arm := 8 }
    (guarding .slow false).armed g = true ∧ (guarding .slow false).channelValue g = some 1801 ∧
    g.window.length < 3 ∧ ({ g with window := [true, true, false] } : GuardRecord).window.length = 3 ∧
    (guarding .hold false).guards[0]? = some ((guarding .hold false).guards.getD 0 .initial) ∧
    ready.armed g = false ∧ limited.channelValue { g with channel := .forceError } = none := by decide

/-- R121, R123: the guard of 7.9 with one result more trips; as a HOLD guard it raises GUARD_TRIP with index 0 and action 2
and holds the pass with cause GUARD. -/
theorem test_hold_guard_holds :
    let s := guarding .hold false
    let armed : State := { s with guards := s.guards.map fun g => ({ g with window := [true, true] } : GuardRecord) }
    let t := armed.takeCause (.guard 0 1801)
    armed.guardTripsFrom 0 armed.guards = [.guard 0 1801] ∧
    (t.pass.state, t.pass.holdCause) = (.held, .guard) ∧ t.events.entries = [⟨.guardTrip, 1, 0, 512⟩] := by decide

/-- R119, R121, R123: an accepted set judges the guard records and takes their trips; a coast set does neither. -/
theorem test_meets_GuardFiltersTrip_on_a_set :
    let s := guarding .hold false
    let armed : State := { s with
      headA := { s.headA with seq := seqIn .traverse [traverseA], reg := { s.headA.reg with satRun := 0 } }
      guards := s.guards.map fun g => ({ g with window := [true, true] } : GuardRecord) }
    let seen := fun (t : State) => (t.guards.map GuardRecord.tripped, t.events.entries.map EventEntry.kind)
    armed.disarmGuards.guardTripsFrom 0 armed.disarmGuards.guards ≠ [] ∧ armed.events.enables .guardTrip = true ∧
    (seen (armed.workGuards true)).1 = [true] ∧ .guardTrip ∈ (seen (armed.workGuards true)).2 ∧
    (seen (armed.workGuards false)).1 = [false] ∧ .guardTrip ∉ (seen (armed.workGuards false)).2 := by decide

/-- R87, R90, R123: a head that an order has moved into RUNOUT, WITHDRAW or STOPPED has its demand formed again; one that
stands as before has not. -/
theorem test_meets_GuardFiltersTrip_reformed :
    let moved := fun (s : State) (demand : Int) => ({ s with
      headA := { s.headA with reg := { s.headA.reg with exitRecord := some ⟨.runOut, 20, 100000, some 1000, some 5001⟩ } }
      ring := { s.ring with output := { s.ring.output with a := { s.ring.output.a with zDemand := demand } } } } : State)
    let formed := fun (s : State) accepted => ((s.reformDemand accepted limited .a).headA.reg.demand)
    let runs : State := moved { exiting .exit .runout .rising 7 with
      headA := { (exiting .exit .runout .rising 7).headA with
        seq := { (exiting .exit .runout .rising 7).headA.seq with station := 51000 } } } 5001
    formed limited true = limited.headA.reg.demand ∧ formed runs true = 2500 ∧ formed runs false = 5001 ∧
    formed (moved (exiting .exit .retract .rising 7) 5001) true = 4981 ∧
    formed (moved (exiting .withdraw .brake .rising 7) 5001) true = 4901 ∧
    ((moved (exiting .withdraw .brake .rising 7) (-9950)).reformDemand true limited .a).headA.reg.withdraw = .spinstop ∧
    formed (moved (exiting .stopped .brake .rising 7) 5001) true = -10000 := by decide

/-- R119, R122: a tripped HALT guard forms no result, a tripped SLOW guard does and untrips. -/
theorem test_latched_guard_stands :
    let g := fun action => ({ guard79 with
      enabled := true, channel := .torque, arm := 8, action := action, tripped := true } : GuardRecord)
    limited.judgeGuard (g .halt) = g .halt ∧ (limited.judgeGuard (g .slow)).tripped = false := by decide

theorem test_meets_GuardsArmAndHandCaps :
    let s := guarding .slow true
    s.armed (s.guards.getD 0 .initial) = true ∧ (ready.armed guard79 = false ∧ guard79.enabled = false) ∧
    s.guards.all (fun g => g.tripped && decide (g.action = .slow) && decide (g.owner = .head .a)) = true ∧
    (s.guards.map GuardRecord.cap) = [900] ∧ limited.guards.all (fun g => !g.tripped) = true := by decide

theorem test_meets_MapLookupInterpolates :
    map621.Pairwise (fun p q => p.station < q.station) ∧ map621.head? = some ⟨1000000, 1000, 0⟩ ∧
    map621.getLast? = some ⟨1600000, 1030, 80⟩ ∧ map621[0]? = some ⟨1000000, 1000, 0⟩ ∧
    map621[1]? = some ⟨1000400, 1001, -3⟩ ∧ (1000000 : Int) ≤ 1000399 ∧ (1000399 : Int) < 1000400 ∧
    (∀ p ∈ map621, 500 ≤ p.kf ∧ p.kf ≤ 1500 ∧ -2000 ≤ p.dz ∧ p.dz ≤ 2000) := by decide

theorem test_meets_FenceKeepsTheLookupBelow :
    let s := { fenced (some 970000) with pending := [.writeRecordMap (pointAt 3 [96, 227, 22, 0, 1, 4, 30, 0])] }
    MapOk s .a ∧ (s.head .a).map.fence = some 970000 ∧ (∀ straps rest, s.pending ≠ .powerOn straps :: rest) ∧
    (969999 : Int) < 970000 ∧ ∃ t, step s = .next t ∧ t.headA.map.points[3]? = some ⟨1500000, 1025, 30⟩ := by
  refine ⟨?_, by decide, ?_, by decide, _, rfl, by decide⟩
  · unfold MapOk CompMap.ordered
    decide
  · intro straps rest h
    cases h

/-- R106, R71, R166: a set leaves the plunging head with a fence and a demand, the parked one with neither. -/
theorem test_set_leaves_fence_and_outputs :
    let t := plunged.workSet false false
    (t.headA.map.fence, t.headB.map.fence) = (some (plunged.headA.seq.station + plunged.gantry.fenceMargin), none) ∧
    t.ring.output.a = ⟨4000, .position, 800, 0⟩ ∧
    t.ring.output.b = ⟨t.headB.profile.depth.clear, .park, 0, 0⟩ ∧ t.ring.output.xMode = .still := by decide

theorem test_meets_OneSetStaysInBounds :
    ProfileInRange .default ∧ HeadProfile.default.depth.dMin < HeadProfile.default.depth.dMax ∧
    (3000 : Int) ≤ 3000 ∧ (2999 : Int) < HeadProfile.default.depth.dMin ∧ HeadProfile.default.depth.dMax < 7001 ∧
    min HeadProfile.default.trim.speedFloor 1000 ≤ 700 ∧ min HeadProfile.default.trim.spindleFloor 1000 ≤ 800 ∧
    mag (-3000) ≤ HeadProfile.default.trim.yLim := ⟨test_profile_in_range, by decide⟩

/-- The states of a head that the steps of one set are stated of. -/
theorem test_meets_OneSetStaysInBounds_by_state :
    let out := fun (p : ExitPhase) => (exiting .exit p .rising 5000).headA
    let e : ExitRecord := ⟨.runOut, 20, 100000, some 1000, some 5000⟩
    let r := (out .runout).reg
    (seqIn .waiting [startA]).state.parked = true ∧ (out .retract).exitPhase = some .retract ∧
    (out .runout).exitPhase = some .runout ∧ ({ r with exitRecord := some e } : Regulator).exitRecord = some e ∧
    e.startStation = some 1000 ∧ e.startDepth = some 5000 ∧
    (exiting .withdraw .brake .rising 0).headA.seq.state = .withdraw ∧ limited.headA.seq.state = .traverse ∧
    ¬ ((5000 : Int) = -10000) := by decide

/-- R72, R105: half-way along a repetition, at its end, in a DWELL, in a BRAKE with the bridge moving and in the coast set of
a SEAT. -/
theorem test_targets_of_a_set :
    let turn := fun reached => inPass .running { seqIn .traverse [traverseA, exitA true] with
      progress := { Progress.cleared with
        s0 := 100, v0 := ⟨20000, 12000, 1000, 5000⟩, v1 := ⟨24000, 12000, 1100, 5200⟩, endReached := reached }
      station := 250100 }
    let braking := { exiting .exit .brake .rising 0 with ring := { ready.ring with
      output := { ready.ring.output with xSpeed := 1 } } }
    let seen := fun (s : State) accepted =>
      let r := (s.workRegulator accepted .a).headA.reg
      (r.segment.force, r.segment.rpm, r.target, r.nominal)
    (turn false).headA.seq.executingRecord = some (.traverse 2 500000 24000 12000 1100 5200) ∧ (0 : Int) < 500000 ∧
    seen (turn false) true = (22000, 1050, 22000, 5100) ∧ seen (turn true) false = (24000, 1100, 24000, 5200) ∧
    seen (plunging .seat 0 0) false = (5000, 800, 5000, 5000) ∧ braking.headA.exitPhase = some .brake ∧
    braking.ring.output.xSpeed ≠ 0 ∧ (ending .dwell [dwellA] false false 0).headA.seq.state = .dwell := by decide

/-- R87: half of a run-out travelled leaves half of its start depth. -/
theorem test_runout_is_linear :
    (⟨.runOut, 20, 100000, some 1000, some 5001⟩ : ExitRecord).runOutDemand 51000 5001 = 2500 := by decide

/-- R58, R61: a PASS ABORT that ends the pass between sets leaves neither a stop point nor an X demand. -/
theorem test_abort_empties_the_planner_record :
    let s := { together false (seqIn .waiting [startA]) with
      headA := { limited.headA with seq := seqIn .spinup [startA] }
      planner := { limited.planner with stopPoints := [⟨.b, .plunge, 1000⟩], xDemand := 5 } }
    let t := s.abortPass
    (t.pass.state, t.planner.stopPoints, t.planner.xDemand) = (.aborted, [], 0) := by decide

theorem test_meets_SetsBeginWithMeasuredX :
    let s := arriving (List.replicate 64 0) true
    s.active = false ∧ limited.active = true ∧ limited.planner.xMode ≠ .quickstop ∧ limited.haltAll.planner.xMode = .quickstop ∧
    marking.planner.markCount + 1 = marking.gantry.markFilter ∧ marking.planner.markHeld = false ∧
    marking.markEdge.planner.markHeld = true ∧ ready.gantry.markFilter ≤ ({ ready.planner with markCount := 2 } : Planner).markCount ∧
    limited.planner.markCount < limited.gantry.markFilter ∧
    limited.lines.mark = false ∧ ({ limited with lines := { limited.lines with mark := true } } : State).lines.mark = true ∧
    s.power = .running ∧ s.service.resetDue = false ∧ s.port.passing = some ⟨List.replicate 64 0, true, []⟩ ∧
    s.covers 64 = true ∧ s.ring.isEarly 1500 = false ∧ s.ring.window = some 2500 ∧
    s.ring.timing = some ⟨1000, 1000⟩ := by decide

theorem test_passHeadsOk {s : State} (ok : ∀ h ∈ [HeadId.a, .b],
    ((s.headState h).working = true → s.active = true ∧ s.isPassHead h = true) ∧
    (s.active = true → s.isPassHead h = true → s.gantry.present.has h = true) ∧
    (s.pass.state = .approach → s.isPassHead h = true → s.headState h = .waiting ∨ s.headState h = .stopped)) :
    PassHeadsOk s := by
  have ok : ∀ h, _ := fun h => ok h (by cases h <;> simp)
  exact ⟨fun h => (ok h).1, fun hs h => (ok h).2.1 hs, fun hs h => (ok h).2.2 hs⟩

theorem test_meets_SetsEndWithTheRamp_in_agreement :
    PassHeadsOk limited ∧ PassHeadsOk limited.haltAll ∧ PassHeadsOk (approaching 101) ∧ PassHeadsOk (approaching 100) ∧
    PassHeadsOk (plunging .seat 0 0) ∧ PassHeadsOk missed ∧ PassHeadsOk (heldFor .guard) ∧ PassHeadsOk ready :=
  ⟨test_passHeadsOk (by decide), test_passHeadsOk (by decide), test_passHeadsOk (by decide), test_passHeadsOk (by decide),
    test_passHeadsOk (by decide), test_passHeadsOk (by decide), test_passHeadsOk (by decide), test_passHeadsOk (by decide)⟩

/-- R53, R142: behind an edge a filter raised from 2 to 3 gives no further edge until MARK has read negated, and behind a
filter written lower than the counter, without an edge, none comes either. -/
theorem test_mark_edge_waits_for_negation :
    let read := fun (mark : Bool) (s : State) => ({ s with lines := { s.lines with mark := mark } } : State).sampleMark
    let filter := fun (n : Nat) (s : State) => s.putGantry { s.gantry with markFilter := n }
    let count := fun (s : State) => s.planner.latchCount
    let raised := read true (read true (filter 3 (read true marking)))
    let lowered := filter 3 (filter 1 (read true (read true (filter 4 ready))))
    (count (read true marking), count raised, count (read true (read true (read true (read false raised))))) = (1, 1, 2) ∧
    (count (read true (read true lowered)), count (read true (read true (read true (read false lowered))))) = (0, 1) := by
  decide

theorem test_meets_SetsEndWithTheRamp :
    let s := { limited with headA := { limited.headA with trim := { limited.headA.trim with vh := some 12000 } } }
    (0 : Int) < rampStep 1000 500 ∧ ramp 1 1 1 (-5) = 0 ∧ ramp 1 1 0 0 = 0 ∧ s.pass.state = .running ∧
    s.headState .a = .traverse ∧ s.isPassHead .a = true ∧ s.headA.trim.vh = some 12000 ∧ s.headB.trim.vh = none ∧
    s.planner.xMode ≠ .quickstop ∧ 0 < s.gantry.acc ∧ 0 < s.gantry.dec ∧ s.haltAll.planner.xMode = .quickstop ∧
    (approaching 101).gantry.arrivalTol < mag ((approaching 101).pass.approachX - (approaching 101).planner.measuredX) ∧
    mag ((approaching 100).pass.approachX - (approaching 100).planner.measuredX) ≤ (approaching 100).gantry.arrivalTol ∧
    (plunging .seat 0 0).headState .a = .plunge ∧ missed.headState .a = .waiting ∧ missed.plungeX .a = some 1000 ∧
    (heldFor .guard).pass.state = .held ∧ ready.active = false := by decide

/-- R151, R169: a reset meets a frame of 70 bytes when some of them have left the node, behind the answered area or within
it. The rest leaves as it arrived, and the check is bad only where the node had begun to write. -/
theorem test_reset_cuts_a_frame :
    let s := fun written => ({ ready with port := { ready.port with
      passing := some ⟨List.replicate 70 0, true, written⟩
      outgoing := some ⟨List.replicate 70 9, .regenerated⟩ } } : State)
    let left := fun passed written => match exec (.resetLine ⟨100, passed⟩) (s written) with
      | .next t => t.port.outgoing
      | _ => none
    left 66 [64] = some ⟨List.replicate 66 9 ++ List.replicate 4 0, .bad⟩ ∧
    left 66 [66] = some ⟨List.replicate 66 9 ++ List.replicate 4 0, .unchanged⟩ ∧
    left 10 [0, 64] = some ⟨List.replicate 10 9 ++ List.replicate 60 0, .bad⟩ ∧
    left 64 [64] = some ⟨List.replicate 64 9 ++ List.replicate 6 0, .unchanged⟩ ∧
    left 0 [0] = some ⟨List.replicate 70 0, .unchanged⟩ := by decide

/-- R189, R191: a linked flag that is no code of its table is refused with VALUE. -/
theorem test_linked_flag_checked :
    ∃ t, exec (.passStart (passStart 3 0 2)) loaded = .next t ∧ t.pass.state = .idle ∧
      (t.service.lastReply.map LastReply.reply) = some .value := ⟨_, rfl, by decide, by decide⟩

end Sys2Proof.Tests
end

section
/-! SUPPORT. One rule for each operation that the pass controller and the head sequencer share: what it changes,
written as an update of the records it touches, and what it leaves as it stands. -/

namespace Sys2Proof.Machine

/-! ### Events and faults change the event unit alone -/

theorem State.raise_eq (s : State) (k : EventKind) (d : Nat) :
    s.raise k d = { s with events := (s.raise k d).events } := by
  unfold State.raise
  split <;> rfl

@[simp] theorem State.raise_head (s : State) (k : EventKind) (d : Nat) (h : HeadId) :
    (s.raise k d).head h = s.head h := by
  rw [State.raise_eq]; cases h <;> rfl

@[simp] theorem State.raise_pass (s : State) (k : EventKind) (d : Nat) : (s.raise k d).pass = s.pass := by
  rw [State.raise_eq]

@[simp] theorem State.raise_planner (s : State) (k : EventKind) (d : Nat) :
    (s.raise k d).planner = s.planner := by
  rw [State.raise_eq]

@[simp] theorem State.raise_guards (s : State) (k : EventKind) (d : Nat) : (s.raise k d).guards = s.guards := by
  rw [State.raise_eq]

@[simp] theorem State.raise_ring (s : State) (k : EventKind) (d : Nat) : (s.raise k d).ring = s.ring := by
  rw [State.raise_eq]

@[simp] theorem State.raise_gantry (s : State) (k : EventKind) (d : Nat) : (s.raise k d).gantry = s.gantry := by
  rw [State.raise_eq]

@[simp] theorem State.raise_service (s : State) (k : EventKind) (d : Nat) :
    (s.raise k d).service = s.service := by
  rw [State.raise_eq]

@[simp] theorem State.raise_active (s : State) (k : EventKind) (d : Nat) : (s.raise k d).active = s.active := by
  simp [State.active]

theorem State.recordFault_eq (s : State) (k : FaultKind) (o : Option HeadId) (station v : Int) :
    s.recordFault k o station v = { s with events := (s.recordFault k o station v).events } := rfl

theorem State.takeFault_eq (s : State) (k : FaultKind) (o : Option HeadId) (station v : Int) :
    s.takeFault k o station v = { s with events := (s.takeFault k o station v).events } := by
  unfold State.takeFault
  dsimp only
  split
  · rw [State.raise_eq, State.raise_eq, State.recordFault_eq]
  · rw [State.raise_eq, State.recordFault_eq]

@[simp] theorem State.takeFault_head (s : State) (k : FaultKind) (o : Option HeadId) (station v : Int) (h : HeadId) :
    (s.takeFault k o station v).head h = s.head h := by
  rw [State.takeFault_eq]; cases h <;> rfl

@[simp] theorem State.takeFault_pass (s : State) (k : FaultKind) (o : Option HeadId) (station v : Int) :
    (s.takeFault k o station v).pass = s.pass := by
  rw [State.takeFault_eq]

@[simp] theorem State.takeFault_planner (s : State) (k : FaultKind) (o : Option HeadId) (station v : Int) :
    (s.takeFault k o station v).planner = s.planner := by
  rw [State.takeFault_eq]

@[simp] theorem State.takeFault_ring (s : State) (k : FaultKind) (o : Option HeadId) (station v : Int) :
    (s.takeFault k o station v).ring = s.ring := by
  rw [State.takeFault_eq]

@[simp] theorem State.takeFault_gantry (s : State) (k : FaultKind) (o : Option HeadId) (station v : Int) :
    (s.takeFault k o station v).gantry = s.gantry := by
  rw [State.takeFault_eq]

@[simp] theorem State.takeFault_guards (s : State) (k : FaultKind) (o : Option HeadId) (station v : Int) :
    (s.takeFault k o station v).guards = s.guards := by
  rw [State.takeFault_eq]

@[simp] theorem State.takeFault_active (s : State) (k : FaultKind) (o : Option HeadId) (station v : Int) :
    (s.takeFault k o station v).active = s.active := by
  simp [State.active]

/-! ### One head changed: the rest of the state -/

@[simp] theorem State.modHead_active (s : State) (h : HeadId) (f : Head → Head) :
    (s.modHead h f).active = s.active := by
  simp [State.active]

@[simp] theorem State.modHead_isPassHead (s : State) (h g : HeadId) (f : Head → Head) :
    (s.modHead h f).isPassHead g = s.isPassHead g := by
  simp [State.isPassHead]

@[simp] theorem State.modHead_input (s : State) (h g : HeadId) (f : Head → Head) (c : HeadInput) :
    (s.modHead h f).input g c = s.input g c := by
  simp [State.input]

@[simp] theorem State.modHead_prevDemand (s : State) (h g : HeadId) (f : Head → Head) :
    (s.modHead h f).prevDemand g = s.prevDemand g := by
  cases g <;> simp [State.prevDemand]

/-- Two updates of one head in a row. -/
@[simp] theorem State.modHead_modHead (s : State) (h : HeadId) (f g : Head → Head) :
    (s.modHead h f).modHead h g = s.modHead h fun x => g (f x) := by
  cases h <;> rfl

/-- Updates of one head that agree on what they meet. -/
theorem State.modHead_congr {s : State} {h : HeadId} {f g : Head → Head} (e : f (s.head h) = g (s.head h)) :
    s.modHead h f = s.modHead h g := by
  unfold State.modHead
  rw [e]

/-- An update that leaves the head as it is. -/
theorem State.modHead_self {s : State} {h : HeadId} {f : Head → Head} (e : f (s.head h) = s.head h) :
    s.modHead h f = s := by
  unfold State.modHead
  rw [e]
  cases h <;> rfl

theorem State.modSeq_eq (s : State) (h : HeadId) (f : Sequencer → Sequencer) :
    s.modSeq h f = s.modHead h fun x => { x with seq := f x.seq } := rfl

theorem State.modProgress_eq (s : State) (h : HeadId) (f : Progress → Progress) :
    s.modProgress h f = s.modHead h fun x => { x with seq := { x.seq with progress := f x.seq.progress } } := rfl

theorem State.modReg_eq (s : State) (h : HeadId) (f : Regulator → Regulator) :
    s.modReg h f = s.modHead h fun x => { x with reg := f x.reg } := rfl

theorem State.modFired_eq (s : State) (h : HeadId) (f : HeadFired → HeadFired) :
    s.modFired h f = s.modHead h fun x => { x with fired := f x.fired } := rfl

/-! ### Leaving the pass -/

/-- A head that leaves the pass in STOPPED (R18, R20, R22, R71). -/
def Head.stopped (x : Head) : Head :=
  { x with
    seq := { x.seq with state := .stopped, executing := false, progress := .cleared, queue := [], lastKind := none }
    reg := x.reg.cleared
    trim := { x.trim with spindle := 0 } }

/-- A head that leaves the pass in FINISHED (R18, R71). -/
def Head.finished (x : Head) : Head :=
  { x with
    seq := { x.seq with state := .finished, executing := false, progress := .cleared }
    reg := x.reg.cleared }

theorem State.stopHead_eq (s : State) (h : HeadId) :
    s.stopHead h = (s.modHead h Head.stopped).clearLatched fun o => decide (o = .head h) := by
  cases h <;> rfl

theorem State.finishHead_eq (s : State) (h : HeadId) :
    s.finishHead h = (s.modHead h Head.finished).clearLatched fun o => decide (o = .head h) := by
  cases h <;> rfl

@[simp] theorem State.clearLatched_head (s : State) (f : Owner → Bool) (h : HeadId) :
    (s.clearLatched f).head h = s.head h := by
  cases h <;> rfl

@[simp] theorem State.clearLatched_pass (s : State) (f : Owner → Bool) : (s.clearLatched f).pass = s.pass := rfl

@[simp] theorem State.clearLatched_planner (s : State) (f : Owner → Bool) :
    (s.clearLatched f).planner = s.planner := rfl

@[simp] theorem State.clearLatched_gantry (s : State) (f : Owner → Bool) :
    (s.clearLatched f).gantry = s.gantry := rfl

@[simp] theorem State.clearLatched_ring (s : State) (f : Owner → Bool) : (s.clearLatched f).ring = s.ring := rfl

@[simp] theorem State.clearLatched_events (s : State) (f : Owner → Bool) :
    (s.clearLatched f).events = s.events := rfl

@[simp] theorem State.stopHead_head (s : State) (h : HeadId) : (s.stopHead h).head h = (s.head h).stopped := by
  simp [State.stopHead_eq]

@[simp] theorem State.stopHead_other (s : State) (h : HeadId) : (s.stopHead h).head h.other = s.head h.other := by
  simp [State.stopHead_eq]

@[simp] theorem State.stopHead_pass (s : State) (h : HeadId) : (s.stopHead h).pass = s.pass := by
  simp [State.stopHead_eq]

@[simp] theorem State.stopHead_planner (s : State) (h : HeadId) : (s.stopHead h).planner = s.planner := by
  simp [State.stopHead_eq]

@[simp] theorem State.stopHead_gantry (s : State) (h : HeadId) : (s.stopHead h).gantry = s.gantry := by
  simp [State.stopHead_eq]

@[simp] theorem State.stopHead_ring (s : State) (h : HeadId) : (s.stopHead h).ring = s.ring := by
  simp [State.stopHead_eq]

@[simp] theorem State.stopHead_events (s : State) (h : HeadId) : (s.stopHead h).events = s.events := by
  simp [State.stopHead_eq]

@[simp] theorem State.finishHead_head (s : State) (h : HeadId) : (s.finishHead h).head h = (s.head h).finished := by
  simp [State.finishHead_eq]

@[simp] theorem State.finishHead_other (s : State) (h : HeadId) :
    (s.finishHead h).head h.other = s.head h.other := by
  simp [State.finishHead_eq]

@[simp] theorem State.finishHead_pass (s : State) (h : HeadId) : (s.finishHead h).pass = s.pass := by
  simp [State.finishHead_eq]

@[simp] theorem State.finishHead_gantry (s : State) (h : HeadId) : (s.finishHead h).gantry = s.gantry := by
  simp [State.finishHead_eq]

/-! ### The end of a pass -/

/-- The pass record of a pass that ends (R12). -/
def State.endedPass (s : State) : PassRecord :=
  { s.pass with
    state := if s.pass.heads.members.all (fun h => decide (s.headState h = .finished)) then .complete else .aborted }

/-- The planner record of a pass that ends (R12, R58, R61). -/
def Planner.ended (p : Planner) : Planner :=
  { p with xMode := if p.xMode = .quickstop then .still else p.xMode, stopPoints := [], xDemand := 0 }

/-- A head whose fired flags are cleared (R126). -/
def Head.unfired (x : Head) : Head :=
  { x with fired := .clear }

@[simp] theorem State.clearFired_head (s : State) (h : HeadId) : s.clearFired.head h = (s.head h).unfired := by
  cases h <;> rfl

/-- Raising an event does not read the pass record. -/
theorem State.raise_pass_update (s : State) (p : PassRecord) (k : EventKind) (d : Nat) :
    ({ s with pass := p } : State).raise k d = { s with pass := p, events := (s.raise k d).events } := by
  unfold State.raise
  dsimp only
  split <;> rfl

theorem State.endPass_eq (s : State) :
    s.endPass = { s with
      pass := s.endedPass
      planner := s.planner.ended
      events := (s.raise .passEnd (detailNumber s.pass.number)).events
      guards := (s.clearLatched fun o => decide (o = .gantry)).guards
      headA := s.headA.unfired
      headB := s.headB.unfired
      gantryFired := .clear } := by
  unfold State.endPass
  dsimp only
  rw [State.raise_pass_update]
  rfl

@[simp] theorem State.endPass_head (s : State) (h : HeadId) : s.endPass.head h = (s.head h).unfired := by
  rw [State.endPass_eq]; cases h <;> rfl

@[simp] theorem State.endPass_pass (s : State) : s.endPass.pass = s.endedPass := by
  rw [State.endPass_eq]

@[simp] theorem State.endPass_planner (s : State) : s.endPass.planner = s.planner.ended := by
  rw [State.endPass_eq]

@[simp] theorem State.endPass_gantry (s : State) : s.endPass.gantry = s.gantry := by
  rw [State.endPass_eq]

@[simp] theorem State.endPass_ring (s : State) : s.endPass.ring = s.ring := by
  rw [State.endPass_eq]

@[simp] theorem State.endedPass_active (s : State) : s.endedPass.state.active = false := by
  unfold State.endedPass
  dsimp only
  split <;> rfl

/-- The pass-end test leaves every head but its fired flags (R12, R126). -/
theorem State.testPassEnd_head (s : State) (h : HeadId) :
    s.testPassEnd.head h = s.head h ∨ s.testPassEnd.head h = (s.head h).unfired := by
  unfold State.testPassEnd
  split
  · exact .inr (s.endPass_head h)
  · exact .inl rfl

@[simp] theorem State.testPassEnd_seq (s : State) (h : HeadId) : (s.testPassEnd.head h).seq = (s.head h).seq := by
  rcases s.testPassEnd_head h with e | e
  · rw [e]
  · rw [e]; rfl

@[simp] theorem State.testPassEnd_reg (s : State) (h : HeadId) : (s.testPassEnd.head h).reg = (s.head h).reg := by
  rcases s.testPassEnd_head h with e | e
  · rw [e]
  · rw [e]; rfl

@[simp] theorem State.testPassEnd_trim (s : State) (h : HeadId) :
    (s.testPassEnd.head h).trim = (s.head h).trim := by
  rcases s.testPassEnd_head h with e | e
  · rw [e]
  · rw [e]; rfl

@[simp] theorem State.testPassEnd_headState (s : State) (h : HeadId) :
    s.testPassEnd.headState h = s.headState h := by
  simp [State.headState]

@[simp] theorem State.testPassEnd_ring (s : State) : s.testPassEnd.ring = s.ring := by
  unfold State.testPassEnd
  split <;> simp

@[simp] theorem State.testPassEnd_gantry (s : State) : s.testPassEnd.gantry = s.gantry := by
  unfold State.testPassEnd
  split <;> simp

/-- The heads a set of heads names are its members. -/
theorem HeadSet.mem_members (p : HeadSet) (h : HeadId) : h ∈ p.members ↔ p.has h = true := by
  simp [HeadSet.has]

/-- The pass-end test is met exactly where an active pass has only heads that have left it and stands still (R12). -/
theorem State.passEndDue_iff (s : State) : s.passEndDue = true ↔
    s.active = true ∧ (∀ h, s.isPassHead h = true → (s.headState h).left = true) ∧ s.planner.xCommand = 0 := by
  simp [State.passEndDue, State.isPassHead, HeadSet.mem_members, and_assoc]

theorem HeadState.left_iff (st : HeadState) : st.left = true ↔ st = .finished ∨ st = .stopped := by
  cases st <;> simp [HeadState.left]

end Sys2Proof.Machine
end

section
/-! SUPPORT. How heads and passes move while the blocks work: `Agree` is what passes, heads and executing records have to
do with one another, `Sound s t` says that the way from `s` to `t` keeps it, and every operation of the blocks has one
lemma here. -/

namespace Sys2Proof.Machine

open Sys2Proof.Safety

/-! ## What is kept -/

/-- What the agreement of heads and records reads of a sequencer. -/
def Sequencer.core (q : Sequencer) : HeadState × Bool × List Segment × Option SegKind × Bool :=
  (q.state, q.executing, q.queue, q.lastKind, q.faultExit)

/-- The records of a queue stand in their order, and the executing one is of the kind the state works (R28, R34). -/
def SeqOk (q : Sequencer) : Prop :=
  let kind := q.executingRecord.map Segment.kind
  Ordered q.lastKind q.queue ∧
  (q.state = .waiting → q.executing = true → kind = some .start) ∧
  (q.state = .spinup ∨ q.state = .plunge → kind = some .start) ∧
  (q.state = .dwell → kind = some .dwell) ∧
  (q.state = .traverse → kind = some .traverse) ∧
  (q.state = .exit ∨ q.state = .spindown → q.faultExit = false → kind = some .exit)

/-- Passes, heads and executing records agree. -/
structure Agree (s : State) : Prop where
  named    : ∀ h, (s.headState h).working = true → s.active = true ∧ s.isPassHead h = true
  present  : s.active = true → ∀ h, s.isPassHead h = true → s.gantry.present.has h = true
  approach : s.pass.state = .approach → ∀ h, s.isPassHead h = true →
    s.headState h = .waiting ∨ s.headState h = .stopped
  seqs     : ∀ h, SeqOk (s.head h).seq

/-- The work from `s` to `t` keeps the agreement, and the loss hold counter stands. -/
structure Sound (s t : State) : Prop where
  lossHold : t.pass.lossHold = s.pass.lossHold
  agree    : Agree s → Agree t

theorem Sound.refl (s : State) : Sound s s := ⟨rfl, id⟩

theorem Sound.trans {s t u : State} (a : Sound s t) (b : Sound t u) : Sound s u :=
  ⟨b.lossHold.trans a.lossHold, fun h => b.agree (a.agree h)⟩

theorem Sound.ite {s a b : State} {c : Prop} [Decidable c] (ha : c → Sound s a) (hb : Sound s b) :
    Sound s (if c then a else b) := by
  split
  next hc => exact ha hc
  next => exact hb

theorem Sound.foldl {α : Type} {f : State → α → State} (h : ∀ s x, Sound s (f s x)) (l : List α) (s : State) :
    Sound s (l.foldl f s) := by
  induction l generalizing s with
  | nil => exact .refl s
  | cons x xs ih => exact (h s x).trans (ih _)

/-! ## Sequencers -/

theorem SeqOk.of_core {q q' : Sequencer} (e : q'.core = q.core) (h : SeqOk q) : SeqOk q' := by
  simp only [Sequencer.core, Prod.mk.injEq] at e
  obtain ⟨hs, hx, hq, hl, hf⟩ := e
  simpa only [SeqOk, Sequencer.executingRecord, hs, hx, hq, hl, hf] using h

/-- The states of a head that has no executing record to agree with. -/
def HeadState.recordless : HeadState → Bool
  | .idle | .withdraw | .finished | .stopped => true
  | _ => false

theorem SeqOk.of_recordless {q : Sequencer} (hs : q.state.recordless = true) (ho : Ordered q.lastKind q.queue) :
    SeqOk q := by
  cases h : q.state <;> simp_all [SeqOk, HeadState.recordless]

/-- A head that waits without an executing record has none to agree with. -/
theorem SeqOk.of_waiting {q : Sequencer} (hs : q.state = .waiting) (hx : q.executing = false)
    (ho : Ordered q.lastKind q.queue) : SeqOk q := by
  simp [SeqOk, hs, hx, ho]

/-- An EXIT or a spin-down that a stop order has brought about has no executing record to agree with. -/
theorem SeqOk.of_faultExit {q : Sequencer} (hs : q.state = .exit) (hf : q.faultExit = true)
    (ho : Ordered q.lastKind q.queue) : SeqOk q := by
  simp [SeqOk, hs, hf, ho]

/-- Records of a queue without those behind the first. -/
theorem ordered_take_one {k : Option SegKind} {l : List Segment} (h : Ordered k l) : Ordered k (l.take 1) := by
  cases l with
  | nil => exact trivial
  | cons g rest => exact ⟨h.1, trivial⟩

theorem SeqOk.dropPending {q : Sequencer} (h : SeqOk q) : SeqOk { q with queue := q.queue.take 1 } := by
  have hx : ({ q with queue := q.queue.take 1 } : Sequencer).executingRecord = q.executingRecord := by
    unfold Sequencer.executingRecord
    cases q.queue <;> rfl
  obtain ⟨ho, hk⟩ := h
  unfold SeqOk
  simp only [hx]
  exact ⟨ordered_take_one ho, hk⟩

theorem SeqOk.markExit {q : Sequencer} (h : SeqOk q) : SeqOk { q with order := .exit, faultExit := true } := by
  obtain ⟨ho, hw, hs, hd, ht, -⟩ := h
  exact ⟨ho, hw, hs, hd, ht, fun _ hf => by cases hf⟩

/-! ## Single updates -/

/-- The agreement carries over to a state in which one head's sequencer has moved. -/
theorem Agree.replace {s t : State} (a : Agree s) (h : HeadId) (hp : t.pass = s.pass) (hg : t.gantry = s.gantry)
    (ho : (t.head h.other).seq.core = (s.head h.other).seq.core)
    (hw : (t.headState h).working = true → (s.headState h).working = true)
    (ha : s.pass.state = .approach → s.headState h = .waiting ∨ s.headState h = .stopped →
      t.headState h = .waiting ∨ t.headState h = .stopped)
    (hq : SeqOk (t.head h).seq) : Agree t := by
  have hso : t.headState h.other = s.headState h.other := congrArg Prod.fst ho
  have hact : t.active = s.active := by simp only [State.active, hp]
  have hnm : ∀ g, t.isPassHead g = s.isPassHead g := fun g => by simp only [State.isPassHead, hp]
  constructor
  · intro g hwg
    rw [hact, hnm]
    rcases HeadId.eq_or_other g h with rfl | rfl
    · exact a.named _ (hw hwg)
    · exact a.named _ (hso ▸ hwg)
  · intro hac g hgn
    rw [hg]
    exact a.present (hact ▸ hac) g (hnm g ▸ hgn)
  · intro hap g hgn
    rw [hp] at hap
    have hold := a.approach hap g (hnm g ▸ hgn)
    rcases HeadId.eq_or_other g h with rfl | rfl
    · exact ha hap hold
    · rwa [hso]
  · intro g
    rcases HeadId.eq_or_other g h with rfl | rfl
    · exact hq
    · exact (a.seqs _).of_core ho

theorem Sound.modHead (s : State) (h : HeadId) (f : Head → Head)
    (hw : (f (s.head h)).seq.state.working = true → (s.headState h).working = true)
    (ha : s.pass.state = .approach → s.headState h = .waiting ∨ s.headState h = .stopped →
      (f (s.head h)).seq.state = .waiting ∨ (f (s.head h)).seq.state = .stopped)
    (hq : SeqOk (s.head h).seq → SeqOk (f (s.head h)).seq) : Sound s (s.modHead h f) where
  lossHold := by simp
  agree := fun a => a.replace h (by simp) (by simp) (by simp) (by simpa [State.headState] using hw)
    (by simpa [State.headState] using ha) (by simpa using hq (a.seqs h))

/-- An update of a head within its state and queue. -/
theorem Sound.still (s : State) (h : HeadId) (f : Head → Head)
    (hc : (f (s.head h)).seq.core = (s.head h).seq.core) : Sound s (s.modHead h f) := by
  have hs : (f (s.head h)).seq.state = s.headState h := congrArg Prod.fst hc
  exact .modHead s h f (fun hw => hs ▸ hw) (fun _ ha => by rwa [hs]) (SeqOk.of_core hc)

/-- An update of a sequencer within its state and queue. -/
theorem Sound.modSeq (s : State) (h : HeadId) (f : Sequencer → Sequencer)
    (hc : (f (s.head h).seq).core = (s.head h).seq.core) : Sound s (s.modSeq h f) :=
  .still s h _ hc

theorem Sound.modProgress (s : State) (h : HeadId) (f : Progress → Progress) : Sound s (s.modProgress h f) :=
  .modSeq s h _ rfl

theorem Sound.modReg (s : State) (h : HeadId) (f : Regulator → Regulator) : Sound s (s.modReg h f) :=
  .still s h _ rfl

theorem Sound.modTrim (s : State) (h : HeadId) (f : Trim → Trim) : Sound s (s.modTrim h f) :=
  .still s h _ rfl

theorem Sound.modFired (s : State) (h : HeadId) (f : HeadFired → HeadFired) : Sound s (s.modFired h f) :=
  .still s h _ rfl

theorem Sound.modMap (s : State) (h : HeadId) (f : CompMap → CompMap) : Sound s (s.modMap h f) :=
  .still s h _ rfl

theorem Sound.planner (s : State) (p : Planner) : Sound s { s with planner := p } := ⟨rfl, fun a => ⟨a.1, a.2, a.3, a.4⟩⟩

theorem Sound.setGuards (s : State) (l : List GuardRecord) : Sound s { s with guards := l } :=
  ⟨rfl, fun a => ⟨a.1, a.2, a.3, a.4⟩⟩

theorem Sound.halted (s : State) (b : Bool) : Sound s { s with halted := b } := ⟨rfl, fun a => ⟨a.1, a.2, a.3, a.4⟩⟩

theorem Sound.gantryFired (s : State) (f : GantryFired) : Sound s { s with gantryFired := f } :=
  ⟨rfl, fun a => ⟨a.1, a.2, a.3, a.4⟩⟩

theorem Sound.service (s : State) (u : ServiceUnit) : Sound s { s with service := u } :=
  ⟨rfl, fun a => ⟨a.1, a.2, a.3, a.4⟩⟩

theorem Sound.ring (s : State) (r : RingPort) : Sound s { s with ring := r } := ⟨rfl, fun a => ⟨a.1, a.2, a.3, a.4⟩⟩

theorem Sound.events (s : State) (u : EventUnit) : Sound s { s with events := u } :=
  ⟨rfl, fun a => ⟨a.1, a.2, a.3, a.4⟩⟩

/-- The pass record changed within its heads and its activity, and without entering an approach. -/
theorem Sound.pass (s : State) (p : PassRecord) (hl : p.lossHold = s.pass.lossHold) (hh : p.heads = s.pass.heads)
    (hact : p.state.active = s.pass.state.active) (hap : p.state = .approach → s.pass.state = .approach) :
    Sound s { s with pass := p } where
  lossHold := hl
  agree := fun a => by
    have hnm : ∀ g, ({ s with pass := p } : State).isPassHead g = s.isPassHead g := fun g => by
      simp only [State.isPassHead, hh]
    have hac : ({ s with pass := p } : State).active = s.active := hact
    refine ⟨fun h hw => ?_, fun h g hg => ?_, fun h g hg => ?_, a.seqs⟩
    · rw [hnm, hac]
      exact a.named h hw
    · exact a.present (hac ▸ h) g (hnm g ▸ hg)
    · exact a.approach (hap h) g (hnm g ▸ hg)

/-! ## Events, faults and guards -/

theorem State.raise_sound (s : State) (k : EventKind) (d : Nat) : Sound s (s.raise k d) := by
  rw [State.raise_eq]
  exact .events s _

theorem State.takeFault_sound (s : State) (k : FaultKind) (o : Option HeadId) (station v : Int) :
    Sound s (s.takeFault k o station v) := by
  rw [State.takeFault_eq]
  exact .events s _

theorem State.faultOf_sound (s : State) (k : FaultKind) (o : Owner) (v : Int) : Sound s (s.faultOf k o v) :=
  s.takeFault_sound ..

theorem State.clearLatched_sound (s : State) (f : Owner → Bool) : Sound s (s.clearLatched f) := .setGuards s _

theorem State.disarmGuards_sound (s : State) : Sound s s.disarmGuards := .setGuards s _

theorem State.judgeGuards_sound (s : State) : Sound s s.judgeGuards := .setGuards s _

theorem State.setFired_sound (s : State) (c : Cause) : Sound s (s.setFired c) := by
  unfold State.setFired
  split
  case h_1 | h_2 | h_3 | h_4 => exact .modFired s _ _
  case h_5 | h_6 | h_7 | h_8 => exact .gantryFired s _
  all_goals exact .refl s

theorem State.dropHeadFired_sound (s : State) (h : HeadId) : Sound s (s.dropHeadFired h) := by
  unfold State.dropHeadFired
  exact .modFired s h _

theorem State.dropFired_sound (s : State) : Sound s s.dropFired := by
  unfold State.dropFired
  have a : Sound s ((s.dropHeadFired .a).dropHeadFired .b) := (s.dropHeadFired_sound .a).trans (State.dropHeadFired_sound _ .b)
  dsimp only
  split
  · exact a
  · exact a.trans (.gantryFired _ _)

theorem State.handCaps_sound (s : State) (accepted : Bool) : Sound s (s.handCaps accepted) :=
  .ite (fun _ => (Sound.modTrim s ..).trans (Sound.modTrim ..)) (.refl s)

/-! ## Leaving the pass -/

theorem State.stopHead_sound (s : State) (h : HeadId) : Sound s (s.stopHead h) := by
  rw [State.stopHead_eq]
  refine (Sound.modHead s h _ (fun hw => ?_) (fun _ _ => .inr rfl) (fun _ => ?_)).trans (State.clearLatched_sound ..)
  · exact absurd hw (by simp [Head.stopped, HeadState.working])
  · exact SeqOk.of_recordless rfl trivial

/-- No head works in a pass whose heads have all left it (R12). -/
theorem Agree.none_working {s : State} (a : Agree s) (hd : s.passEndDue = true) (h : HeadId) :
    (s.headState h).working = false := by
  obtain ⟨-, hleft, -⟩ := s.passEndDue_iff.1 hd
  by_contra hw
  have hn := (a.named h (by simpa using hw)).2
  rcases (HeadState.left_iff _).1 (hleft h hn) with e | e <;> simp [e, HeadState.working] at hw

theorem State.testPassEnd_sound (s : State) : Sound s s.testPassEnd := by
  refine .ite (fun hd => ⟨by rw [State.endPass_pass]; rfl, fun a => ?_⟩) (.refl s)
  have hst : ∀ h, s.endPass.headState h = s.headState h := fun h => by simp [State.headState, Head.unfired]
  have hin : s.endPass.active = false := by simp [State.active]
  refine ⟨fun h hw => ?_, fun hac => ?_, fun hap => ?_, fun h => ?_⟩
  · simp [hst, a.none_working hd h] at hw
  · simp [hin] at hac
  · have hac : s.endPass.active = true := by rw [State.active, hap]; rfl
    simp [hin] at hac
  · simpa [Head.unfired] using a.seqs h

/-! ## Orders -/

theorem State.holdOrder_sound (s : State) (c : HoldCause) : Sound s (s.holdOrder c) := by
  unfold State.holdOrder
  dsimp only
  split
  next e => exact .pass s _ rfl rfl (by rw [e]; rfl) (fun h => by cases h)
  next e => exact .pass s _ rfl rfl rfl id
  next e => exact .pass s _ rfl rfl rfl id
  all_goals exact .refl s

theorem State.dropPending_sound (s : State) (h : HeadId) : Sound s (s.dropPending h) := by
  unfold State.dropPending State.modSeq
  exact .modHead s h _ id (fun _ => id) SeqOk.dropPending

theorem State.carryLastSet_sound (s : State) (h : HeadId) : Sound s (s.carryLastSet h) := .still s h _ rfl

/-- A head that works beyond the waiting states may enter EXIT under the mark of a stop order. -/
theorem State.enterExit_sound (s : State) (h : HeadId) (p : ExitPhase) (r : ExitRecord)
    (hf : (s.head h).seq.faultExit = true) (hw : (s.headState h).working = true) (hn : s.headState h ≠ .waiting) :
    Sound s (s.enterExit h p r) := by
  refine .modHead s h _ (fun _ => hw) (fun _ ha => ?_) (fun q => SeqOk.of_faultExit rfl hf q.1)
  rcases ha with e | e
  · exact absurd e hn
  · simp [e, HeadState.working] at hw

theorem State.exitFrom_sound (s : State) (h : HeadId) (k : ExitKind) (hf : (s.head h).seq.faultExit = true) :
    Sound s (s.exitFrom h k) := by
  have enter : ∀ (t : State) p r, t.head h = s.head h ∨ t = s.carryLastSet h →
      s.headState h = .plunge ∨ s.headState h = .dwell ∨ s.headState h = .traverse → Sound t (t.enterExit h p r) := by
    intro t p r ht hs
    have e : t.headState h = s.headState h ∧ (t.head h).seq.faultExit = true := by
      rcases ht with e | rfl
      · simp [State.headState, e, hf]
      · simp [State.headState, State.carryLastSet, hf]
    refine t.enterExit_sound h p r e.2 ?_ ?_ <;> rw [e.1] <;> rcases hs with e | e | e <;> rw [e] <;> decide
  unfold State.exitFrom
  dsimp only
  split
  next => exact s.stopHead_sound h
  next => exact s.stopHead_sound h
  next e => exact enter s _ _ (.inl rfl) (.inl e)
  next e => exact enter s _ _ (.inl rfl) (.inr (.inl e))
  next e =>
    split
    · exact (s.carryLastSet_sound h).trans (enter _ _ _ (.inr rfl) (.inr (.inr e)))
    · exact (s.carryLastSet_sound h).trans (enter _ _ _ (.inr rfl) (.inr (.inr e)))
  all_goals exact .refl s

theorem State.exitOrder_sound (s : State) (h : HeadId) (k : ExitKind) : Sound s (s.exitOrder h k) := by
  refine .ite (fun _ => ?_) (.refl s)
  have a : Sound s (s.modSeq h fun q => { q with order := .exit, faultExit := true }) :=
    .modHead s h _ id (fun _ => id) SeqOk.markExit
  exact (a.trans (State.dropPending_sound ..)).trans (State.exitFrom_sound _ h k (by simp [State.dropPending]))

theorem State.carryExit_sound (s : State) (h : HeadId) : Sound s (s.carryExit h) :=
  .ite (fun _ => s.exitOrder_sound ..) (.refl s)

theorem State.exitAndCarry_sound (s : State) (h : HeadId) (k : ExitKind) : Sound s (s.exitAndCarry h k) :=
  .ite (fun _ => (s.exitOrder_sound ..).trans (State.carryExit_sound ..)) (.refl s)

theorem State.exitEach_sound (s : State) : Sound s s.exitEach :=
  .ite (fun _ => (Sound.foldl (fun s h => State.exitOrder_sound s h _) _ s).trans
    (Sound.foldl (fun s h => State.carryExit_sound s h) _ _)) (.refl s)

theorem State.reseed_sound (s : State) : Sound s s.reseed := .planner s _

theorem State.quickStop_sound (s : State) : Sound s s.quickStop := by
  have a : Sound s s.quickStopX :=
    (Sound.halted s true).trans (.ite (fun _ => .refl _) ((Sound.planner _ _).trans (State.reseed_sound _)))
  exact a.trans (.ite (fun _ => .service _ _) (.refl _))

/-- A head in the seam works, and beyond the waiting states (R13). -/
theorem Head.inSeam_working {x : Head} (h : x.inSeam = true) :
    x.seq.state.working = true ∧ x.seq.state ≠ .waiting ∧ x.seq.state ≠ .stopped := by
  cases hs : x.seq.state <;> simp [Head.inSeam, hs, HeadState.working] at h ⊢

theorem State.enterWithdraw_sound (s : State) (h : HeadId) (hi : (s.head h).inSeam = true) :
    Sound s (s.enterWithdraw h) := by
  obtain ⟨hw, hn, hn'⟩ := Head.inSeam_working hi
  have carried : Sound s (if s.headState h = .traverse then s.carryLastSet h else s) :=
    .ite (fun _ => s.carryLastSet_sound h) (.refl s)
  have hst : (if s.headState h = .traverse then s.carryLastSet h else s).headState h = s.headState h := by
    split
    · simp [State.headState, State.carryLastSet]
    · rfl
  unfold State.enterWithdraw
  generalize (if s.headState h = .traverse then s.carryLastSet h else s) = t at carried hst ⊢
  refine (carried.trans (t.dropPending_sound h)).trans (.modHead _ h _ (fun _ => ?_) (fun _ ha => ?_) (fun q => ?_))
  · rw [State.dropPending, State.modSeq_headState]
    exact (congrArg HeadState.working hst).trans hw
  · rw [State.dropPending, State.modSeq_headState] at ha
    change t.headState h = _ ∨ t.headState h = _ at ha
    rw [hst] at ha
    exact absurd ha (not_or.2 ⟨hn, hn'⟩)
  · exact SeqOk.of_recordless rfl q.1

theorem State.haltHead_sound (s : State) (h : HeadId) : Sound s (s.haltHead h) := by
  have a : Sound s (s.modSeq h fun q => { q with order := .withdraw }) := .still s h _ rfl
  unfold State.haltHead
  dsimp only
  split
  · exact .refl s
  · split
    next hi => exact a.trans (State.enterWithdraw_sound _ h (by simpa [Head.inSeam] using hi))
    next =>
      split
      · exact a.trans (State.stopHead_sound ..)
      · exact a

theorem State.headHalt_sound (s : State) (h : HeadId) : Sound s (s.headHalt h) := by
  refine .ite (fun _ => ?_) (.refl s)
  have a := s.quickStop_sound.trans (State.haltHead_sound _ h)
  dsimp only
  split
  · exact a.trans (.ite (fun _ => State.haltHead_sound ..) (.refl _))
  · exact a.trans (.ite (fun _ => State.holdOrder_sound ..) (.refl _))

theorem State.haltAll_sound (s : State) : Sound s s.haltAll :=
  .ite (fun _ => s.quickStop_sound.trans (Sound.foldl (fun s h => s.haltHead_sound h) _ _)) (.refl s)

theorem State.guardOrder_sound (s : State) (g : GuardRecord) (v : Int) : Sound s (s.guardOrder g v) := by
  unfold State.guardOrder
  split
  · exact .refl s
  · exact .refl s
  · exact s.holdOrder_sound _
  · exact (s.faultOf_sound ..).trans (State.exitAndCarry_sound ..)
  · exact (s.faultOf_sound ..).trans (State.exitEach_sound _)
  · exact (s.faultOf_sound ..).trans (State.headHalt_sound ..)
  · exact (s.faultOf_sound ..).trans (State.haltAll_sound _)

theorem State.takeGuardTrip_sound (s : State) (i : Nat) (v : Int) : Sound s (s.takeGuardTrip i v) := by
  unfold State.takeGuardTrip
  split
  · exact (s.raise_sound ..).trans (State.guardOrder_sound ..)
  · exact .refl s

theorem State.takeCause_sound (s : State) (c : Cause) : Sound s (s.takeCause c) := by
  have a := s.setFired_sound c
  unfold State.takeCause
  cases c <;> refine a.trans ?_
  case guard => exact State.takeGuardTrip_sound ..
  case headStale => exact (State.faultOf_sound ..).trans (State.headHalt_sound ..)
  case saturation | holdLimit | spinupTimeout | startMissed | noContact =>
    exact (State.faultOf_sound ..).trans (State.exitAndCarry_sound ..)
  all_goals exact (State.faultOf_sound ..).trans (State.haltAll_sound _)

theorem State.takeCauses_sound (s : State) (cs : List Cause) : Sound s (s.takeCauses cs) :=
  (Sound.foldl State.takeCause_sound _ s).trans (State.testPassEnd_sound _)

end Sys2Proof.Machine
end

section
/-! SUPPORT. The records of a queue as they become executing and complete, and what the head sequencer, the regulator,
the planner and a whole set keep. -/

namespace Sys2Proof.Machine

open Sys2Proof.Safety

/-! ## A record becomes executing -/

/-- The state a head is in once a record executes: that of the record's kind, and for a START the one before (R34). -/
def Segment.worksIn (g : Segment) (st : HeadState) : HeadState :=
  match g.kind with
  | .start => st
  | .dwell => .dwell
  | .traverse => .traverse
  | .exit => .exit

/-- The work from `s` to `t` stays within one head's blocks and the event unit. -/
structure OneHead (s t : State) (h : HeadId) : Prop where
  frame : t = { s with headA := t.headA, headB := t.headB, events := t.events }
  other : t.head h.other = s.head h.other

namespace OneHead

variable {s t u : State} {h : HeadId}

theorem refl (s : State) (h : HeadId) : OneHead s s h := ⟨rfl, rfl⟩

theorem trans (a : OneHead s t h) (b : OneHead t u h) : OneHead s u h where
  frame := by
    have := a.frame
    rw [b.frame, this]
  other := b.other.trans a.other

theorem pass (a : OneHead s t h) : t.pass = s.pass := by rw [a.frame]

theorem gantry (a : OneHead s t h) : t.gantry = s.gantry := by rw [a.frame]

theorem planner (a : OneHead s t h) : t.planner = s.planner := by rw [a.frame]

theorem ring (a : OneHead s t h) : t.ring = s.ring := by rw [a.frame]

theorem guards (a : OneHead s t h) : t.guards = s.guards := by rw [a.frame]

theorem active (a : OneHead s t h) : t.active = s.active := by rw [State.active, a.pass]; rfl

theorem isPassHead (a : OneHead s t h) (g : HeadId) : t.isPassHead g = s.isPassHead g := by
  rw [State.isPassHead, a.pass]; rfl

end OneHead

theorem OneHead.modHead (s : State) (h : HeadId) (f : Head → Head) : OneHead s (s.modHead h f) h :=
  ⟨by cases h <;> rfl, by simp⟩

theorem OneHead.modSeq (s : State) (h : HeadId) (f : Sequencer → Sequencer) : OneHead s (s.modSeq h f) h :=
  .modHead s h _

theorem OneHead.raise (s : State) (h : HeadId) (k : EventKind) (d : Nat) : OneHead s (s.raise k d) h where
  frame := by unfold State.raise; split <;> rfl
  other := by simp

theorem OneHead.ite {s a b : State} {h : HeadId} {c : Prop} [Decidable c] (ha : OneHead s a h) (hb : OneHead s b h) :
    OneHead s (if c then a else b) h := by
  split
  · exact ha
  · exact hb

theorem State.completeRecord_oneHead (s : State) (h : HeadId) : OneHead s (s.completeRecord h) h := by
  unfold State.completeRecord
  split
  · exact .refl s h
  · exact (OneHead.modSeq s h _).trans (.raise ..)

theorem repetitionLoop_oneHead (n : Nat) (h : HeadId) (s : State) : OneHead s (repetitionLoop n h s) h := by
  induction n generalizing s with
  | zero => exact .refl s h
  | succ n ih => exact .ite ((OneHead.modSeq s h _).trans (ih _)) (.refl s h)

theorem State.countRepetitions_oneHead (s : State) (h : HeadId) : OneHead s (s.countRepetitions h) h := by
  unfold State.countRepetitions
  split
  · exact repetitionLoop_oneHead ..
  · exact .refl s h

theorem State.startTraverse_oneHead (s : State) (h : HeadId) (s0 : Int) (reps : Nat) (length : Int)
    (v : SegValues) : OneHead s (s.startTraverse h s0 reps length v) h :=
  (OneHead.modSeq s h _).trans
    (.ite ((OneHead.modSeq _ h _).trans (.raise ..)) (State.countRepetitions_oneHead ..))

theorem State.startRecord_oneHead (s : State) (h : HeadId) (e : Int) : OneHead s (s.startRecord h e) h := by
  unfold State.startRecord State.raiseQueueLow
  split
  · exact .refl s h
  next r _ _ =>
    have low : ∀ t : State, OneHead s t h →
        OneHead s (if (t.head h).seq.successor.isNone && !r.isLast then t.raise .queueLow (packDetail h.code 0) else t) h :=
      fun t a => a.trans (.ite (.raise ..) (.refl ..))
    refine low _ ?_
    cases r with
    | start =>
      dsimp only [State.startStart]
      exact .modSeq s h _
    | dwell =>
      dsimp only [State.startDwell]
      exact .modSeq s h _
    | traverse => exact s.startTraverse_oneHead ..
    | exit => exact (OneHead.modSeq s h _).trans (.ite (.modHead ..) (.modHead ..))

theorem State.countRepetition_core (s : State) (h : HeadId) :
    ((s.countRepetition h).head h).seq.core = (s.head h).seq.core := by
  unfold State.countRepetition
  rw [State.modSeq_head]
  dsimp only
  split <;> rfl

theorem repetitionLoop_core (n : Nat) (h : HeadId) (s : State) :
    ((repetitionLoop n h s).head h).seq.core = (s.head h).seq.core := by
  induction n generalizing s with
  | zero => rfl
  | succ n ih =>
    unfold repetitionLoop
    split
    · rw [ih, s.countRepetition_core]
    · rfl

theorem State.countRepetitions_core (s : State) (h : HeadId) :
    ((s.countRepetitions h).head h).seq.core = (s.head h).seq.core := by
  unfold State.countRepetitions
  split
  · exact repetitionLoop_core ..
  · rfl

theorem State.startTraverse_core (s : State) (h : HeadId) (s0 : Int) (reps : Nat) (length : Int) (v : SegValues) :
    ((s.startTraverse h s0 reps length v).head h).seq.core =
      (.traverse, true, (s.head h).seq.queue, (s.head h).seq.lastKind, (s.head h).seq.faultExit) := by
  unfold State.startTraverse State.endShort
  dsimp only
  split
  · rw [State.raise_head, State.modSeq_head, State.fillTraverse, State.modSeq_head]
    rfl
  · rw [State.countRepetitions_core, State.fillTraverse, State.modSeq_head]
    rfl

@[simp] theorem State.raiseQueueLow_head (s : State) (h g : HeadId) (r : Segment) :
    (s.raiseQueueLow h r).head g = s.head g := by
  unfold State.raiseQueueLow
  split <;> simp

/-- A record becomes executing: the head works it, and its queue stands (R34, R35). -/
theorem State.startRecord_core {s : State} {h : HeadId} {r : Segment} {rest : List Segment} (e : Int)
    (hq : (s.head h).seq.queue = r :: rest) :
    ((s.startRecord h e).head h).seq.core =
      (r.worksIn (s.headState h), true, r :: rest, (s.head h).seq.lastKind, (s.head h).seq.faultExit) := by
  unfold State.startRecord
  simp only [hq]
  rw [State.raiseQueueLow_head]
  cases r with
  | start =>
    rw [← hq]
    dsimp only [State.startStart]
    rw [State.modSeq_head]
    rfl
  | dwell =>
    rw [← hq]
    dsimp only [State.startDwell]
    rw [State.modSeq_head]
    rfl
  | traverse => rw [State.startTraverse_core, hq]; rfl
  | exit =>
    rw [← hq]
    unfold State.enterExitRecord
    dsimp only
    split <;> rw [State.enterExit, State.modHead_head, State.modSeq_head] <;> rfl

/-- The oldest record leaves the queue as the last completed kind (R26, R37). -/
theorem State.completeRecord_core {s : State} {h : HeadId} {r : Segment} {rest : List Segment}
    (hq : (s.head h).seq.queue = r :: rest) :
    ((s.completeRecord h).head h).seq.core =
      (s.headState h, (s.head h).seq.executing, rest, some r.kind, (s.head h).seq.faultExit) := by
  unfold State.completeRecord
  simp only [hq]
  rw [State.raise_head, State.modSeq_head]
  rfl

/-- The executing record is the oldest of the queue. -/
theorem Sequencer.queue_of_executing {q : Sequencer} {g : Segment} (h : q.executingRecord = some g) :
    q.executing = true ∧ ∃ rest, q.queue = g :: rest := by
  unfold Sequencer.executingRecord at h
  cases hx : q.executing <;> simp only [hx, Bool.false_eq_true, if_false, if_true, reduceCtorEq] at h
  exact ⟨rfl, List.head?_eq_some_iff.1 h⟩

/-- A record that works in a state of its own agrees with it. -/
theorem SeqOk.executing {q : Sequencer} {g : Segment} {rest : List Segment} {st : HeadState}
    {k : Option SegKind} {f : Bool} (hc : q.core = (g.worksIn st, true, g :: rest, k, f))
    (ho : Ordered k (g :: rest)) (hs : g.kind = .start → st = .waiting) : SeqOk q := by
  simp only [Sequencer.core, Prod.mk.injEq] at hc
  obtain ⟨hst, hx, hq, hl, -⟩ := hc
  have hr : q.executingRecord = some g := by simp [Sequencer.executingRecord, hx, hq]
  have hgo : Ordered q.lastKind q.queue := by rw [hl, hq]; exact ho
  cases hk : g.kind <;> simp_all [SeqOk, Segment.worksIn]

/-! ## The run through the queue -/

/-- The states in which a record runs to its end: a plunge, a dwell and a traverse (R37, R45). -/
def HeadState.runs : HeadState → Bool
  | .plunge | .dwell | .traverse => true
  | _ => false

theorem HeadState.runs_working {st : HeadState} (h : st.runs = true) :
    st.working = true ∧ st ≠ .waiting ∧ st ≠ .stopped := by
  cases st <;> simp [HeadState.runs, HeadState.working] at h ⊢

/-- A running head executes a record that is no EXIT (R34). -/
theorem SeqOk.of_runs {q : Sequencer} (a : SeqOk q) (h : q.state.runs = true) :
    ∃ g rest, q.queue = g :: rest ∧ g.kind ≠ .exit ∧ q.executingRecord = some g := by
  obtain ⟨-, -, hs, hd, ht, -⟩ := a
  obtain ⟨k, hk, hne⟩ : ∃ k, q.executingRecord.map Segment.kind = some k ∧ k ≠ .exit := by
    cases e : q.state <;> simp [e, HeadState.runs] at h
    · exact ⟨_, hs (.inr e), by decide⟩
    · exact ⟨_, hd e, by decide⟩
    · exact ⟨_, ht e, by decide⟩
  obtain ⟨g, hg, rfl⟩ := Option.map_eq_some_iff.1 hk
  obtain ⟨-, rest, hq⟩ := Sequencer.queue_of_executing hg
  exact ⟨g, rest, hq, hne, hg⟩

/-- No START follows a record that is no EXIT (R28). -/
theorem mayFollow_start {k l : SegKind} (h : mayFollow (some k) l = true) (hk : k ≠ .exit) : l ≠ .start := by
  cases k <;> cases l <;> simp_all [mayFollow]

/-- The executing record hands over to its successor: the record leaves the queue and the one behind it executes
(R37). -/
theorem State.handOver_core {s : State} {h : HeadId} {next : Segment} (e : Int)
    (hn : (s.head h).seq.successor = some next) :
    ∃ r rest, (s.head h).seq.queue = r :: next :: rest ∧
      (((s.completeRecord h).startRecord h e).head h).seq.core =
        (next.worksIn (s.headState h), true, next :: rest, some r.kind, (s.head h).seq.faultExit) := by
  obtain ⟨r, tail, hq⟩ : ∃ r tail, (s.head h).seq.queue = r :: tail := by
    cases hq : (s.head h).seq.queue with
    | nil => simp [Sequencer.successor, hq] at hn
    | cons r tail => exact ⟨r, tail, rfl⟩
  obtain ⟨rest, rfl⟩ : ∃ rest, tail = next :: rest := by
    rw [Sequencer.successor, hq] at hn
    exact List.head?_eq_some_iff.1 hn
  have hc := State.completeRecord_core hq
  simp only [Sequencer.core, Prod.mk.injEq] at hc
  obtain ⟨hs, -, hq', hl, hf⟩ := hc
  exact ⟨r, rest, hq, by rw [State.startRecord_core e hq', hl, hf, State.headState, hs]⟩

theorem State.handOver_sound {s : State} {h : HeadId} {next : Segment} (e : Int) (hr : (s.headState h).runs = true)
    (hn : (s.head h).seq.successor = some next) : Sound s ((s.completeRecord h).startRecord h e) := by
  have one := (s.completeRecord_oneHead h).trans (State.startRecord_oneHead _ h e)
  obtain ⟨r, rest, hq, hc⟩ := State.handOver_core e hn
  obtain ⟨hw, hn1, hn2⟩ := HeadState.runs_working hr
  refine ⟨by rw [one.pass], fun a => ?_⟩
  have ho := (a.seqs h).1
  rw [hq] at ho
  obtain ⟨r', rest', hq', hk, -⟩ := (a.seqs h).of_runs hr
  obtain ⟨rfl, rfl⟩ := List.cons.inj (hq.symm.trans hq')
  exact a.replace h one.pass one.gantry (congrArg _ (congrArg _ one.other)) (fun _ => hw)
    (fun _ hor => absurd hor (not_or.2 ⟨hn1, hn2⟩))
    (SeqOk.executing hc ho.2 fun hs => absurd hs (mayFollow_start ho.2.1 hk))

/-- An EXIT that becomes executing is not at its end (R34). -/
theorem State.startRecord_exit_endReached {s : State} {h : HeadId} {r : Segment} {rest : List Segment} (e : Int)
    (hq : (s.head h).seq.queue = r :: rest) (hk : r.kind = .exit) :
    ((s.startRecord h e).head h).seq.progress.endReached = false := by
  cases r <;> simp only [Segment.kind, reduceCtorEq] at hk
  unfold State.startRecord
  simp only [hq]
  rw [State.raiseQueueLow_head]
  unfold State.enterExitRecord
  dsimp only
  split <;> rw [State.enterExit, State.modHead_head, State.modSeq_head] <;> rfl

/-- A record that is at its end as it becomes executing runs, and hands over again (R43). -/
theorem State.handOver_runs {s : State} {h : HeadId} {next : Segment} (e : Int) (hr : (s.headState h).runs = true)
    (hn : (s.head h).seq.successor = some next)
    (he : (((s.completeRecord h).startRecord h e).head h).seq.progress.endReached = true) :
    (((s.completeRecord h).startRecord h e).headState h).runs = true := by
  obtain ⟨r, rest, hq, hc⟩ := State.handOver_core e hn
  have hst : ((s.completeRecord h).startRecord h e).headState h = next.worksIn (s.headState h) := congrArg Prod.fst hc
  rw [hst]
  cases hk : next.kind <;> simp only [Segment.worksIn, hk, HeadState.runs]
  · exact hr
  · have hq' := State.completeRecord_core hq
    simp only [Sequencer.core, Prod.mk.injEq] at hq'
    rw [State.startRecord_exit_endReached e hq'.2.2.1 hk] at he
    cases he

theorem State.starve_sound (s : State) (h : HeadId) : Sound s (s.starve h) :=
  (Sound.modProgress s h _).trans (State.raise_sound ..)

theorem finishRecord_sound (n : Nat) (h : HeadId) (s : State) (hr : (s.headState h).runs = true) :
    Sound s (finishRecord n h s) := by
  induction n generalizing s with
  | zero => exact .refl s
  | succ n ih =>
    unfold finishRecord
    split
    · exact s.starve_sound h
    next next hn =>
      have a := State.handOver_sound (s.head h).seq.endStation hr hn
      refine .ite (fun _ => .refl s) ?_
      dsimp only
      split
      next he => exact a.trans (ih _ (State.handOver_runs _ hr hn he))
      next => exact a

theorem State.finishExecuting_sound (s : State) (h : HeadId) (hr : (s.headState h).runs = true) :
    Sound s (s.finishExecuting h) :=
  finishRecord_sound _ h s hr

/-! ## The events of the records -/

theorem State.dwellEndDue_state {s : State} {h : HeadId} (hd : s.dwellEndDue h = true) : s.headState h = .dwell := by
  unfold State.dwellEndDue at hd
  dsimp only at hd
  split at hd
  next e _ => exact e
  next => cases hd

theorem State.repetitionEndDue_state {s : State} {h : HeadId} (hd : s.repetitionEndDue h = true) :
    s.headState h = .traverse := by
  unfold State.repetitionEndDue at hd
  dsimp only at hd
  split at hd
  next e _ => exact e
  next => cases hd

theorem State.atRestDue_state {s : State} {h : HeadId} (hd : s.atRestDue h = true) : s.headState h = .traverse := by
  unfold State.atRestDue at hd
  dsimp only at hd
  split at hd
  next e _ _ => exact e
  next => cases hd

theorem State.starvationEndDue_runs {s : State} {h : HeadId} (hd : s.starvationEndDue h = true) :
    (s.headState h).runs = true := by
  simp only [State.starvationEndDue, Bool.and_eq_true, Bool.or_eq_true, decide_eq_true_eq] at hd
  obtain ⟨⟨⟨(e | e) | e, -⟩, -⟩, -⟩ := hd <;> rw [State.headState, e] <;> rfl

theorem State.dwellEnd_sound (s : State) (h : HeadId) : Sound s (s.dwellEnd h) := by
  refine .ite (fun hd => ?_) (.refl s)
  refine (Sound.modProgress s h _).trans (State.finishExecuting_sound _ h ?_)
  rw [State.modProgress, State.modSeq_headState]
  exact congrArg HeadState.runs (State.dwellEndDue_state hd)

theorem State.countRepetition_sound (s : State) (h : HeadId) : Sound s (s.countRepetition h) :=
  .modSeq s h _ (by split <;> rfl)

theorem State.countRepetition_state (s : State) (h : HeadId) : (s.countRepetition h).headState h = s.headState h :=
  congrArg Prod.fst (s.countRepetition_core h)

theorem State.countRepetitions_state (s : State) (h : HeadId) : (s.countRepetitions h).headState h = s.headState h :=
  congrArg Prod.fst (s.countRepetitions_core h)

theorem repetitionLoop_sound (n : Nat) (h : HeadId) (s : State) : Sound s (repetitionLoop n h s) := by
  induction n generalizing s with
  | zero => exact .refl s
  | succ n ih => exact .ite (fun _ => (s.countRepetition_sound h).trans (ih _)) (.refl s)

theorem State.countRepetitions_sound (s : State) (h : HeadId) : Sound s (s.countRepetitions h) := by
  unfold State.countRepetitions
  split
  · exact repetitionLoop_sound ..
  · exact .refl s

theorem State.repetitionEnd_sound (s : State) (h : HeadId) : Sound s (s.repetitionEnd h) := by
  refine .ite (fun hd => ?_) (.refl s)
  have hr : ((s.countRepetition h).headState h).runs = true := by
    rw [s.countRepetition_state, State.repetitionEndDue_state hd]
    rfl
  exact (s.countRepetition_sound h).trans (.ite (fun _ => State.finishExecuting_sound _ h hr) (.refl _))

theorem State.completeAtRest_sound (s : State) (h : HeadId) : Sound s (s.completeAtRest h) :=
  .ite (fun hd => s.finishExecuting_sound h (by rw [State.atRestDue_state hd]; rfl)) (.refl s)

theorem State.starvationEnd_sound (s : State) (h : HeadId) : Sound s (s.starvationEnd h) := by
  refine .ite (fun hd => ?_) (.refl s)
  refine (Sound.modProgress s h _).trans (State.finishExecuting_sound _ h ?_)
  rw [State.modProgress, State.modSeq_headState]
  exact State.starvationEndDue_runs hd

/-- A head that waits takes the START at the front of its queue (R46). -/
theorem State.startRecord_sound {s : State} {h : HeadId} {r : Segment} {rest : List Segment} (e : Int)
    (hw : s.headState h = .waiting) (hq : (s.head h).seq.queue = r :: rest) (hk : r.kind = .start) :
    Sound s (s.startRecord h e) := by
  have one := s.startRecord_oneHead h e
  have hc := State.startRecord_core e hq
  have hst : (s.startRecord h e).headState h = .waiting := by
    refine (congrArg Prod.fst hc).trans ?_
    simp [Segment.worksIn, hk, hw]
  refine ⟨by rw [one.pass], fun a => ?_⟩
  have ho := (a.seqs h).1
  rw [hq] at ho
  exact a.replace h one.pass one.gantry (congrArg _ (congrArg _ one.other)) (fun _ => by rw [hw]; rfl)
    (fun _ _ => .inl hst) (SeqOk.executing hc ho fun _ => hw)

theorem State.takeAppendedStart_sound (s : State) (h : HeadId) : Sound s (s.takeAppendedStart h) := by
  refine .ite (fun hd => ?_) (.refl s)
  unfold State.appendedStartDue at hd
  dsimp only at hd
  split at hd
  next hq =>
    obtain ⟨rest, hq⟩ := List.head?_eq_some_iff.1 hq
    simp only [Bool.and_eq_true, decide_eq_true_eq] at hd
    exact State.startRecord_sound 0 hd.1 hq rfl
  next => cases hd

/-! ## Spin-up and spin-down -/

/-- A plunge X is that of an executing START. -/
theorem State.plungeX_eq_some {s : State} {h : HeadId} {x : Int} (e : s.plungeX h = some x) :
    ∃ st rpm force depth, (s.head h).seq.executingRecord = some (.start st rpm force depth) ∧
      x = s.xOfStation h st := by
  unfold State.plungeX at e
  split at e
  next st rpm force depth hr => exact ⟨st, rpm, force, depth, hr, (Option.some.inj e).symm⟩
  next => cases e

theorem State.spinupStartDue_spec {s : State} {h : HeadId} (hd : s.spinupStartDue h = true) :
    s.headState h = .waiting ∧ s.pass.state = .running ∧ (s.plungeX h).isSome = true := by
  unfold State.spinupStartDue at hd
  split at hd
  next x hx =>
    simp only [Bool.and_eq_true, decide_eq_true_eq] at hd
    exact ⟨hd.1.1.1, hd.1.1.2, by rw [hx]; rfl⟩
  next => cases hd

theorem State.startSpinup_sound (s : State) (h : HeadId) : Sound s (s.startSpinup h) := by
  refine .ite (fun hd => ?_) (.refl s)
  obtain ⟨hw, hrun, hx⟩ := State.spinupStartDue_spec hd
  obtain ⟨x, hx⟩ := Option.isSome_iff_exists.1 hx
  obtain ⟨st, rpm, force, depth, hr, -⟩ := State.plungeX_eq_some hx
  have park : Sound s (s.park h .spinup) := by
    refine .modHead s h _ (fun _ => by rw [hw]; rfl) (fun hap => ?_) (fun q => ?_)
    · rw [hrun] at hap
      cases hap
    · have hr' : ({ (s.head h).seq with state := .spinup } : Sequencer).executingRecord =
          some (.start st rpm force depth) := hr
      refine ⟨q.1, ?_⟩
      simp [hr', Segment.kind]
  exact (park.trans (.modSeq _ h _ rfl)).trans (.still _ h _ rfl)

theorem State.atSpeed_sound (s : State) (h : HeadId) : Sound s (s.atSpeed h) := by
  refine .ite (fun hd => ?_) (.refl s)
  simp only [State.atSpeedDue, Bool.and_eq_true, decide_eq_true_eq] at hd
  have hs : s.headState h = .spinup := hd.1
  refine .modHead s h _ (fun _ => by rw [hs]; rfl) (fun _ ha => by simp [hs] at ha) (fun q => ?_)
  have hk := q.2.2.1 (.inl hd.1)
  have hr : ({ (s.head h).seq with state := .plunge } : Sequencer).executingRecord.map Segment.kind =
    some .start := hk
  refine ⟨q.1, ?_⟩
  simp [hr]

/-- The head goes on after an EXIT that is not the last (R17, R44, R46). -/
def Head.waitsAgain (x : Head) : Head :=
  { x with seq := { x.seq with state := .waiting, executing := false, progress := .cleared }, reg := x.reg.cleared }

theorem State.waitAgain_eq (s : State) (h : HeadId) :
    s.waitAgain h = if (s.head h).seq.queue.isEmpty
      then (s.modHead h Head.waitsAgain).raise .queueStarved (packDetail h.code 0)
      else (s.modHead h Head.waitsAgain).startRecord h 0 := by
  cases h <;> rfl

theorem State.waitAgain_oneHead (s : State) (h : HeadId) : OneHead s (s.waitAgain h) h := by
  rw [State.waitAgain_eq]
  exact .ite ((OneHead.modHead s h _).trans (.raise ..))
    ((OneHead.modHead s h _).trans (State.startRecord_oneHead ..))

/-- A head that waits again behind a completed EXIT has the START behind it executing, or no record at all (R28, R44,
R46). -/
theorem State.waitAgain_seqOk (s : State) (h : HeadId) (hl : (s.head h).seq.lastKind = some .exit)
    (ho : Ordered (s.head h).seq.lastKind (s.head h).seq.queue) :
    SeqOk ((s.waitAgain h).head h).seq ∧ (s.waitAgain h).headState h = .waiting := by
  rw [State.waitAgain_eq]
  cases hq : (s.head h).seq.queue with
  | nil =>
    simp only [List.isEmpty_nil, if_true, State.headState, State.raise_head, State.modHead_head]
    exact ⟨SeqOk.of_waiting rfl rfl ho, rfl⟩
  | cons g rest =>
    have hq' : ((s.modHead h Head.waitsAgain).head h).seq.queue = g :: rest := by simp [Head.waitsAgain, hq]
    have hc := State.startRecord_core 0 hq'
    simp only [State.headState, State.modHead_head] at hc
    rw [hq, hl] at ho
    have hk : g.kind = .start := by
      have := ho.1
      cases hg : g.kind <;> simp [hg, mayFollow] at this ⊢
    simp only [List.isEmpty_cons, Bool.false_eq_true, if_false]
    refine ⟨SeqOk.executing hc (by simpa [Head.waitsAgain, hl] using ho) fun _ => rfl, ?_⟩
    refine (congrArg Prod.fst hc).trans ?_
    simp [Segment.worksIn, hk, Head.waitsAgain]

/-- A spin-down may end in any state that agrees with the records it leaves. -/
theorem Sound.ofSpindown {s t : State} {h : HeadId} (hp : t.pass = s.pass) (hg : t.gantry = s.gantry)
    (ho : t.head h.other = s.head h.other) (hs : s.headState h = .spindown) (hq : Agree s → SeqOk (t.head h).seq) : Sound s t :=
  ⟨by rw [hp], fun a => a.replace h hp hg (congrArg _ (congrArg _ ho))
    (fun _ => by rw [hs]; rfl) (fun _ ha => by simp [hs] at ha) (hq a)⟩

theorem State.spindownEnd_sound (s : State) (h : HeadId) : Sound s (s.spindownEnd h) := by
  refine .ite (fun hd => ?_) (.refl s)
  have hs : s.headState h = .spindown := by
    simp only [State.spindownEndDue, Bool.and_eq_true, decide_eq_true_eq] at hd
    exact hd.1
  have stopped : ∀ t, OneHead s t h → Sound s (t.stopHead h) := fun t one =>
    .ofSpindown (by simp [one.pass]) (by simp [one.gantry]) (by simp [one.other]) hs fun _ => by
      rw [State.stopHead_head]
      exact .of_recordless rfl trivial
  dsimp only
  split
  next last kind rate runOut hr =>
    obtain ⟨-, rest, hq⟩ := Sequencer.queue_of_executing hr
    have one := s.completeRecord_oneHead h
    have hc := State.completeRecord_core hq
    simp only [Sequencer.core, Prod.mk.injEq] at hc
    obtain ⟨-, -, hq', hl, -⟩ := hc
    have ho : Agree s → Ordered ((s.completeRecord h).head h).seq.lastKind ((s.completeRecord h).head h).seq.queue := by
      intro a
      have := (a.seqs h).1
      rw [hq] at this
      rw [hq', hl]
      exact this.2
    refine Sound.trans (.ite (fun _ => stopped _ one) (.ite (fun _ => ?_) ?_)) (State.testPassEnd_sound _)
    · refine .ofSpindown (by simp [one.pass]) (by simp [one.gantry]) (by simp [one.other]) hs fun a => ?_
      rw [State.finishHead_head]
      exact .of_recordless rfl (ho a)
    · have w := one.trans (State.waitAgain_oneHead _ h)
      exact .ofSpindown w.pass w.gantry w.other hs fun a =>
        (State.waitAgain_seqOk _ h hl (ho a)).1
  next hr =>
    refine Sound.trans ?_ (State.testPassEnd_sound _)
    split
    · exact stopped s (.refl s h)
    next hf =>
      have w := s.waitAgain_oneHead h
      refine .ofSpindown w.pass w.gantry w.other hs fun a => ?_
      have hk := (a.seqs h).2.2.2.2.2 (.inr hs) (by simpa using hf)
      obtain ⟨g, hg, hgk⟩ := Option.map_eq_some_iff.1 hk
      cases g <;> simp only [Segment.kind, reduceCtorEq] at hgk
      exact (hr _ _ _ _ hg).elim

/-! ## The head sequencer's set -/

theorem State.workSpinup_sound (s : State) (accepted : Bool) (h : HeadId) : Sound s (s.workSpinup accepted h) := by
  have a : Sound s (s.modSeq h fun q => { q with spinupTimer := q.spinupTimer + 1 }) := .modSeq s h _ rfl
  exact a.trans (.ite (fun _ => (Sound.modSeq _ h _ rfl).trans (State.atSpeed_sound ..)) (.refl _))

theorem State.workDwell_sound (s : State) (accepted : Bool) (h : HeadId) : Sound s (s.workDwell accepted h) :=
  .ite (fun _ => .ite (fun _ => s.starvationEnd_sound h) (.refl s))
    ((Sound.modProgress s h _).trans (State.dwellEnd_sound ..))

theorem State.workTraverse_sound (s : State) (accepted : Bool) (h : HeadId) (hs : s.headState h = .traverse) :
    Sound s (s.workTraverse accepted h) := by
  have runs : ∀ t : State, t.headState h = .traverse → (t.headState h).runs = true := fun t e => by rw [e]; rfl
  have counted := s.countRepetitions_sound h
  refine .ite (fun _ => ?_) (.ite (fun _ => .ite (fun _ => s.starvationEnd_sound h) (.refl s)) ?_)
  · exact counted.trans (.ite (fun _ => State.finishExecuting_sound _ h
      (runs _ ((s.countRepetitions_state h).trans hs))) (.refl _))
  · split
    · exact s.starve_sound h
    · exact s.completeAtRest_sound h
    · exact .ite (fun _ => s.finishExecuting_sound h (runs s hs)) (.refl s)

theorem State.workState_sound (s : State) (accepted : Bool) (h : HeadId) : Sound s (s.workState accepted h) := by
  unfold State.workState
  split
  next => exact s.startSpinup_sound h
  next => exact s.workSpinup_sound ..
  next => exact .ite (fun _ => s.starvationEnd_sound h) (.refl s)
  next => exact s.workDwell_sound ..
  next e => exact s.workTraverse_sound accepted h e
  next => exact .ite (fun _ => s.spindownEnd_sound h) (.refl s)
  all_goals exact .refl s

theorem State.workHoldTimer_sound (s : State) (h : HeadId) : Sound s (s.workHoldTimer h) := by
  unfold State.workHoldTimer
  exact .modSeq s h _ rfl

theorem State.workSequencer_sound (s : State) (accepted : Bool) (h : HeadId) :
    Sound s (s.workSequencer accepted h) :=
  ((Sound.ite (fun _ => s.takeAppendedStart_sound h) (.refl s)).trans (State.workState_sound ..)).trans
    (State.workHoldTimer_sound ..)

/-! ## The regulator's set -/

theorem State.setDemand_sound (s : State) (h : HeadId) (d : Int) : Sound s (s.setDemand h d) := .modReg s h _

theorem State.formTargets_sound (s : State) (h : HeadId) : Sound s (s.formTargets h) := .still s h _ rfl

theorem State.regulate_sound (s : State) (h : HeadId) : Sound s (s.regulate h) := by
  unfold State.regulate
  exact (s.formTargets_sound h).trans (Sound.modReg ..)

theorem State.workRegulated_sound (s : State) (accepted : Bool) (h : HeadId) :
    Sound s (s.workRegulated accepted h) :=
  .ite (fun _ => s.regulate_sound h)
    ((s.formTargets_sound h).trans (State.setDemand_sound ..))

theorem State.takeContact_sound (s : State) (h : HeadId) : Sound s (s.takeContact h) :=
  .ite (fun _ => .modReg s h _) (.refl s)

theorem State.seatComplete_sound (s : State) (h : HeadId) : Sound s (s.seatComplete h) := by
  refine .ite (fun hd => s.finishExecuting_sound h ?_) (.refl s)
  simp only [State.seatCompleteDue, Bool.and_eq_true, decide_eq_true_eq] at hd
  rw [State.headState, hd.1.1.1]
  rfl

theorem State.judgeSeat_sound (s : State) (h : HeadId) : Sound s (s.judgeSeat h) :=
  .still s h _ (by split <;> rfl)

theorem State.brakeEnd_sound (s : State) (h : HeadId) : Sound s (s.brakeEnd h) :=
  .ite (fun _ => .modProgress s h _) (.refl s)

theorem State.runoutEnd_sound (s : State) (h : HeadId) : Sound s (s.runoutEnd h) :=
  .ite (fun _ => .modProgress s h _) (.refl s)

theorem State.retractEnd_sound (s : State) (h : HeadId) : Sound s (s.retractEnd h) := by
  refine .ite (fun hd => ?_) (.refl s)
  have hs : s.headState h = .exit := by
    simp only [State.retractEndDue, Bool.and_eq_true, decide_eq_true_eq, Head.exitPhase] at hd
    by_contra hne
    simp [State.headState] at hne
    simp [hne] at hd
  refine .modHead s h _ (fun _ => by rw [hs]; rfl) (fun _ ha => by simp [hs] at ha) (fun q => ?_)
  have hk := q.2.2.2.2.2 (.inl hs)
  refine ⟨q.1, ?_⟩
  simpa [Sequencer.executingRecord] using hk

theorem State.enterSpinstop_sound (s : State) (h : HeadId) : Sound s (s.enterSpinstop h) :=
  .ite (fun _ => .still s h _ rfl) (.refl s)

theorem State.withdrawalEnd_sound (s : State) (h : HeadId) : Sound s (s.withdrawalEnd h) :=
  .ite (fun _ => (s.stopHead_sound h).trans (State.testPassEnd_sound _)) (.refl s)

theorem State.formRamp_sound (s : State) (accepted : Bool) (h : HeadId) : Sound s (s.formRamp accepted h) := by
  unfold State.formRamp
  dsimp only
  split
  next =>
    split
    · exact .ite (fun _ => (s.setDemand_sound ..).trans (State.runoutEnd_sound ..)) (s.setDemand_sound ..)
    · exact s.setDemand_sound ..
    · exact .ite (fun _ => (s.brakeEnd_sound h).trans (State.setDemand_sound ..)) (.refl s)
  next =>
    split
    · exact (s.setDemand_sound ..).trans (State.enterSpinstop_sound ..)
    · exact s.setDemand_sound ..
  next => exact .refl s
  next => exact .refl s
  next => exact .refl s
  all_goals exact s.setDemand_sound ..

theorem State.workSeat_sound (s : State) (h : HeadId) : Sound s (s.workSeat h) := by
  have a := ((s.regulate_sound h).trans (State.judgeSeat_sound _ h)).trans (State.seatComplete_sound _ h)
  exact a.trans (.ite (fun _ => State.formRamp_sound ..) (.refl _))

theorem State.workDescent_sound (s : State) (h : HeadId) : Sound s (s.workDescent h) :=
  .ite (fun _ => (s.takeContact_sound h).trans (State.workSeat_sound ..))
    (.ite (fun _ => s.setDemand_sound ..) (s.setDemand_sound ..))

theorem State.workExit_sound (s : State) (accepted : Bool) (h : HeadId) : Sound s (s.workExit accepted h) := by
  unfold State.workExit
  split
  · exact s.formRamp_sound ..
  · exact .ite (fun _ => s.retractEnd_sound h) (s.formRamp_sound ..)
  · exact .ite (fun _ => s.formRamp_sound ..) (s.workRegulated_sound ..)

theorem State.workPhase_sound (s : State) (accepted : Bool) (h : HeadId) : Sound s (s.workPhase accepted h) := by
  unfold State.workPhase
  split
  next =>
    split
    · exact .ite (fun _ => s.workDescent_sound h) (s.setDemand_sound ..)
    · exact .ite (fun _ => s.workSeat_sound h) ((s.formTargets_sound h).trans (State.setDemand_sound ..))
  next => exact s.workRegulated_sound ..
  next => exact s.workRegulated_sound ..
  next => exact s.workExit_sound ..
  next =>
    split
    · exact s.formRamp_sound ..
    · exact .ite (fun _ => (s.formRamp_sound accepted h).trans (State.withdrawalEnd_sound ..)) (s.formRamp_sound ..)
  all_goals exact s.formRamp_sound ..

theorem State.workRegulator_sound (s : State) (accepted : Bool) (h : HeadId) :
    Sound s (s.workRegulator accepted h) :=
  (Sound.modReg s h _).trans (State.workPhase_sound ..)

theorem State.reformDemand_sound (s : State) (accepted : Bool) (before : State) (h : HeadId) :
    Sound s (s.reformDemand accepted before h) :=
  .ite (fun _ => .refl s) (s.formRamp_sound ..)

theorem State.workNoContact_sound (s : State) (accepted : Bool) : Sound s (s.workNoContact accepted) :=
  .ite (fun _ => ((s.takeCauses_sound _).trans (State.reformDemand_sound ..)).trans (State.reformDemand_sound ..))
    (.refl s)

theorem State.workHeads_sound (s : State) (accepted : Bool) : Sound s (s.workHeads accepted) :=
  ((((s.workSequencer_sound ..).trans (State.workSequencer_sound ..)).trans
    (State.workRegulator_sound ..)).trans (State.workRegulator_sound ..)).trans (State.workNoContact_sound ..)

theorem State.workGuards_sound (s : State) (accepted : Bool) : Sound s (s.workGuards accepted) := by
  unfold State.workGuards
  dsimp only
  have a := s.disarmGuards_sound
  generalize s.disarmGuards = t at a ⊢
  have b : Sound s (if accepted = true then t.judgeGuards else t) :=
    a.trans (.ite (fun _ => t.judgeGuards_sound) (.refl t))
  generalize (if accepted = true then t.judgeGuards else t) = u at b ⊢
  exact ((((b.trans (State.takeCauses_sound ..)).trans (State.reformDemand_sound ..)).trans
    (State.reformDemand_sound ..)).trans (State.disarmGuards_sound _)).trans (State.dropFired_sound _)

/-! ## The planner, the pass controller and a whole set -/

theorem State.setDatum_sound (s : State) : Sound s s.setDatum :=
  .ite (fun _ => .pass s _ rfl rfl rfl id) (.refl s)

theorem State.takeMarkEdge_sound (s : State) : Sound s s.takeMarkEdge :=
  (s.setDatum_sound.trans (Sound.planner ..)).trans (State.raise_sound ..)

theorem State.markEdge_sound (s : State) : Sound s s.markEdge :=
  .ite (fun _ => (Sound.planner s _).trans (State.takeMarkEdge_sound _)) (.refl s)

theorem State.sampleMark_sound (s : State) : Sound s s.sampleMark :=
  .ite (fun _ => .planner s _) (.ite (fun _ => .refl s) (.ite (fun _ => s.markEdge_sound) (.planner s _)))

theorem State.formStation_sound (s : State) (h : HeadId) : Sound s (s.formStation h) := by
  unfold State.formStation
  exact .modSeq s h _ rfl

theorem State.beginPlanner_sound (s : State) (accepted : Bool) : Sound s (s.beginPlanner accepted) := by
  have follow : Sound s (s.followX accepted) := .planner s _
  have a : Sound s ((s.followX accepted).reseedStart accepted) :=
    follow.trans (.ite (fun _ => State.reseed_sound _) (.refl _))
  exact ((a.trans (.ite (fun _ => State.sampleMark_sound _) (.refl _))).trans (State.formStation_sound ..)).trans
    (State.formStation_sound ..)

theorem State.endPlanner_sound (s : State) : Sound s s.endPlanner :=
  (Sound.planner s _).trans (.ite (fun _ => State.testPassEnd_sound _) (.refl _))

theorem State.stopEvery_sound (s : State) : Sound s s.stopEvery :=
  (Sound.foldl (fun s h => s.stopHead_sound h) _ s).trans (State.testPassEnd_sound _)

theorem State.toRunning_sound (s : State) (h : s.pass.state = .approach) : Sound s s.toRunning :=
  (Sound.pass s { s.pass with state := .running } rfl rfl (by rw [h]; rfl) (fun e => by cases e)).trans
    (State.reseed_sound _)

theorem State.arrivalDue_state {s : State} (hd : s.arrivalDue = true) : s.pass.state = .approach := by
  simp only [State.arrivalDue, Bool.and_eq_true, decide_eq_true_eq] at hd
  exact hd.1.1.1.1

theorem State.arrival_sound (s : State) : Sound s s.arrival :=
  .ite (fun hd => .ite (fun _ => (s.faultOf_sound ..).trans (State.stopEvery_sound _))
    (.ite (fun _ => (s.takeFault_sound ..).trans (State.stopEvery_sound _))
      (.ite (fun _ => (s.takeFault_sound ..).trans (State.stopEvery_sound _))
        (s.toRunning_sound (State.arrivalDue_state hd))))) (.refl s)

theorem State.abortPass_sound (s : State) : Sound s s.abortPass :=
  (Sound.foldl (fun s h => s.exitOrder_sound h _) _ s).trans (State.testPassEnd_sound _)

theorem State.openSet_sound (s : State) (accepted loss : Bool) : Sound s (s.openSet accepted loss) :=
  (s.takeCauses_sound _).trans (State.arrival_sound _)

theorem State.workTrim_sound (s : State) (accepted : Bool) (h : HeadId) : Sound s (s.workTrim accepted h) := by
  unfold State.workTrim
  exact .still s h _ rfl

theorem State.settleDemand_sound (s : State) (h : HeadId) : Sound s (s.settleDemand h) := .still s h _ rfl

theorem State.formFence_sound (s : State) (h : HeadId) : Sound s (s.formFence h) := by
  unfold State.formFence
  exact .modMap s h _

theorem State.formOutputs_sound (s : State) : Sound s s.formOutputs :=
  ⟨rfl, fun a => ⟨a.1, a.2, a.3, a.4⟩⟩

theorem State.closeSet_sound (s : State) (accepted : Bool) : Sound s (s.closeSet accepted) :=
  ((((((((s.workTrim_sound ..).trans (State.workTrim_sound ..)).trans (State.settleDemand_sound ..)).trans
    (State.settleDemand_sound ..)).trans (State.formFence_sound ..)).trans (State.formFence_sound ..)).trans
    (State.endPlanner_sound _)).trans (State.disarmGuards_sound _)).trans (State.formOutputs_sound _)

/-- A whole set keeps the agreement, and leaves the loss hold counter. -/
theorem State.workSet_sound (s : State) (accepted loss : Bool) : Sound s (s.workSet accepted loss) :=
  ((((s.openSet_sound ..).trans (State.workHeads_sound ..)).trans (State.workGuards_sound ..)).trans
    (State.handCaps_sound ..)).trans (State.closeSet_sound ..)

end Sys2Proof.Machine
end

section
/-! SUPPORT. Records and profiles read from their images lie in their ranges. -/

namespace Sys2Proof.Machine

open Sys2Proof.Safety

/-! ## Fields of an image -/

theorem readU_lt (bs : List Byte) : readU bs < 256 ^ bs.length := by
  induction bs with
  | nil => simp [readU]
  | cons b bs ih =>
    have hb := b.isLt
    simp only [readU, List.length_cons, Nat.pow_succ]
    omega

theorem slice_length (off len : Nat) (bs : List Byte) : (slice off len bs).length = len := by
  simp only [slice, List.length_append, List.length_replicate, List.length_take]
  omega

/-- A signed field of four bytes holds a signed 32-bit number (R189). -/
theorem fieldS_four (off : Nat) (bs : List Byte) :
    -2147483648 ≤ fieldS off 4 bs ∧ fieldS off 4 bs ≤ 2147483647 := by
  have hlt := readU_lt (slice off 4 bs)
  rw [slice_length] at hlt
  unfold fieldS readS
  rw [slice_length]
  dsimp only
  generalize readU (slice off 4 bs) = v at hlt
  split <;> omega

theorem within_iff (lo hi x : Int) : within lo hi x = true ↔ lo ≤ x ∧ x ≤ hi := by
  simp [within]

/-- Without a first false entry every entry is true. -/
theorem all_of_firstFalse {l : List Bool} (h : firstFalse l = none) : ∀ b ∈ l, b = true := by
  induction l with
  | nil => simp
  | cons b l ih =>
    cases b
    · simp [firstFalse] at h
    · simpa [firstFalse] using ih (by simpa [firstFalse] using h)

/-! ## Records -/

/-- A segment record that is read lies in the ranges of its kind (R27). -/
theorem readSegment_inRange {dMax : Int} {bs : List Byte} {g : Segment} (h : readSegment dMax bs = some g) :
    SegmentInRange 25000 g := by
  unfold readSegment at h
  dsimp only at h
  split at h
  · split at h
    · cases h
    · have hs := fieldS_four 4 bs
      simp only [startFields, Option.ite_none_right_eq_some, Option.some.injEq, Bool.and_eq_true, within_iff,
        decide_eq_true_eq] at h
      obtain ⟨hr, rfl⟩ := h
      simp only [SegmentInRange]
      omega
  · split at h
    · cases h
    · simp only [dwellFields, Option.ite_none_right_eq_some, Option.some.injEq, Bool.and_eq_true, within_iff,
        decide_eq_true_eq] at h
      obtain ⟨hr, rfl⟩ := h
      exact hr
  · split at h
    · cases h
    · simp only [traverseFields, Option.ite_none_right_eq_some, Option.some.injEq, Bool.and_eq_true, within_iff,
        decide_eq_true_eq] at h
      obtain ⟨hr, rfl⟩ := h
      simp only [SegmentInRange]
      omega
  · split at h
    · cases h
    · unfold exitFields at h
      split at h
      · cases h
      · simp only [Option.ite_none_right_eq_some, Option.some.injEq, Bool.and_eq_true, Bool.or_eq_true, within_iff,
          decide_eq_true_eq] at h
        obtain ⟨⟨⟨hr, ho⟩, hk⟩, rfl⟩ := h
        exact ⟨hr.1, hr.2, ho.1, ho.2, fun e => hk.resolve_left (by rw [e]; decide)⟩
  · cases h

/-! ## Profiles -/

/-- A gantry profile whose checks all pass lies in its ranges (R141). -/
theorem readGantry_inRange {bs : List Byte} (h : firstFalse (gantryChecks bs) = none) :
    GantryInRange (readGantry bs) := by
  have hm := fieldS_four 36 bs
  have hc := all_of_firstFalse h
  simp only [gantryChecks, List.mem_cons, List.not_mem_nil, or_false, forall_eq_or_imp, forall_eq, within_iff,
    List.contains_eq_mem, decide_eq_true_eq] at hc
  simp only [GantryInRange, readGantry]
  omega

theorem readDepthPage_inRange {bs : List Byte} (h : firstFalse (pageChecks 0 bs) = none) :
    let d := readDepthPage bs
    0 ≤ d.dMin ∧ d.dMin ≤ 25000 ∧ 1 ≤ d.dMax ∧ d.dMax ≤ 25000 ∧ -50000 ≤ d.clear ∧ d.clear ≤ -1000 ∧
      1 ≤ d.plungeRate ∧ d.plungeRate ≤ 1000 ∧ 1 ≤ d.retractRate ∧ d.retractRate ≤ 1000 ∧ 1 ≤ d.withdrawRate ∧
      d.withdrawRate ≤ 5000 ∧ 1 ≤ d.rMax ∧ d.rMax ≤ 1000 := by
  have hc := all_of_firstFalse h
  simp only [pageChecks, List.mem_cons, List.not_mem_nil, or_false, forall_eq_or_imp, forall_eq, within_iff] at hc
  simp only [readDepthPage]
  omega

/-- A head profile keeps its ranges as a page whose checks all pass replaces one of its own (R143, R144). -/
theorem withPage_inRange {p : HeadProfile} {page : Nat} {bs : List Byte} (hp : ProfileInRange p)
    (h : firstFalse (pageChecks page bs) = none) : ProfileInRange (p.withPage page bs) := by
  obtain ⟨hd, hg, hl, ht⟩ := hp
  have hc := all_of_firstFalse h
  unfold HeadProfile.withPage
  split
  · exact ⟨readDepthPage_inRange h, hg, hl, ht⟩
  · refine ⟨hd, ?_, hl, ht⟩
    simp only [pageChecks, List.mem_cons, List.not_mem_nil, or_false, forall_eq_or_imp, forall_eq, within_iff] at hc
    simp only [readGainPage]
    omega
  · refine ⟨hd, hg, ?_, ht⟩
    simp only [pageChecks, List.mem_cons, List.not_mem_nil, or_false, forall_eq_or_imp, forall_eq, within_iff] at hc
    simp only [readLimitPage]
    omega
  · refine ⟨hd, hg, hl, ?_⟩
    simp only [pageChecks, List.mem_cons, List.not_mem_nil, or_false, forall_eq_or_imp, forall_eq, within_iff] at hc
    simp only [readTrimPage]
    omega

/-- A page other than the first leaves the depth window, and the first keeps its relation where it is tested (R144). -/
theorem withPage_window {p : HeadProfile} {page : Nat} {bs : List Byte} (hp : p.depth.dMin < p.depth.dMax)
    (h : (p.withPage page bs).brokenRelation page = none) :
    (p.withPage page bs).depth.dMin < (p.withPage page bs).depth.dMax := by
  unfold HeadProfile.withPage at h ⊢
  split
  · by_contra hn
    simp only [HeadProfile.brokenRelation, hn, if_false, reduceCtorEq] at h
  all_goals exact hp

/-- A profile without a broken relation has its depth window in order (R136, R143). -/
theorem window_of_firstBroken {p : HeadProfile} (h : p.firstBroken = none) : p.depth.dMin < p.depth.dMax := by
  by_contra hn
  simp [HeadProfile.firstBroken, HeadProfile.brokenRelation, hn] at h

theorem HeadProfile.default_inRange : ProfileInRange .default := by
  simp [ProfileInRange, HeadProfile.default, DepthPage.default, GainPage.default, LimitPage.default, TrimPage.default]

theorem GantryProfile.default_inRange : GantryInRange .default := by
  simp [GantryInRange, GantryProfile.default]

/-! ## Queues -/

/-- The kind that a record joining a queue follows: that of the last record, or the last completed one (R29). -/
def kindBehind (k : Option SegKind) (l : List Segment) : Option SegKind :=
  match l.getLast? with
  | some g => some g.kind
  | none => k

theorem Sequencer.reference_eq (q : Sequencer) : q.reference = kindBehind q.lastKind q.queue := rfl

theorem kindBehind_cons (k : Option SegKind) (g : Segment) (l : List Segment) :
    kindBehind k (g :: l) = kindBehind (some g.kind) l := by
  unfold kindBehind
  cases l with
  | nil => rfl
  | cons g' l =>
    rw [List.getLast?_cons_cons, List.getLast?_eq_some_getLast (List.cons_ne_nil g' l)]

/-- Records in order behind the kind they join keep the queue in order (R28, R33). -/
theorem ordered_append {k : Option SegKind} {l gs : List Segment} (h : Ordered k l)
    (hg : Ordered (kindBehind k l) gs) : Ordered k (l ++ gs) := by
  induction l generalizing k with
  | nil => exact hg
  | cons g l ih => exact ⟨h.1, ih h.2 (kindBehind_cons k g l ▸ hg)⟩

/-- The records of a SEGMENT stream that pass stand in order and in range (R33, R180). -/
theorem checkSegments_ok {dMax : Int} (records : List (List Byte)) :
    ∀ (k : Option SegKind) (pos : Nat) (gs : List Segment), checkSegments dMax k pos records = .inl gs →
      Ordered k gs ∧ (∀ g ∈ gs, SegmentInRange 25000 g) ∧ gs.length = records.length := by
  induction records with
  | nil =>
    intro k pos gs h
    cases h
    exact ⟨trivial, by simp, rfl⟩
  | cons bs records ih =>
    intro k pos gs h
    unfold checkSegments at h
    split at h
    · cases h
    next g hg =>
      split at h
      next hm =>
        split at h
        next gs' hgs =>
          cases h
          obtain ⟨ho, hr, hl⟩ := ih _ _ _ hgs
          exact ⟨⟨hm, ho⟩, List.forall_mem_cons.2 ⟨readSegment_inRange hg, hr⟩, by simp [hl]⟩
        · cases h
      · cases h

/-- Records that join a queue leave the executing one (R30). -/
theorem SeqOk.append {q : Sequencer} {gs : List Segment} (h : SeqOk q) (hg : Ordered q.reference gs) :
    SeqOk { q with queue := q.queue ++ gs } := by
  obtain ⟨ho, hk⟩ := h
  refine ⟨ordered_append ho hg, ?_⟩
  cases hq : q.queue with
  | cons g rest => simpa [Sequencer.executingRecord, hq] using hk
  | nil =>
    have hn : q.executingRecord = none := by simp [Sequencer.executingRecord, hq]
    simp only [hn, Option.map_none, reduceCtorEq, imp_false] at hk
    obtain ⟨hw, hs, hd, ht, he⟩ := hk
    exact ⟨fun e x => absurd x (hw e), fun e => absurd e hs, fun e => absurd e hd, fun e => absurd e ht,
      fun e f => absurd f (he e)⟩

end Sys2Proof.Machine
end

section
/-! SUPPORT. What PASS START leaves in each head, and that every command keeps passes, heads and records in agreement
and in range. -/

namespace Sys2Proof.Machine

open Sys2Proof.Safety

/-! ## PASS START -/

/-- A head that PASS START names, with its START executing (R4, R35). -/
def Head.started (x : Head) (station rpm force depth : Int) : Head :=
  { x with
    seq := { x.seq with
      state := .waiting, order := .none, faultExit := false, executing := true
      progress := { Progress.cleared with s0 := station }
      carried := ⟨force, 0, rpm, min depth x.profile.depth.dMax⟩ }
    reg := x.reg.cleared }

/-- A head that PASS START does not name (R4). -/
def Head.leftOut (x : Head) : Head :=
  { x with
    seq := { x.seq with state := .idle, order := .none, faultExit := false, executing := false, progress := .cleared }
    reg := x.reg.cleared }

theorem State.startHead_unnamed {s : State} {h : HeadId} (hn : s.isPassHead h = false) :
    s.startHead h = s.modHead h Head.leftOut := by
  unfold State.startHead
  dsimp only
  rw [State.modSeq_eq, State.modHead_isPassHead, hn]
  cases h <;> rfl

theorem State.startHead_named {s : State} {h : HeadId} {station rpm force depth : Int} {rest : List Segment}
    (hn : s.isPassHead h = true) (hq : (s.head h).seq.queue = .start station rpm force depth :: rest) :
    s.startHead h = if rest = [] then (s.modHead h fun x => x.started station rpm force depth).raise .queueLow
        (packDetail h.code 0)
      else s.modHead h fun x => x.started station rpm force depth := by
  have start : ∀ t : State, (t.head h).seq.queue = .start station rpm force depth :: rest →
      t.startRecord h 0 = if rest = [] then (t.startStart h station rpm force depth).raise .queueLow (packDetail h.code 0)
        else t.startStart h station rpm force depth := by
    intro t ht
    unfold State.startRecord
    simp only [ht]
    unfold State.raiseQueueLow
    have hs : ((t.startStart h station rpm force depth).head h).seq.successor = rest.head? := by
      dsimp only [State.startStart]
      rw [State.modSeq_head]
      simp [Sequencer.successor, ht]
    rw [hs]
    cases rest <;> simp [Segment.isLast]
  unfold State.startHead
  dsimp only
  rw [State.modSeq_eq, State.modHead_isPassHead, hn, if_pos rfl, start _ (by cases h <;> exact hq)]
  cases h <;> rfl

theorem State.startHead_oneHead (s : State) (h : HeadId) : OneHead s (s.startHead h) h := by
  unfold State.startHead
  have a : OneHead s (s.modSeq h fun q => { q with order := .none, faultExit := false }) h := .modSeq s h _
  exact .ite (((a.trans (.modHead ..)).trans (.modSeq ..)).trans (State.startRecord_oneHead ..))
    ((a.trans (.modHead ..)).trans (.modSeq ..))

/-- The trim record at the start of a pass (R4, R93). -/
def Head.trimmed (x : Head) : Head :=
  { x with trim := { x.trim with ovrV := 1000, ovrN := 1000, lateral := 0 } }

theorem State.setApproach_head (s : State) (h : HeadId) : s.setApproach.head h = s.head h := by
  unfold State.setApproach
  split
  · cases h <;> rfl
  · rfl

theorem State.reseed_head (s : State) (h : HeadId) : s.reseed.head h = s.head h := by
  cases h <;> rfl

/-- The state in which PASS START forms the approach: the pass record filled and the heads started (R4, R5). -/
def State.headsStarted (s : State) (o : PassOrder) : State :=
  (({ s with pass := o.record } : State).startHead .a).startHead .b

theorem State.startPass_eq (s : State) (o : PassOrder) :
    s.startPass o = ((((s.headsStarted o).setApproach.reseed.startTrim .a).startTrim .b).clearLatched
      fun _ => true).clearFired := rfl

theorem State.headsStarted_frame (s : State) (o : PassOrder) :
    s.headsStarted o = { s with
      pass := o.record, headA := (s.headsStarted o).headA, headB := (s.headsStarted o).headB
      events := (s.headsStarted o).events } := by
  have a := State.startHead_oneHead ({ s with pass := o.record } : State) .a
  have b := State.startHead_oneHead (({ s with pass := o.record } : State).startHead .a) .b
  unfold State.headsStarted
  rw [b.frame, a.frame]

theorem State.headsStarted_unnamed {s : State} {o : PassOrder} {h : HeadId} (hn : o.heads.has h = false) :
    (s.headsStarted o).head h = (s.head h).leftOut := by
  have a := State.startHead_oneHead ({ s with pass := o.record } : State) .a
  have b := State.startHead_oneHead (({ s with pass := o.record } : State).startHead .a) .b
  cases h with
  | a =>
    refine b.other.trans ?_
    rw [State.startHead_unnamed (s := { s with pass := o.record }) (h := .a) hn]
    rfl
  | b =>
    have hn' : (({ s with pass := o.record } : State).startHead .a).isPassHead .b = false :=
      (a.isPassHead .b).trans hn
    unfold State.headsStarted
    rw [State.startHead_unnamed hn', State.modHead_head]
    exact congrArg Head.leftOut a.other

theorem State.startHead_head {s : State} {h : HeadId} {station rpm force depth : Int} {rest : List Segment}
    (hn : s.isPassHead h = true) (hq : (s.head h).seq.queue = .start station rpm force depth :: rest) :
    (s.startHead h).head h = (s.head h).started station rpm force depth := by
  rw [State.startHead_named hn hq]
  split <;> simp

theorem State.headsStarted_named {s : State} {o : PassOrder} {h : HeadId} {station rpm force depth : Int}
    {rest : List Segment} (hn : o.heads.has h = true)
    (hq : (s.head h).seq.queue = .start station rpm force depth :: rest) :
    (s.headsStarted o).head h = (s.head h).started station rpm force depth := by
  have a := State.startHead_oneHead ({ s with pass := o.record } : State) .a
  have b := State.startHead_oneHead (({ s with pass := o.record } : State).startHead .a) .b
  cases h with
  | a => exact b.other.trans (State.startHead_head (h := .a) hn hq)
  | b =>
    have same : (({ s with pass := o.record } : State).startHead .a).head .b = s.head .b := a.other
    refine (State.startHead_head ((a.isPassHead .b).trans hn) (same ▸ hq)).trans ?_
    rw [same]

/-- Each head as PASS START leaves it: started or left out, its trim unit reset and its fired flags clear (R4, R93,
R126). -/
theorem State.startPass_head (s : State) (o : PassOrder) (h : HeadId) :
    (s.startPass o).head h = ((s.headsStarted o).head h).trimmed.unfired := by
  have heads : ∀ t : State, ((t.startTrim .a).startTrim .b).head h = (t.head h).trimmed := by
    intro t
    cases h <;> rfl
  rw [State.startPass_eq, State.clearFired_head, State.clearLatched_head, heads, State.reseed_head,
    State.setApproach_head]

/-- What the approach X of a GIVEN pass is formed from does not change behind it (R5). -/
theorem State.startPass_pass (s : State) (o : PassOrder) :
    (s.startPass o).pass = (s.headsStarted o).setApproach.pass := by
  have : ∀ t : State, (((t.reseed.startTrim .a).startTrim .b).clearLatched fun _ => true).clearFired.pass = t.pass :=
    fun _ => rfl
  rw [State.startPass_eq, this]

theorem State.setApproach_pass (s : State) :
    s.setApproach.pass = { s.pass with approachX := s.setApproach.pass.approachX } := by
  unfold State.setApproach
  split <;> rfl

theorem State.startPass_record (s : State) (o : PassOrder) :
    (s.startPass o).pass = { o.record with approachX := (s.startPass o).pass.approachX } := by
  have : (s.headsStarted o).pass = o.record := by rw [State.headsStarted_frame]
  rw [State.startPass_pass, State.setApproach_pass, this]

theorem State.startPass_gantry (s : State) (o : PassOrder) : (s.startPass o).gantry = s.gantry :=
  (s.startPass_worked o).gantry

/-- A pass that PASS START begins agrees with its heads: each named head waits with its START, the other one is
IDLE (R3 to R5). -/
theorem State.startPass_agree {s : State} {o : PassOrder}
    (hq : ∀ h, Ordered (s.head h).seq.lastKind (s.head h).seq.queue)
    (hp : ∀ h, o.heads.has h = true → s.gantry.present.has h = true)
    (hs : ∀ h, o.heads.has h = true → s.startsWithStart h = true) : Agree (s.startPass o) := by
  have hnm : ∀ h, (s.startPass o).isPassHead h = o.heads.has h := fun h => by
    rw [State.isPassHead, State.startPass_record]
    rfl
  have hact : (s.startPass o).active = true := by
    rw [State.active, State.startPass_record]
    rfl
  have named : ∀ h, o.heads.has h = true → ∃ station rpm force depth rest,
      (s.head h).seq.queue = .start station rpm force depth :: rest ∧
      (s.startPass o).head h = ((s.head h).started station rpm force depth).trimmed.unfired := by
    intro h hn
    have hst := hs h hn
    unfold State.startsWithStart at hst
    split at hst
    next station rpm force depth e =>
      obtain ⟨rest, e⟩ := List.head?_eq_some_iff.1 e
      exact ⟨_, _, _, _, rest, e, by rw [State.startPass_head, State.headsStarted_named hn e]⟩
    next => cases hst
  have unnamed : ∀ h, o.heads.has h = false → (s.startPass o).head h = (s.head h).leftOut.trimmed.unfired :=
    fun h hn => by rw [State.startPass_head, State.headsStarted_unnamed hn]
  refine ⟨fun h hw => ⟨hact, ?_⟩, fun _ h hn => ?_, fun _ h hn => .inl ?_, fun h => ?_⟩
  · rw [hnm]
    by_contra hn
    rw [State.headState, unnamed h (by simpa using hn)] at hw
    cases hw
  · rw [State.startPass_gantry]
    exact hp h (hnm h ▸ hn)
  · obtain ⟨_, _, _, _, _, -, e⟩ := named h (hnm h ▸ hn)
    rw [State.headState, e]
    rfl
  · cases hn : o.heads.has h with
    | false =>
      rw [unnamed h hn]
      exact .of_recordless rfl (hq h)
    | true =>
      obtain ⟨station, rpm, force, depth, rest, e, ht⟩ := named h hn
      rw [ht]
      have ho := hq h
      rw [e] at ho
      refine SeqOk.executing (g := .start station rpm force depth) (rest := rest) (st := .waiting)
        (k := (s.head h).seq.lastKind) (f := false) ?_ ho fun _ => rfl
      rw [← e]
      rfl

/-! ## The whole invariant -/

theorem headsOk_iff (s : State) : HeadsOk s ↔
    PassMode s ∧ RangesOk s ∧ (∀ h, (s.head h).seq.queue.length ≤ 16) ∧ Agree s := by
  constructor
  · rintro ⟨hm, ⟨hn, hp, ha⟩, hr, hq⟩
    exact ⟨hm, hr, fun h => (hq h).1.1, hn, hp, ha, fun h => ⟨(hq h).1.2, (hq h).2⟩⟩
  · rintro ⟨hm, hr, hl, a⟩
    exact ⟨hm, ⟨a.named, a.present, a.approach⟩, hr, fun h => ⟨⟨hl h, (a.seqs h).1⟩, (a.seqs h).2⟩⟩

theorem QueueMoves.mem {k l : Option SegKind} {p q : List Segment} (m : QueueMoves k p l q) :
    (∀ g ∈ q, g ∈ p) ∧ q.length ≤ p.length := by
  induction m with
  | refl => exact ⟨fun _ => id, le_rfl⟩
  | complete k g rest => exact ⟨fun _ => List.mem_cons_of_mem g, by simp⟩
  | take k q => exact ⟨fun _ => List.mem_of_mem_take, by simp⟩
  | clear k q => exact ⟨by simp, by simp⟩
  | trans _ _ ih ih' => exact ⟨fun g hg => ih.1 g (ih'.1 g hg), ih'.2.trans ih.2⟩

end Sys2Proof.Machine

namespace Sys2Proof.Safety

open Sys2Proof.Machine

/-- The work of the blocks keeps the invariant where it keeps the agreement of heads and records. -/
theorem HeadsOk.moved {s t : State} (w : Worked s t) (a : Sound s t) (h : HeadsOk s) : HeadsOk t := by
  obtain ⟨hm, ⟨hg, hp, hd, hs⟩, hl, ha⟩ := (headsOk_iff s).1 h
  have hmode : t.service.mode ≠ .config → s.service.mode ≠ .config := fun hne => by
    rcases w.mode with e | ⟨e, -⟩
    · exact e ▸ hne
    · simp [e]
  refine (headsOk_iff t).2 ⟨fun hact => ?_, ⟨w.gantry ▸ hg, fun x => w.profile x ▸ hp x, fun hne x hx => ?_,
    fun x g hg => hs x g ((w.queue x).mem.1 g hg)⟩, fun x => (w.queue x).mem.2.trans (hl x), a.agree ha⟩
  · rcases w.mode with e | ⟨-, e⟩
    · exact e ▸ hm (w.active hact)
    · simp [e]
  · rw [w.profile x]
    exact hd (hmode hne) x (w.gantry ▸ hx)

/-- An update that leaves what the invariant reads. -/
theorem HeadsOk.same {s t : State} (h : HeadsOk s) (hm : t.service.mode = s.service.mode) (hp : t.pass = s.pass)
    (hg : t.gantry = s.gantry)
    (hh : ∀ x, (t.head x).profile = (s.head x).profile ∧ (t.head x).seq = (s.head x).seq) : HeadsOk t := by
  obtain ⟨h1, ⟨h2, h3, h4⟩, ⟨h5, h6, h7, h8⟩, h9⟩ := h
  refine ⟨?_, ⟨?_, ?_, ?_⟩, ⟨?_, ?_, ?_, ?_⟩, fun x => ?_⟩
  all_goals simp only [PassMode, State.active, State.headState, State.isPassHead, QueueOk, RecordOk, hm, hp, hg,
    (hh _).1, (hh _).2]
  · exact h1
  · exact h2
  · exact h3
  · exact h4
  · exact h5
  · exact h6
  · exact h7
  · exact h8
  · exact h9 x

/-- Records that join a head's queue keep the invariant (R28, R30, R33). -/
theorem HeadsOk.append {s : State} {x : HeadId} {gs : List Segment} (h : HeadsOk s)
    (ho : Ordered (s.head x).seq.reference gs) (hr : ∀ g ∈ gs, SegmentInRange 25000 g)
    (hl : (s.head x).seq.queue.length + gs.length ≤ 16) :
    HeadsOk (s.modSeq x fun q => { q with queue := q.queue ++ gs }) := by
  obtain ⟨hm, ⟨hg, hp, hd, hs⟩, hlen, ha⟩ := (headsOk_iff s).1 h
  have prof : ∀ y, ((s.modSeq x fun q => { q with queue := q.queue ++ gs }).head y).profile = (s.head y).profile := by
    intro y
    rcases HeadId.eq_or_other y x with rfl | rfl <;> simp
  refine (headsOk_iff _).2 ⟨?_, ⟨by simpa using hg, fun y => prof y ▸ hp y, fun hne y hy => ?_, fun y g hg => ?_⟩,
    fun y => ?_, ?_⟩
  · simpa [PassMode, State.active] using hm
  · rw [prof y]
    exact hd (by simpa using hne) y (by simpa using hy)
  · rcases HeadId.eq_or_other y x with rfl | rfl
    · rw [State.modSeq_head] at hg
      rcases List.mem_append.1 hg with hg | hg
      · exact hs _ g hg
      · exact hr g hg
    · exact hs _ g (by simpa using hg)
  · rcases HeadId.eq_or_other y x with rfl | rfl
    · simpa using hl
    · simpa using hlen _
  · exact ha.replace x (by simp) (by simp) (by simp) (by simp [State.headState]) (by simp [State.headState])
      (by simpa using (ha.seqs x).append ho)

end Sys2Proof.Safety
end

section
/-! SUPPORT. Every command keeps passes, heads and records in agreement and in range (O10). -/

namespace Sys2Proof.Safety

open Sys2Proof.Machine

/-! ## Requests on the tables -/

theorem HeadsOk.guards {s : State} (h : HeadsOk s) (l : List GuardRecord) : HeadsOk { s with guards := l } := h

theorem HeadsOk.modMap {s : State} (h : HeadsOk s) (x : HeadId) (f : CompMap → CompMap) : HeadsOk (s.modMap x f) :=
  h.same (by simp) (by simp) (by simp) fun y => by
    rcases HeadId.eq_or_other y x with rfl | rfl <;> simp

theorem HeadsOk.raise {s : State} (h : HeadsOk s) (k : EventKind) (d : Nat) : HeadsOk (s.raise k d) :=
  h.same (by simp) (by simp) (by simp) fun y => by simp

theorem HeadsOk.refuseFence {s : State} (h : HeadsOk s) (x : HeadId) (k : Nat) : HeadsOk (s.refuseFence x k) :=
  (h.modMap x _).raise ..

theorem HeadsOk.putGuards {s : State} (h : HeadsOk s) (k : Nat) (gs : List GuardRecord) :
    HeadsOk (Machine.putGuards k gs s) := by
  induction gs generalizing k s with
  | nil => exact h
  | cons g gs ih => exact ih (s := s.putGuard k g) (h.guards _) (k + 1)

theorem HeadsOk.writePoint {s : State} (h : HeadsOk s) (x : HeadId) (k : Nat) (p : MapPoint) :
    HeadsOk (Machine.writePoint s x k p).state := by
  unfold Machine.writePoint
  dsimp only
  split
  · exact h.modMap ..
  · exact h.refuseFence ..
  · exact h

theorem HeadsOk.writeHeader {s : State} (h : HeadsOk s) (x : HeadId) (n : Nat) :
    HeadsOk (Machine.writeHeader s x n).state := by
  unfold Machine.writeHeader
  dsimp only
  split
  · exact h
  · split
    · exact h
    · split
      · exact h
      · split
        · exact h.refuseFence ..
        · exact h.modMap ..

theorem HeadsOk.writeGuard {s : State} (h : HeadsOk s) (i : Nat) (bs : List Byte) :
    HeadsOk (Machine.writeGuard s i bs).state := by
  unfold Machine.writeGuard
  split
  · exact h
  · split
    · exact h
    · split
      · exact h.guards _
      · exact h

/-- A gantry profile is written in CONFIG, where no pass is active (R135, R142). -/
theorem HeadsOk.writeGantry {s : State} (h : HeadsOk s) (i : Nat) (bs : List Byte) :
    HeadsOk (Machine.writeGantry s i bs).state := by
  unfold Machine.writeGantry
  split
  · exact h
  next hc =>
    have hc : s.service.mode = .config := not_not.1 hc
    split
    · exact h
    · split
      · exact h
      next hf =>
        obtain ⟨hm, ⟨hn, -, ha⟩, ⟨-, hp, -, hs⟩, hq⟩ := h
        have hin : s.active ≠ true := fun e => hm e hc
        exact ⟨hm, ⟨hn, fun e => absurd e hin, ha⟩,
          ⟨readGantry_inRange hf, hp, fun e => absurd hc e, hs⟩, hq⟩

/-- A head's profile replaced by one that is in range, and in order outside CONFIG. -/
theorem HeadsOk.putProfile {s : State} (h : HeadsOk s) (x : HeadId) {p : HeadProfile} (hp : ProfileInRange p)
    (hw : s.service.mode ≠ .config → (s.head x).profile.depth.dMin < (s.head x).profile.depth.dMax →
      p.depth.dMin < p.depth.dMax) : HeadsOk (s.modHead x fun y => { y with profile := p }) := by
  obtain ⟨hm, hph, ⟨hg, hp', hd, hs⟩, hq⟩ := h
  have sequ : ∀ y, ((s.modHead x fun z => { z with profile := p }).head y).seq = (s.head y).seq := fun y => by
    rcases HeadId.eq_or_other y x with rfl | rfl <;> simp
  have state : ∀ y, (s.modHead x fun z => { z with profile := p }).headState y = s.headState y := fun y =>
    congrArg Sequencer.state (sequ y)
  refine ⟨by simpa [PassMode] using hm, ?_, ⟨by simpa using hg, fun y => ?_, fun hne y hy => ?_, fun y => ?_⟩, fun y => ?_⟩
  · simpa [PassHeadsOk, state] using hph
  · rcases HeadId.eq_or_other y x with rfl | rfl
    · simpa using hp
    · simpa using hp' _
  · have hne' : s.service.mode ≠ .config := by simpa using hne
    have hy' : s.gantry.present.has y = true := by simpa using hy
    rcases HeadId.eq_or_other y x with rfl | rfl
    · simpa using hw hne' (hd hne' _ hy')
    · simpa using hd hne' _ hy'
  · rw [sequ y]
    exact hs y
  · simp only [QueueOk, RecordOk, sequ y]
    exact hq y

theorem HeadsOk.writePage {s : State} (h : HeadsOk s) (x : HeadId) (page : Nat) (bs : List Byte) :
    HeadsOk (Machine.writePage s x page bs).state := by
  have hr : ProfileInRange (s.head x).profile := h.2.2.1.2.1 x
  unfold Machine.writePage
  dsimp only
  split
  · exact h
  · split
    · exact h
    next hf =>
      split
      next hm => exact h.putProfile x (withPage_inRange hr hf) fun hne => absurd hm hne
      next hb _ => exact h.putProfile x (withPage_inRange hr hf) fun _ hlt => withPage_window hlt hb
      next => exact h

theorem HeadsOk.onHead {s : State} (h : HeadsOk s) (r : Request) {f : HeadId → Answer}
    (hf : ∀ x, HeadsOk (f x).state) : HeadsOk (s.onHead r f).state := by
  unfold State.onHead
  split
  · exact hf _
  · exact h

theorem HeadsOk.ofLength {s : State} (h : HeadsOk s) (r : Request) (n : Nat) {a : Answer} (ha : HeadsOk a.state) :
    HeadsOk (s.ofLength r n a).state := by
  unfold State.ofLength
  split
  · exact ha
  · exact h

theorem HeadsOk.writeRecord {s : State} (h : HeadsOk s) (r : Request) : HeadsOk (answerWriteRecord s r).state := by
  have header : HeadsOk (answerWriteMapHeader s r).state :=
    h.onHead r fun x => h.ofLength r _ (h.writeHeader x _)
  unfold answerWriteRecord
  split
  · exact h
  · exact h.onHead r fun _ => h
  · unfold answerWriteMap
    split
    · exact header
    · exact h.onHead r fun x => h.ofLength r _ (h.writePoint x _ _)
  · exact h.ofLength r _ (h.writeGuard _ _)
  · exact h.ofLength r _ (h.writeGantry _ _)
  · refine h.onHead r fun x => ?_
    split
    · exact h
    · exact h.ofLength r _ (h.writePage x _ _)
  · refine h.ofLength r _ ?_
    unfold writeSlot
    split
    · exact h
    · split
      · exact h
      · split <;> exact h

theorem HeadsOk.readRecord {s : State} (h : HeadsOk s) (r : Request) : HeadsOk (answerReadRecord s r).state := by
  unfold answerReadRecord
  dsimp only
  split
  · exact h
  · refine h.onHead r fun x => ?_
    unfold readSegmentRecord
    dsimp only
    split <;> exact h
  · refine h.onHead r fun x => ?_
    unfold readMapRecord
    dsimp only
    split
    · exact h
    · split <;> exact h
  · unfold readGuardRecord
    split <;> exact h
  · unfold readGantryRecord
    split <;> exact h
  · refine h.onHead r fun x => ?_
    unfold readPageRecord
    split <;> exact h
  · unfold readSlotRecord
    split <;> exact h

/-! ## Queues and streams -/

theorem HeadsOk.appendSegment {s : State} (h : HeadsOk s) (r : Request) : HeadsOk (answerAppend s r).state := by
  refine h.onHead r fun x => ?_
  unfold appendRecord
  dsimp only
  split
  · exact h
  next hl =>
    split
    · exact h
    next g hg =>
      split
      next hm =>
        exact h.append (gs := [g]) ⟨hm, trivial⟩ (by simpa using readSegment_inRange hg) (by simp; omega)
      · exact h

/-- CANCEL PENDING empties the queue of a head out of the pass, and takes the pending records from another (R32). -/
theorem HeadsOk.cancel {s : State} (h : HeadsOk s) (x : HeadId) : HeadsOk (s.cancel x) := by
  unfold State.cancel
  split
  next ho =>
    refine h.moved (.modSeq s x _ (.clear _ _)) (.modHead s x _ id (fun _ => id) fun _ => .of_recordless ?_ trivial)
    have hw : (s.head x).seq.state.working = false := by simpa [State.outOfPass, State.headState] using ho
    cases e : (s.head x).seq.state <;> simp [e, HeadState.working, HeadState.recordless] at hw ⊢
  next => exact h.moved (s.dropPending_worked x) (s.dropPending_sound x)

theorem HeadsOk.closeStream {s : State} (h : HeadsOk s) : HeadsOk s.closeStream := h

theorem HeadsOk.completeStream {s : State} (h : HeadsOk s) (c : Stream) (records : List (List Byte)) :
    HeadsOk (Machine.completeStream s c records).state := by
  have h := h.closeStream
  unfold Machine.completeStream
  dsimp only
  generalize s.closeStream = s at h ⊢
  split
  · exact h
  · split
    · unfold applySegments
      dsimp only
      split
      · exact h
      next hl =>
        split
        next gs hgs =>
          obtain ⟨ho, hr, hlen⟩ := checkSegments_ok records _ _ _ hgs
          exact h.append ho hr (by omega)
        · exact h
    · unfold applyPoints
      dsimp only
      split
      · exact h.modMap ..
      · split
        · exact h.refuseFence ..
        · exact h
    · unfold applyGuards
      split
      · exact h
      · split
        · exact h.putGuards ..
        · exact h

theorem HeadsOk.streamData {s : State} (h : HeadsOk s) (r : Request) : HeadsOk (answerStreamData s r).state := by
  unfold answerStreamData
  dsimp only
  split
  · exact h
  · split
    · exact h
    · split
      · exact h.completeStream ..
      · exact h

theorem HeadsOk.streamOpen {s : State} (h : HeadsOk s) (r : Request) : HeadsOk (answerStreamOpen s r).state := by
  unfold answerStreamOpen
  dsimp only
  split
  · exact h
  · split
    · exact h
    · split <;> exact h

/-! ## Passes and modes -/

/-- PASS START is taken for present heads whose queues begin with a START (R3). -/
theorem HeadsOk.startPass {s : State} (h : HeadsOk s) {o : PassOrder} (hm : s.service.mode = .ready)
    (hp : ∀ x, o.heads.has x = true → s.gantry.present.has x = true)
    (hs : ∀ x, o.heads.has x = true → s.startsWithStart x = true) : HeadsOk (s.startPass o) := by
  obtain ⟨-, ⟨hg, hpr, hd, hsg⟩, hl, ha⟩ := (headsOk_iff s).1 h
  have w := s.startPass_worked o
  have mode : (s.startPass o).service.mode ≠ .config := by
    rcases w.mode with e | ⟨-, e⟩
    · rw [e]
      change s.service.mode ≠ _
      rw [hm]
      decide
    · rw [e]
      decide
  refine (headsOk_iff _).2 ⟨fun _ => mode, ⟨w.gantry ▸ hg, fun x => w.profile x ▸ hpr x, fun _ x hx => ?_,
    fun x g hgq => hsg x g ((w.queue x).mem.1 g hgq)⟩, fun x => (w.queue x).mem.2.trans (hl x),
    State.startPass_agree (fun x => (ha.seqs x).1) hp hs⟩
  rw [w.profile x]
  exact hd (by rw [hm]; decide) x (w.gantry ▸ hx)

theorem HeadsOk.passStart {s : State} (h : HeadsOk s) (r : Request) : HeadsOk (answerPassStart s r).state := by
  unfold answerPassStart
  split
  · exact h
  next hm =>
    split
    · exact h
    · split
      · exact h
      · split
        · exact h
        next o _ =>
          split
          · exact h
          next hp =>
            split
            · exact h
            next hs =>
              refine h.startPass (not_not.1 hm) (fun x hx => ?_) fun x hx => ?_
              · simp only [Bool.not_eq_true, Bool.not_eq_false', List.all_eq_true] at hp
                exact hp x ((HeadSet.mem_members _ _).2 hx)
              · have := List.find?_eq_none.1 hs x ((HeadSet.mem_members _ _).2 hx)
                simpa using this

/-- PASS RESUME returns an active pass to work (R9). -/
theorem resumePass_agree {s : State} : Agree s → Agree s.resumePass := by
  have a : Sound s { s with pass := { s.pass with
      state := if s.pass.state = .held then .running else s.pass.state, holdCause := .none } } := by
    refine .pass s _ rfl rfl ?_ ?_ <;> dsimp only <;> split
    next e => rw [e]; rfl
    next => rfl
    next => exact fun e => by cases e
    next => exact id
  exact fun h => ⟨(a.agree h).1, (a.agree h).2, (a.agree h).3, (a.agree h).4⟩

theorem HeadsOk.resumePass {s : State} (h : HeadsOk s) : HeadsOk s.resumePass := by
  obtain ⟨hm, hr, hl, ha⟩ := (headsOk_iff s).1 h
  refine (headsOk_iff _).2 ⟨fun e => hm ?_, hr, hl, resumePass_agree ha⟩
  simp only [State.active, State.resumePass] at e ⊢
  split at e
  next e' => rw [e']; rfl
  next => exact e

/-- ENTER READY is taken where the depth windows of the present heads are in order (R136). -/
theorem HeadsOk.enterReady {s : State} (h : HeadsOk s) (hc : s.service.mode = .config)
    (hf : s.readyFailure = none) : HeadsOk s.enterReady := by
  obtain ⟨hm, hph, ⟨hg, hp, -, hs⟩, hq⟩ := h
  have broken : ∀ x, s.presentBroken x = none := by
    unfold State.readyFailure at hf
    split at hf
    · cases hf
    · split at hf
      · cases hf
      · split at hf
        · cases hf
        · cases hf
        next ha hb => exact fun x => by cases x <;> assumption
  refine ⟨fun e => absurd hc (hm e), hph, ⟨hg, hp, fun _ x hx => ?_, hs⟩, hq⟩
  have := broken x
  rw [State.presentBroken, if_pos (show s.gantry.present.has x = true from hx)] at this
  exact window_of_firstBroken this

theorem HeadsOk.enterConfig {s : State} (h : HeadsOk s) (r : Request) : HeadsOk (answerEnterConfig s r).state := by
  unfold answerEnterConfig
  split
  · exact h
  · split
    · exact h
    next hin =>
      obtain ⟨-, hph, ⟨hg, hp, -, hs⟩, hq⟩ := h
      exact ⟨fun e => absurd e hin, hph, ⟨hg, hp, fun e => absurd rfl e, hs⟩, hq⟩

/-- CLEAR FAULT returns FAULT to READY (R140). -/
theorem HeadsOk.clearFault {s : State} (h : HeadsOk s) : HeadsOk s.clearFault := by
  have hmode : s.clearFault.service.mode = .config ↔ s.service.mode = .config := by
    simp only [State.clearFault]
    split
    next e => simp [e]
    next => rfl
  obtain ⟨hm, hph, ⟨hg, hp, hd, hs⟩, hq⟩ := h
  exact ⟨fun e => fun e' => hm e (hmode.1 e'), hph, ⟨hg, hp, fun hne => hd fun e => hne (hmode.2 e), hs⟩, hq⟩

/-- Every request keeps the invariant. -/
theorem HeadsOk.answer {s : State} (h : HeadsOk s) (k : RequestKind) (r : Request) :
    HeadsOk (k.answer s r).state := by
  cases k <;> simp only [RequestKind.answer]
  case readStatus =>
    unfold answerReadStatus
    split <;> exact h
  case readRecord => exact h.readRecord r
  case writeRecord => exact h.writeRecord r
  case appendSegment => exact h.appendSegment r
  case cancelPending => exact h.onHead r fun x => h.cancel x
  case streamOpen => exact h.streamOpen r
  case streamData => exact h.streamData r
  case streamCancel =>
    unfold answerStreamCancel
    split <;> exact h
  case passStart => exact h.passStart r
  case passHold =>
    unfold answerPassHold
    split
    · exact h
    · split
      · exact h
      · exact h.moved (s.holdOrder_worked _) (s.holdOrder_sound _)
  case passResume =>
    unfold answerPassResume
    dsimp only
    split
    · exact h
    · split
      · exact h
      · split
        · exact h
        · split
          · exact h
          · exact h.resumePass
  case passAbort =>
    unfold answerPassAbort
    split
    · exact h
    · split
      · exact h
      · exact h.moved s.abortPass_worked s.abortPass_sound
  case enterReady =>
    unfold answerEnterReady
    split
    · exact h
    next hc =>
      split
      · exact h
      next hf => exact h.enterReady (not_not.1 hc) hf
  case enterConfig => exact h.enterConfig r
  case takeEvent => exact h
  case setEventMask =>
    unfold answerSetEventMask
    dsimp only
    split <;> exact h
  case clearFault =>
    unfold answerClearFault
    split
    · exact h
    · split
      · exact h
      · exact h.clearFault
  case resetNode =>
    unfold answerResetNode
    split <;> exact h

/-! ## Resets, frames and sets -/

theorem HeadsOk.afterReset {s : State} (h : HeadsOk s) (straps : BitVec 6) (p : Power) :
    HeadsOk (s.afterReset straps p) := by
  obtain ⟨-, -, ⟨hg, hp, -, -⟩, -⟩ := h
  have seqs : ∀ x, ((s.afterReset straps p).head x).seq = .initial := fun x => by cases x <;> rfl
  refine (headsOk_iff _).2 ⟨fun (e : false = true) => (nomatch e), ⟨hg, fun x => ?_, fun e => absurd rfl e, fun x => ?_⟩,
    fun x => ?_, ⟨fun x e => ?_, fun (e : false = true) => (nomatch e), fun (e : PassState.idle = .approach) => (nomatch e),
    fun x => ?_⟩⟩
  · cases x
    · exact hp .a
    · exact hp .b
  · rw [seqs]
    simp [Sequencer.initial]
  · rw [seqs]
    simp [Sequencer.initial]
  · rw [State.headState, seqs] at e
    cases e
  · rw [seqs]
    exact .of_recordless rfl trivial

theorem HeadsOk.powerOn (straps : BitVec 6) : HeadsOk (State.powerOn straps) := by
  have seqs : ∀ x, ((State.powerOn straps).head x).seq = .initial := fun x => by cases x <;> rfl
  refine (headsOk_iff _).2 ⟨fun (e : false = true) => (nomatch e),
    ⟨GantryProfile.default_inRange, fun x => ?_, fun e => absurd rfl e, fun x => ?_⟩, fun x => ?_,
    ⟨fun x e => ?_, fun (e : false = true) => (nomatch e), fun (e : PassState.idle = .approach) => (nomatch e),
      fun x => ?_⟩⟩
  · cases x <;> exact HeadProfile.default_inRange
  · rw [seqs]
    simp [Sequencer.initial]
  · rw [seqs]
    simp [Sequencer.initial]
  · rw [State.headState, seqs] at e
    cases e
  · rw [seqs]
    exact .of_recordless rfl trivial

theorem HeadsOk.answerRequest {s : State} (h : HeadsOk s) (k : RequestKind) (r : Request) :
    HeadsOk (s.answerRequest k r).state := by
  have a : HeadsOk (if k.lengthOk r.length.toNat then k.answer s r else s.refuse .value).state := by
    split
    · exact h.answer k r
    · exact h
  unfold State.answerRequest
  dsimp only
  split
  · exact a
  · exact a

theorem HeadsOk.request {s : State} (h : HeadsOk s) (k : RequestKind) (r : Request) : HeadsOk (s.request k r) := by
  unfold State.request
  split
  · exact h.answerRequest k r
  · exact h

theorem HeadsOk.serveCode {s : State} (h : HeadsOk s) (code : BitVec 8) (r : Request) :
    HeadsOk (s.serveCode code r) := by
  unfold State.serveCode
  split
  next k _ => exact h.answerRequest k r
  next => exact h

theorem HeadsOk.carryFrame {s : State} (h : HeadsOk s) (f : Frame) : HeadsOk (s.carryFrame f) := by
  change HeadsOk (s.serveArea f.payload)
  unfold State.serveArea
  dsimp only
  split
  · exact h.serveCode ..
  · exact h

theorem HeadsOk.expireStream {s : State} (h : HeadsOk s) : HeadsOk s.expireStream := by
  unfold State.expireStream
  split
  · exact h.closeStream.raise ..
  · exact h

theorem HeadsOk.countIdle {s : State} (h : HeadsOk s) : HeadsOk s.countIdle := by
  unfold State.countIdle
  split
  next c _ =>
    have h' : HeadsOk { s with
      service := { s.service with stream := some { c with idle := countUp 65535 c.idle } } } := h
    exact h'.expireStream
  next => exact h

theorem HeadsOk.workSet {s : State} (h : HeadsOk s) (accepted loss : Bool) : HeadsOk (s.workSet accepted loss) :=
  h.moved (s.workSet_worked ..) (s.workSet_sound ..)

theorem HeadsOk.beginPlanner {s : State} (h : HeadsOk s) (accepted : Bool) : HeadsOk (s.beginPlanner accepted) :=
  h.moved (s.beginPlanner_worked _) (s.beginPlanner_sound _)

theorem HeadsOk.testFrame {s : State} (h : HeadsOk s) (f : PassingFrame) (now : Nat) (pins : Pins) :
    HeadsOk (s.testFrame f now pins) := by
  unfold State.testFrame
  split
  · exact h
  · split
    · exact h
    · split
      · have h' : HeadsOk ({ s with ring := { s.ring with early := countUp 65535 s.ring.early } } : State) := h
        exact h'.raise ..
      · have sampled : HeadsOk ({ s.countAccepted now pins with
            ring := (s.countAccepted now pins).ring.takeSamples (captureInputs s.inForce f.payload) } : State) := h
        unfold State.acceptFrame
        dsimp only
        refine HeadsOk.workSet (HeadsOk.beginPlanner (HeadsOk.countIdle ?_) true) true false
        split
        · exact sampled.raise ..
        · exact sampled

theorem HeadsOk.completeFrame {s : State} (h : HeadsOk s) (now : Nat) (pins : Pins) :
    HeadsOk (s.completeFrame now pins) := by
  unfold State.completeFrame
  split
  · exact h.afterReset ..
  · split
    next f _ =>
      have h' : HeadsOk ({ s with port := { s.port with passing := none } } : State) := h
      exact h'.testFrame ..
    next => exact h

/-- The loss hold counter counts an expiry (R10). -/
theorem HeadsOk.countLossHold {s : State} (h : HeadsOk s) : HeadsOk s.countLossHold.1 := by
  unfold State.countLossHold
  split
  · exact h
  · exact h

theorem HeadsOk.loseRing {s : State} (h : HeadsOk s) : HeadsOk s.loseRing.1 := by
  unfold State.loseRing
  split
  · split
    · exact h
    · exact h.moved (s.holdOrder_worked _) (s.holdOrder_sound _)
  · exact h

theorem HeadsOk.markLost {s : State} (h : HeadsOk s) : HeadsOk s.markLost := by
  have h' : HeadsOk ({ s with ring := { s.ring with state := .lost } } : State) := h
  exact h'.raise ..

theorem HeadsOk.coastSet {s : State} (h : HeadsOk s) (lost : Bool) : HeadsOk (s.coastSet lost) := by
  have counted := (h.beginPlanner false).countLossHold
  unfold State.coastSet
  cases lost
  · exact counted.workSet ..
  · exact counted.loseRing.workSet ..

theorem HeadsOk.expireWindow {s : State} (h : HeadsOk s) (stop : Bool) : HeadsOk (s.expireWindow stop) := by
  unfold State.expireWindow
  split
  next due t _ _ =>
    have missed : HeadsOk (s.countMiss due t.tc stop) := h
    dsimp only
    have told : HeadsOk (if (s.countMiss due t.tc stop).lossDue = true then (s.countMiss due t.tc stop).markLost
        else s.countMiss due t.tc stop) := by
      split
      · exact missed.markLost
      · exact missed
    exact told.countIdle.coastSet _
  next => exact h

theorem HeadsOk.takeCause {s : State} (h : HeadsOk s) (c : Cause) : HeadsOk (s.takeCause c).testPassEnd :=
  (h.moved (s.takeCause_worked c) (s.takeCause_sound c)).moved (State.testPassEnd_worked _) (State.testPassEnd_sound _)

theorem HeadsOk.ringLoss {s : State} (h : HeadsOk s) : HeadsOk s.ringLoss := by
  unfold State.ringLoss
  split
  · have lost := h.markLost.loseRing
    dsimp only
    split
    · exact lost.takeCause _
    · exact lost
  · exact h

/-! ## Every command -/

theorem HeadsOk.ifRunning {s t : State} (h : HeadsOk s) (h' : HeadsOk t) : HeadsOk (s.ifRunning t) := by
  unfold State.ifRunning
  split
  · exact h'
  · exact h

theorem HeadsOk.takeIf {s : State} (h : HeadsOk s) (due : Bool) (c : Cause) : HeadsOk (s.takeIf due c) := by
  unfold State.takeIf
  split
  · exact h.takeCause c
  · exact h

theorem HeadsOk.exec {c : Instr} {s t : State} (h : HeadsOk s) (e : Machine.exec c s = .next t) : HeadsOk t := by
  cases hc : asked c with
  | some kr =>
    rw [exec_asked hc] at e
    cases e
    exact h.request _ _
  | none =>
    cases c <;> simp only [asked, reduceCtorEq] at hc <;> obtain rfl := Host.Outcome.next.inj e
    case powerOn straps => exact HeadsOk.powerOn straps
    case supplyLoss => exact h
    case resetLine =>
      split
      · exact h
      · exact h
    case resetNegated =>
      split
      · exact h.afterReset ..
      · exact h
    case startTime =>
      split
      · exact h
      · exact h
    case cycleFrame =>
      split
      · exact h.carryFrame _
      · exact h
    case unknownRequest =>
      unfold State.requestUnknown
      split
      · exact h
      · exact h
    all_goals refine h.ifRunning ?_
    case frameCompletion => exact h.completeFrame ..
    case cycleWindowExpiry => exact h.expireWindow _
    case ringLost => exact h.ringLoss
    case streamExpired => exact h.expireStream
    case holdWindowReached =>
      unfold State.holdWindowReached
      split
      · exact h.takeCause _
      · exact h
    case filteredMarkEdge => exact h.moved s.markEdge_worked s.markEdge_sound
    case arrival => exact h.moved s.arrival_worked s.arrival_sound
    case spinupStart => exact h.moved (s.startSpinup_worked _) (s.startSpinup_sound _)
    case atSpeed => exact h.moved (s.atSpeed_worked _) (s.atSpeed_sound _)
    case contact => exact h.moved (s.takeContact_worked _) (s.takeContact_sound _)
    case seatComplete => exact h.moved (s.seatComplete_worked _) (s.seatComplete_sound _)
    case dwellEnd => exact h.moved (s.dwellEnd_worked _) (s.dwellEnd_sound _)
    case repetitionEnd => exact h.moved (s.repetitionEnd_worked _) (s.repetitionEnd_sound _)
    case traverseCompletesAtRest => exact h.moved (s.completeAtRest_worked _) (s.completeAtRest_sound _)
    case starvationEnd => exact h.moved (s.starvationEnd_worked _) (s.starvationEnd_sound _)
    case appendedStartTaken => exact h.moved (s.takeAppendedStart_worked _) (s.takeAppendedStart_sound _)
    case brakeEnd => exact h.moved (s.brakeEnd_worked _) (s.brakeEnd_sound _)
    case runoutEnd => exact h.moved (s.runoutEnd_worked _) (s.runoutEnd_sound _)
    case retractEnd => exact h.moved (s.retractEnd_worked _) (s.retractEnd_sound _)
    case spindownEnd => exact h.moved (s.spindownEnd_worked _) (s.spindownEnd_sound _)
    case spinstop => exact h.moved (s.enterSpinstop_worked _) (s.enterSpinstop_sound _)
    case withdrawalEnd => exact h.moved (s.withdrawalEnd_worked _) (s.withdrawalEnd_sound _)
    case passEnd => exact h.moved s.testPassEnd_worked s.testPassEnd_sound
    all_goals exact h.takeIf _ _

theorem HeadsOk.step {s t : State} (h : HeadsOk s) (e : Machine.step s = .next t) : HeadsOk t := by
  unfold Machine.step at e
  split at e
  · cases e
    exact h
  next c rest _ =>
    have h' : HeadsOk (s.afterFront rest) := h
    exact h'.exec e

end Sys2Proof.Safety

namespace Sys2Proof.WeldPass

/-- Settles O10: every operation of the blocks keeps the agreement of passes, heads and executing records (`Sound`) and
loses records only (`Worked`); each request and each command is made of such operations. -/
theorem stepKeepsHeadsAndRecords : Obligations.StepKeepsHeadsAndRecords :=
  fun _ _ h e => h.step e

end Sys2Proof.WeldPass
end

section
/-! SUPPORT. Commands as their meanings, raised events, hold orders and EXIT orders: the rules that the statements on
the weld pass go by. -/

namespace Sys2Proof.Machine

open Sys2Proof.Safety

/-! ## Commands -/

/-- An event of the blocks comes about in a node that is ready (R146). -/
theorem State.ifRunning_of {s : State} (h : s.power = .running) (t : State) : s.ifRunning t = t := by
  simp [State.ifRunning, h]

/-- A request that is no read, served at the length of its layout, leaves its answer's state and reply (R170 to R172). -/
theorem exec_replied {c : Instr} {k : RequestKind} {r : Request} {s : State} (hc : asked c = some (k, r))
    (hs : s.serving = true) (hl : k.lengthOk r.length.toNat = true) (hr : k.reads = false) :
    exec c s = .next (replied (k.answer s r).state k r (k.answer s r).reply.code (k.answer s r).reply.data) := by
  rw [exec_asked hc, State.request_served hs, State.checkedAnswer, hl, hr]
  simp

theorem detailNumber_eq_min (n : Nat) : detailNumber n = min n 65535 := by
  unfold detailNumber
  split <;> omega

theorem countUp_eq_min (top n : Nat) : countUp top n = min (n + 1) top := by
  unfold countUp
  split <;> omega

/-- A cause that is due as a command by itself is taken, and the pass-end test follows (R12). -/
theorem State.takeIf_of_due {s : State} {due : Bool} (h : due = true) (c : Cause) :
    s.takeIf due c = (s.takeCause c).testPassEnd := by
  simp [State.takeIf, h]

/-! ## Raised events -/

/-- An entry of the pending set keeps its kind, stamp and detail as an event is inserted (R184). -/
theorem insertEvent_keeps {e : EventEntry} {l : List EventEntry} (k : EventKind) (stamp detail : Nat) (h : e ∈ l) :
    ∃ e' ∈ insertEvent k stamp detail l, e'.kind = e.kind ∧ e'.stamp = e.stamp ∧ e'.detail = e.detail := by
  induction l with
  | nil => cases h
  | cons f l ih =>
    unfold insertEvent
    split
    · rcases List.mem_cons.1 h with rfl | h
      · exact ⟨_, List.mem_cons_self, rfl, rfl, rfl⟩
      · exact ⟨e, List.mem_cons_of_mem _ h, rfl, rfl, rfl⟩
    · split
      · exact ⟨e, List.mem_cons_of_mem _ h, rfl, rfl, rfl⟩
      · rcases List.mem_cons.1 h with rfl | h
        · exact ⟨e, List.mem_cons_self, rfl, rfl, rfl⟩
        · obtain ⟨e', he, heq⟩ := ih h
          exact ⟨e', List.mem_cons_of_mem _ he, heq⟩

/-- The event inserted stands in the pending set, new where none of its kind was pending (R184). -/
theorem insertEvent_inserts (k : EventKind) (stamp detail : Nat) (l : List EventEntry) :
    ∃ e ∈ insertEvent k stamp detail l, e.kind = k ∧
      ((∀ f ∈ l, f.kind ≠ k) → e.stamp = stamp ∧ e.detail = detail) := by
  induction l with
  | nil => exact ⟨_, List.mem_cons_self, rfl, fun _ => ⟨rfl, rfl⟩⟩
  | cons f l ih =>
    unfold insertEvent
    split
    next e => exact ⟨_, List.mem_cons_self, e, fun hn => absurd e (hn f List.mem_cons_self)⟩
    next =>
      split
      · exact ⟨_, List.mem_cons_self, rfl, fun _ => ⟨rfl, rfl⟩⟩
      · obtain ⟨e, he, hk, hnew⟩ := ih
        exact ⟨e, List.mem_cons_of_mem _ he, hk, fun hn => hnew fun g hg => hn g (List.mem_cons_of_mem _ hg)⟩

/-- An entry of a given kind, stamp and detail that is pending stays pending. -/
theorem eventClosed_pending (R : EventKind → Nat → Nat → Prop) :
    EventClosed fun u => ∃ e ∈ u.entries, R e.kind e.stamp e.detail where
  insert := by
    rintro u k stamp detail ⟨e, he, hR⟩ -
    obtain ⟨e', he', hk, hs, hd⟩ := insertEvent_keeps k stamp detail he
    exact ⟨e', he', by rwa [hk, hs, hd]⟩
  record := fun _ _ h => h

/-- An event raised and enabled is pending once the blocks have done the rest of their work (R184). -/
theorem State.raised_pending {s t : State} {k : EventKind} {detail : Nat} (w : Worked (s.raise k detail) t)
    (he : s.events.enables k = true) :
    ∃ e ∈ t.events.entries, e.kind = k ∧
      ((∀ f ∈ s.events.entries, f.kind ≠ k) → e.stamp = s.ring.setNumber ∧ e.detail = detail) := by
  refine w.events _ (eventClosed_pending fun kind stamp d => kind = k ∧
    ((∀ f ∈ s.events.entries, f.kind ≠ k) → stamp = s.ring.setNumber ∧ d = detail)) ?_
  rw [State.raise_events, if_pos he]
  exact insertEvent_inserts ..

theorem State.raised_kind {s t : State} {k : EventKind} {detail : Nat} (w : Worked (s.raise k detail) t)
    (he : s.events.enables k = true) : ∃ e ∈ t.events.entries, e.kind = k := by
  obtain ⟨e, hm, hk, -⟩ := State.raised_pending w he
  exact ⟨e, hm, hk⟩

/-! ## Hold orders -/

/-- The higher of two hold causes (R7). -/
def HoldCause.higher (k c : HoldCause) : HoldCause :=
  if k.rank < c.rank then c else k

theorem HoldCause.rank_injective {c d : HoldCause} (h : c.rank = d.rank) : c = d := by
  cases c <;> cases d <;> simp [HoldCause.rank] at h ⊢

theorem HoldCause.rank_higher (k c : HoldCause) : (k.higher c).rank = max k.rank c.rank := by
  unfold HoldCause.higher
  split <;> omega

theorem HoldCause.higher_comm (c d : HoldCause) : c.higher d = d.higher c :=
  HoldCause.rank_injective (by rw [HoldCause.rank_higher, HoldCause.rank_higher, max_comm])

theorem HoldCause.higher_right_comm (k c d : HoldCause) : (k.higher c).higher d = (k.higher d).higher c :=
  HoldCause.rank_injective (by simp only [HoldCause.rank_higher, max_right_comm])

theorem State.holdOrder_running {s : State} (h : s.pass.state = .running) (c : HoldCause) :
    s.holdOrder c = { s with pass := { s.pass with state := .held, holdCause := c } } := by
  simp only [State.holdOrder, h]

theorem State.holdOrder_stored {s : State} (h : s.pass.state = .held ∨ s.pass.state = .approach) (c : HoldCause) :
    s.holdOrder c = { s with pass := { s.pass with holdCause := s.pass.holdCause.higher c } } := by
  rcases h with h | h <;> simp only [State.holdOrder, h] <;> rfl

theorem State.holdOrder_inactive {s : State} (h : s.active = false) (c : HoldCause) : s.holdOrder c = s := by
  cases e : s.pass.state <;> simp [State.active, e, PassState.active] at h <;> simp only [State.holdOrder, e]

theorem PassState.active_iff (st : PassState) :
    st.active = true ↔ st = .running ∨ st = .held ∨ st = .approach := by
  cases st <;> simp [PassState.active]

/-- A hold order changes the pass record alone: its state within the active ones, and its cause (R7). -/
theorem State.holdOrder_frame (s : State) (c : HoldCause) :
    s.holdOrder c = { s with pass := (s.holdOrder c).pass } ∧ (s.holdOrder c).active = s.active ∧
      (s.holdOrder c).pass.lossHold = s.pass.lossHold ∧ (s.holdOrder c).pass.heads = s.pass.heads := by
  cases ha : s.active with
  | false => simp [State.holdOrder_inactive ha, ha]
  | true =>
    rcases (PassState.active_iff _).1 ha with e | e
    · rw [State.holdOrder_running e]
      exact ⟨rfl, rfl, rfl, rfl⟩
    · rw [State.holdOrder_stored e]
      exact ⟨rfl, ha, rfl, rfl⟩

/-- Two hold orders have the same outcome whichever is taken first (R7). -/
theorem State.holdOrder_comm (s : State) (c d : HoldCause) :
    (s.holdOrder c).holdOrder d = (s.holdOrder d).holdOrder c := by
  cases ha : s.active with
  | false => simp only [State.holdOrder_inactive ha]
  | true =>
    rcases (PassState.active_iff _).1 ha with e | e
    · rw [State.holdOrder_running e, State.holdOrder_running e, State.holdOrder_stored (.inl rfl),
        State.holdOrder_stored (.inl rfl)]
      simp only [HoldCause.higher_comm]
    · have twice : ∀ c d : HoldCause, (s.holdOrder c).holdOrder d =
          { s with pass := { s.pass with holdCause := (s.pass.holdCause.higher c).higher d } } := fun c d => by
        have e' : (s.holdOrder c).pass.state = .held ∨ (s.holdOrder c).pass.state = .approach := by
          rw [State.holdOrder_stored e]
          exact e
        rw [State.holdOrder_stored e', State.holdOrder_stored e]
      rw [twice, twice, HoldCause.higher_right_comm]

/-! ## EXIT orders -/

/-- A head that an EXIT order reaches: order and mark set, the records behind the executing one removed (R20). -/
def Head.ordered (x : Head) : Head :=
  { x with seq := { x.seq with order := .exit, faultExit := true, queue := x.seq.queue.take 1 } }

/-- A head that enters EXIT (R85). -/
def Head.exiting (x : Head) (p : ExitPhase) (r : ExitRecord) : Head :=
  { x with
    seq := { x.seq with state := .exit, progress := { x.seq.progress with exitPhase := some p } }
    reg := { x.reg with exitRecord := some r } }

/-- A head that carries the values of the last set it computed (R35, R47). -/
def Head.carrying (x : Head) : Head :=
  { x with seq := { x.seq with carried := x.reg.segment } }

theorem State.ordered_state (s : State) (h : HeadId) :
    ((s.modHead h Head.ordered).head h).seq.state = (s.head h).seq.state := by
  rw [State.modHead_head]
  rfl

theorem State.exitOrder_refused {s : State} {h : HeadId} (k : ExitKind)
    (hn : (s.head h).seq.state.working = false ∨ (s.head h).seq.state = .withdraw ∨ (s.head h).seq.order ≠ .none) :
    s.exitOrder h k = s := by
  have : (s.head h).takesExit = false := by
    rcases hn with e | e | e <;> simp [Head.takesExit, e]
  simp [State.exitOrder, this]

theorem State.exitOrder_taken {s : State} {h : HeadId} (k : ExitKind) (hw : (s.head h).seq.state.working = true)
    (hn : (s.head h).seq.state ≠ .withdraw) (ho : (s.head h).seq.order = .none) :
    s.exitOrder h k = (s.modHead h Head.ordered).exitFrom h k := by
  have : (s.head h).takesExit = true := by simp [Head.takesExit, hw, hn, ho]
  rw [State.exitOrder, if_pos this]
  cases h <;> rfl

theorem State.exitOrder_stops {s : State} {h : HeadId} (k : ExitKind)
    (hs : (s.head h).seq.state = .waiting ∨ (s.head h).seq.state = .spinup) (ho : (s.head h).seq.order = .none) :
    s.exitOrder h k = (s.modHead h Head.ordered).stopHead h := by
  rcases hs with e | e
  all_goals
    rw [State.exitOrder_taken k (by rw [e]; rfl) (by rw [e]; decide) ho]
    simp only [State.exitFrom, State.ordered_state, e]

theorem State.exitOrder_retracts {s : State} {h : HeadId} (k : ExitKind)
    (hs : (s.head h).seq.state = .plunge ∨ (s.head h).seq.state = .dwell) (ho : (s.head h).seq.order = .none) :
    s.exitOrder h k =
      s.modHead h fun x => x.ordered.exiting .retract (inPlaceExit (s.head h).profile.depth.retractRate) := by
  rcases hs with e | e
  all_goals
    rw [State.exitOrder_taken k (by rw [e]; rfl) (by rw [e]; decide) ho]
    simp only [State.exitFrom, State.ordered_state, e]
    cases h <;> rfl

theorem State.exitOrder_leavesTraverse {s : State} {h : HeadId} (k : ExitKind)
    (hs : (s.head h).seq.state = .traverse) (ho : (s.head h).seq.order = .none) :
    s.exitOrder h k = s.modHead h fun x => match k with
      | .inPlace => x.ordered.carrying.exiting .brake (inPlaceExit (s.head h).profile.depth.retractRate)
      | .runOut => x.ordered.carrying.exiting .runout ⟨.runOut, (s.head h).profile.depth.retractRate,
          (s.head h).profile.limits.faultRunOut, some (s.head h).seq.station, some (s.prevDemand h)⟩ := by
  rw [State.exitOrder_taken k (by rw [hs]; rfl) (by rw [hs]; decide) ho]
  simp only [State.exitFrom, State.ordered_state, hs]
  cases k <;> cases h <;> rfl

theorem State.exitOrder_carriesOn {s : State} {h : HeadId} (k : ExitKind)
    (hs : (s.head h).seq.state = .exit ∨ (s.head h).seq.state = .spindown) (ho : (s.head h).seq.order = .none) :
    s.exitOrder h k = s.modHead h Head.ordered := by
  rcases hs with e | e
  all_goals
    rw [State.exitOrder_taken k (by rw [e]; rfl) (by rw [e]; decide) ho]
    simp only [State.exitFrom, State.ordered_state, e]

/-- An EXIT order changes the head it reaches and the guards alone. -/
structure HeadAndGuards (s t : State) (h : HeadId) : Prop where
  frame : t = { s with headA := t.headA, headB := t.headB, guards := t.guards }
  other : t.head h.other = s.head h.other

theorem HeadAndGuards.refl (s : State) (h : HeadId) : HeadAndGuards s s h := ⟨rfl, rfl⟩

theorem HeadAndGuards.modHead (s : State) (h : HeadId) (f : Head → Head) : HeadAndGuards s (s.modHead h f) h :=
  ⟨by cases h <;> rfl, by simp⟩

theorem HeadAndGuards.stopHead (s : State) (h : HeadId) : HeadAndGuards s (s.stopHead h) h := by
  rw [State.stopHead_eq]
  exact ⟨by cases h <;> rfl, by simp⟩

theorem HeadAndGuards.trans {s t u : State} {h : HeadId} (a : HeadAndGuards s t h) (b : HeadAndGuards t u h) :
    HeadAndGuards s u h where
  frame := by
    have := a.frame
    rw [b.frame, this]
  other := b.other.trans a.other

theorem HeadAndGuards.pass {s t : State} {h : HeadId} (a : HeadAndGuards s t h) : t.pass = s.pass := by rw [a.frame]

theorem State.exitOrder_frame (s : State) (h : HeadId) (k : ExitKind) : HeadAndGuards s (s.exitOrder h k) h := by
  by_cases hn : (s.head h).seq.state.working = false ∨ (s.head h).seq.state = .withdraw ∨ (s.head h).seq.order ≠ .none
  · rw [State.exitOrder_refused k hn]
    exact .refl s h
  · have ho : (s.head h).seq.order = .none := by
      by_contra hne
      exact hn (.inr (.inr hne))
    cases e : (s.head h).seq.state <;> simp [e, HeadState.working] at hn
    case waiting =>
      rw [State.exitOrder_stops k (.inl e) ho]
      exact (HeadAndGuards.modHead ..).trans (.stopHead ..)
    case spinup =>
      rw [State.exitOrder_stops k (.inr e) ho]
      exact (HeadAndGuards.modHead ..).trans (.stopHead ..)
    case plunge => rw [State.exitOrder_retracts k (.inl e) ho]; exact .modHead ..
    case dwell => rw [State.exitOrder_retracts k (.inr e) ho]; exact .modHead ..
    case traverse => rw [State.exitOrder_leavesTraverse k e ho]; exact .modHead ..
    case exit => rw [State.exitOrder_carriesOn k (.inl e) ho]; exact .modHead ..
    case spindown => rw [State.exitOrder_carriesOn k (.inr e) ho]; exact .modHead ..

@[simp] theorem State.exitOrder_other (s : State) (h : HeadId) (k : ExitKind) :
    (s.exitOrder h k).head h.other = s.head h.other :=
  (s.exitOrder_frame h k).other

@[simp] theorem State.exitOrder_pass (s : State) (h : HeadId) (k : ExitKind) : (s.exitOrder h k).pass = s.pass :=
  (s.exitOrder_frame h k).pass

/-- An order that is carried leaves the head it comes from (R21). -/
@[simp] theorem State.carryExit_head (s : State) (h : HeadId) : (s.carryExit h).head h = s.head h := by
  unfold State.carryExit
  split
  · simpa using s.exitOrder_other h.other .inPlace
  · rfl

/-- What an order from any source but PASS ABORT leaves in the head it names, in an active pass (R19, R21). -/
theorem State.exitAndCarry_head {s : State} (ha : s.active = true) (h : HeadId) (k : ExitKind) :
    (s.exitAndCarry h k).head h = (s.exitOrder h k).head h := by
  simp [State.exitAndCarry, ha]

end Sys2Proof.Machine
end

section
/-! SUPPORT. Power-on, hold orders, resume and abort, ring loss, the end of a pass, EXIT orders, and the ends of exits
and withdrawals. -/

namespace Sys2Proof.Machine

open Sys2Proof.Safety

/-! ## Ring loss -/

theorem State.lossDue_iff (s : State) : s.lossDue = true ↔
    (s.ring.state = .up ∨ s.ring.state = .coasting) ∧ s.gantry.missLimit ≤ s.ring.missCount := by
  simp [State.lossDue]

theorem State.holdWindowDue_iff (s : State) : s.holdWindowDue = true ↔
    s.active = true ∧ s.pass.holdCause = .ring ∧ s.pass.lossHold = s.gantry.holdWindow := by
  simp [State.holdWindowDue, and_assoc]

/-- What a loss leaves on the ring port and the event unit (R163). -/
theorem State.markLost_eq (s : State) : s.markLost =
    ({ s with ring := { s.ring with state := .lost } } : State).raise .ringLost (min s.gantry.missLimit 65535) := by
  rw [State.markLost, detailNumber_eq_min]

/-- A ring loss takes its fault with the miss count, and sends a HALT all (R164, R188). -/
theorem State.takeLossCause (s : State) : s.takeCause s.lossCause =
    (s.takeFault .ringLoss none s.planner.measuredX s.ring.missCount).haltAll := rfl

/-- A loss in WITHDRAW loss mode makes the HALT all due (R164). -/
theorem State.loseRing_withdraw {s : State} (h : s.active = true) (hm : s.gantry.lossMode = .withdraw) :
    s.loseRing = (s, true) := by
  simp only [State.loseRing, h, hm, if_true]

/-- A loss in HOLD loss mode holds the pass, with the HALT all due where the hold is taken with the hold window reached
(R165). -/
theorem State.loseRing_hold {s : State} (h : s.active = true) (hm : s.gantry.lossMode = .hold) :
    s.loseRing =
      (s.holdOrder .ring, decide (s.pass.holdCause ≠ .ring) && (s.holdOrder .ring).holdWindowDue) := by
  simp only [State.loseRing, h, hm, if_true]

theorem State.ringLoss_of_due {s : State} (h : s.lossDue = true) :
    s.ringLoss = if s.markLost.loseRing.2 then
      (s.markLost.loseRing.1.takeCause s.markLost.loseRing.1.lossCause).testPassEnd else s.markLost.loseRing.1 := by
  rw [State.ringLoss, if_pos h]

/-! ## The end of a pass -/

theorem State.testPassEnd_of_due {s : State} (h : s.passEndDue = true) : s.testPassEnd = s.endPass := by
  rw [State.testPassEnd, if_pos h]

theorem State.testPassEnd_of_not {s : State} (h : ¬ s.passEndDue = true) : s.testPassEnd = s := by
  rw [State.testPassEnd, if_neg h]

/-- A pass ends COMPLETE where every pass head is FINISHED (R12). -/
theorem State.endedPass_complete {s : State} (h : ∀ x, s.isPassHead x = true → s.headState x = .finished) :
    s.endedPass = { s.pass with state := .complete } := by
  have : s.pass.heads.members.all (fun x => decide (s.headState x = .finished)) = true := by
    simpa [HeadSet.mem_members, State.isPassHead] using h
  rw [State.endedPass, if_pos this]

/-- A pass ends ABORTED where a pass head is not FINISHED (R12). -/
theorem State.endedPass_aborted {s : State} (h : ∃ x, s.isPassHead x = true ∧ s.headState x ≠ .finished) :
    s.endedPass = { s.pass with state := .aborted } := by
  have : ¬ s.pass.heads.members.all (fun x => decide (s.headState x = .finished)) = true := by
    obtain ⟨x, hx, hne⟩ := h
    simpa [HeadSet.mem_members, State.isPassHead] using ⟨x, hx, hne⟩
  rw [State.endedPass, if_neg this]

/-! ## Exits and withdrawals -/

theorem Head.exitPhase_iff {x : Head} {p : ExitPhase} :
    x.exitPhase = some p ↔ x.seq.state = .exit ∧ x.seq.progress.exitPhase = some p := by
  unfold Head.exitPhase
  split <;> simp_all

/-- The blocks leave the event mask (R186). -/
theorem Worked.enables {s t : State} (w : Worked s t) (k : EventKind) : t.events.enables k = s.events.enables k :=
  w.events (fun u => u.enables k = s.events.enables k)
    ⟨fun _ _ _ _ h _ => h, fun _ _ h => h⟩ rfl

/-- A completed record leaves the queue, and its kind becomes the last completed one (R37). -/
theorem State.completeRecord_cons {s : State} {h : HeadId} {r : Segment} {rest : List Segment}
    (hq : (s.head h).seq.queue = r :: rest) :
    s.completeRecord h = (s.modSeq h fun q => { q with queue := rest, lastKind := some r.kind }).raise .segmentDone
      (packDetail h.code r.kind.code) := by
  rw [State.completeRecord, hq]

/-- The sequencer record in which a START executes (R35). -/
def Head.startsStart (x : Head) (station rpm force depth : Int) : Sequencer :=
  { x.seq with
    executing := true
    progress := { Progress.cleared with s0 := station }
    carried := ⟨force, 0, rpm, min depth x.profile.depth.dMax⟩ }

theorem State.startRecord_start {s : State} {h : HeadId} {station rpm force depth : Int} {rest : List Segment} (e : Int)
    (hq : (s.head h).seq.queue = .start station rpm force depth :: rest) :
    (s.startRecord h e).head h = { s.head h with seq := (s.head h).startsStart station rpm force depth } := by
  rw [State.startRecord, hq]
  simp only [State.raiseQueueLow_head, State.startStart, State.modSeq_head]
  rfl

/-! ## The spin-up -/

theorem State.plungeX_of_start {s : State} {h : HeadId} {st rpm force depth : Int}
    (e : (s.head h).seq.executingRecord = some (.start st rpm force depth)) :
    s.plungeX h = some (s.xOfStation h st) := by
  simp only [State.plungeX, e]

end Sys2Proof.Machine

namespace Sys2Proof.WeldPass

open Sys2Proof.Machine Sys2Proof.Safety

/-- Settles O13: POWER_ON gives the power-on state, field by field. -/
theorem powerOnValues : Obligations.PowerOnValues := by
  intro straps s
  have both : ∀ h, ({ State.powerOn straps with pending := s.pending } : State).head h = .initial .default [] := by
    intro h
    cases h <;> rfl
  refine ⟨_, rfl, ?_⟩
  simp only [both]
  and_intros <;> intros <;> (and_intros <;> rfl)

/-- Settles O36: the stored cause is the higher one, and the higher of two causes does not depend on their order. -/
theorem holdOrdersKeepTheHigherCause : Obligations.HoldOrdersKeepTheHigherCause := by
  refine ⟨fun r s hs hl => ?_, fun c d s hc _ => ⟨fun e => State.holdOrder_running e c, fun e en => ?_, fun e => ?_,
    fun e => State.holdOrder_inactive e c, s.holdOrder_comm c d, by decide, by decide, by decide⟩⟩
  · rw [exec_replied (k := .passHold) (r := r) rfl hs (by simp [RequestKind.lengthOk, hl]) rfl]
    have answer : answerPassHold s r = if s.service.mode ≠ .ready ∨ s.active = false then s.refuse .state
        else (s.holdOrder .request).done .empty := by
      rw [answerPassHold]
      by_cases hm : s.service.mode ≠ .ready <;> simp [hm]
    simp only [RequestKind.answer, answer]
    split <;> rfl
  · rw [State.holdOrder_stored (.inr e), en]
    have higher : HoldCause.none.higher c = c := by
      cases c with
      | none => exact absurd rfl hc
      | request | guard | ring | halt => rfl
    rw [higher]
  · have hst : s.pass.state = .held ∨ s.pass.state = .approach := e.imp_right And.left
    rw [State.holdOrder_stored hst, HoldCause.higher]
    split <;> rfl

/-- Settles O37: the four checks of PASS RESUME, and PASS ABORT as an EXIT order to each pass head in turn. -/
theorem passResumeAndAbort : Obligations.PassResumeAndAbort := by
  intro r s hs hl resumable
  have resume : exec (.passResume r) s = .next (replied (answerPassResume s r).state .passResume r
      (answerPassResume s r).reply.code (answerPassResume s r).reply.data) :=
    exec_replied (k := .passResume) (r := r) rfl hs (by simp [RequestKind.lengthOk, hl]) rfl
  have abort : exec (.passAbort r) s = .next (replied (answerPassAbort s r).state .passAbort r
      (answerPassAbort s r).reply.code (answerPassAbort s r).reply.data) :=
    exec_replied (k := .passAbort) (r := r) rfl hs (by simp [RequestKind.lengthOk, hl]) rfl
  have answer : answerPassResume s r = if resumable then s.resumePass.done .empty else s.refuse .state := by
    rw [answerPassResume]
    by_cases h : resumable
    · rw [if_pos h]
      obtain ⟨h1, h2, h3, h4⟩ := h
      rw [if_neg (not_not.2 h1), if_neg (by simpa [or_iff_not_imp_left] using h2), if_neg h3, if_neg (by tauto)]
    · rw [if_neg h]
      repeat' refine ite_eq_left_iff.2 fun _ => ?_
      refine absurd ⟨?_, ?_, ?_, ?_⟩ h <;> simp_all [or_iff_not_imp_left]
  refine ⟨fun hn => ?_, fun hy => ?_, fun hn => ?_, fun hm ha => ?_⟩
  · rw [resume, answer, if_neg hn]
    rfl
  · have hst : s.resumePass = { s with pass := { s.pass with
        state := if s.pass.state = .held then .running else .approach, holdCause := .none, lossHold := 0 } } := by
      unfold State.resumePass
      rcases hy.2.1 with e | ⟨e, -⟩ <;> simp [e]
    rw [resume, answer, if_pos hy, ← hst]
    rfl
  · rw [abort, answerPassAbort]
    by_cases hm : s.service.mode ≠ .ready
    · rw [if_pos hm]
      rfl
    · rw [if_neg hm, if_pos (by simpa [hm] using hn)]
      rfl
  · have order : s.abortPass = (let first := if s.pass.heads.has .a = true then s.exitOrder .a .inPlace else s
        let second := if s.pass.heads.has .b = true then first.exitOrder .b .inPlace else first
        second.testPassEnd) := by
      unfold State.abortPass
      cases s.pass.heads <;> simp [HeadSet.members, HeadSet.has]
    have answer : answerPassAbort s r = s.abortPass.done .empty := by simp [answerPassAbort, hm, ha]
    rw [abort, answer, order]
    rfl

/-- Settles O24: the loss of the ring by loss mode, and the hold window that a hold for RING has reached. -/
theorem ringLossHoldsOrHalts : Obligations.RingLossHoldsOrHalts := by
  intro s hp lost held halted
  have run : ∀ t, s.ifRunning t = t := State.ifRunning_of hp
  have hlost : s.markLost = lost := s.markLost_eq
  have lact : lost.active = s.active := by simp only [lost, State.raise_active]; rfl
  have lpass : lost.pass = s.pass := by simp only [lost, State.raise_pass]
  have lplanner : lost.planner = s.planner := by simp only [lost, State.raise_planner]
  have lmiss : lost.ring.missCount = s.ring.missCount := by simp only [lost, State.raise_ring]
  have lgantry : lost.gantry = s.gantry := by simp only [lost, State.raise_gantry]
  obtain ⟨hframe, hact, hhold, -⟩ := lost.holdOrder_frame .ring
  have taken : ∀ u : State, u.planner = s.planner → u.ring.missCount = s.ring.missCount →
      (u.takeCause u.lossCause).testPassEnd = halted u := by
    intro u h1 h2
    rw [State.takeLossCause, h1, h2]
  have hheld : (held.takeCause held.lossCause).testPassEnd = halted held :=
    taken held (by simp only [held]; rw [hframe]; exact lplanner) (by simp only [held]; rw [hframe]; exact lmiss)
  refine ⟨fun hr hm => ?_, fun ha hc hw => ?_⟩
  · have loss : exec .ringLost s = .next s.ringLoss := congrArg _ (run _)
    rw [loss, State.ringLoss_of_due (s.lossDue_iff.2 ⟨hr, hm⟩), hlost]
    refine ⟨fun ha => ?_, fun ha hw => ?_, fun ha hh => ?_⟩
    · have : lost.loseRing = (lost, false) := by simp [State.loseRing, lact, ha]
      rw [this]
      rfl
    · have : lost.loseRing = (lost, true) := State.loseRing_withdraw (lact.trans ha) (by rw [lgantry, hw])
      rw [this, ← taken lost lplanner lmiss]
      rfl
    · have : lost.loseRing = (held, decide (s.pass.holdCause ≠ .ring) && held.holdWindowDue) := by
        rw [State.loseRing_hold (lact.trans ha) (by rw [lgantry, hh]), lpass]
      have due : held.holdWindowDue = true ↔ held.pass.holdCause = .ring ∧ s.pass.lossHold = s.gantry.holdWindow := by
        have hg : held.gantry = s.gantry := by simp only [held]; rw [hframe]; exact lgantry
        rw [State.holdWindowDue_iff, hg]
        simp only [held, hact, lact, ha, hhold, lpass, true_and]
      rw [this]
      refine ⟨fun h1 h2 h3 => ?_, fun hn => ?_⟩
      · rw [← hheld, if_pos (by simp [h1, due.2 ⟨h2, h3⟩])]
      · rw [if_neg]
        simp only [Bool.and_eq_true, decide_eq_true_eq, due]
        tauto
  · have reach : exec .holdWindowReached s = .next s.holdWindowReached := congrArg _ (run _)
    rw [reach, State.holdWindowReached, if_pos (s.holdWindowDue_iff.2 ⟨ha, hc, hw⟩), taken s rfl rfl]

/-- Settles O49: the pass-end test and the state it leaves, which `endPass_eq` writes out. -/
theorem passEndsCompleteOrAborted : Obligations.PassEndsCompleteOrAborted := by
  intro s hp ha
  have run : exec .passEnd s = .next s.testPassEnd := congrArg _ (State.ifRunning_of hp _)
  refine ⟨fun hl hx => ⟨s.endPass, ?_, fun hf => ?_, fun hst => ?_, ?_, ?_, ?_, fun h => s.endPass_head h, ?_⟩,
    fun hn => ?_⟩
  · rw [run, State.testPassEnd_of_due]
    exact s.passEndDue_iff.2 ⟨ha, fun h hh => (HeadState.left_iff _).2 (hl h hh), hx⟩
  · rw [State.endPass_pass, State.endedPass_complete hf]
  · obtain ⟨h, hh, e⟩ := hst
    rw [State.endPass_pass, State.endedPass_aborted ⟨h, hh, by rw [e]; decide⟩]
  · exact s.endPass_planner
  · rw [State.endPass_eq, detailNumber_eq_min]
  · rw [State.endPass_eq]
    refine List.map_congr_left fun g _ => ?_
    by_cases h1 : g.action.latches = true <;> by_cases h2 : g.owner = .gantry <;> simp [h1, h2]
  · rw [State.endPass_eq]
  · rw [run, State.testPassEnd_of_not]
    rw [s.passEndDue_iff]
    rintro ⟨-, hl, hx⟩
    rcases hn with ⟨h, hh, hnf, hns⟩ | hne
    · exact ((HeadState.left_iff _).1 (hl h hh)).elim hnf hns
    · exact hne hx

/-- Settles O52: an EXIT order by the state of its head, and the order carried in a linked pass. -/
theorem exitOrdersByHeadState : Obligations.ExitOrdersByHeadState := by
  intro h kind s x marked enters still carried
  refine ⟨State.exitOrder_refused kind, fun ho => ⟨fun hs => ?_, fun hs => ?_, fun hs hk => ?_, fun hs hk => ?_,
    fun hs => State.exitOrder_carriesOn kind hs ho⟩, ?_⟩
  · rw [State.headState, s.exitOrder_other, State.exitOrder_stops kind hs ho, State.stopHead_head]
    exact ⟨rfl, rfl, rfl, rfl⟩
  · rw [State.exitOrder_retracts kind hs ho]
    cases h <;> rfl
  · subst hk
    rw [State.exitOrder_leavesTraverse _ hs ho]
    cases h <;> rfl
  · subst hk
    rw [State.exitOrder_leavesTraverse _ hs ho]
    cases h <;> rfl
  · have hnm : (s.exitOrder h kind).isPassHead h.other = s.isPassHead h.other := by simp [State.isPassHead]
    simp only [State.exitAndCarry, State.carryExit, State.exitOrder_pass, hnm, Bool.and_eq_true]

/-- Settles O47: each phase ends where its condition is met. -/
theorem exitsAndWithdrawalsEnd : Obligations.ExitsAndWithdrawalsEnd := by
  intro h s hp x clear exiting retracts
  have run : ∀ t, s.ifRunning t = t := State.ifRunning_of hp
  refine ⟨fun hb hx => ?_, fun hr hd => ?_, fun hr hd hz => ?_, fun hs hw hd => ?_, fun hs hw hd =>
    ⟨(s.stopHead h).testPassEnd, ?_, by simp [State.headState, Head.stopped], by simp [Head.stopped],
      by simp [Head.stopped], by simp [Head.stopped], by simp [Head.stopped, x], by simp, by simp, by simp⟩⟩
  · refine congrArg _ ((run _).trans ?_)
    have due : s.brakeEndDue h = true := by
      simp [State.brakeEndDue, show (s.head h).exitPhase = _ from Head.exitPhase_iff.2 hb, hx]
    rw [State.brakeEnd, if_pos due]
    rfl
  · refine congrArg _ ((run _).trans ?_)
    have due : s.runoutEndDue h = true := by
      simp only [State.runoutEndDue, show (s.head h).exitPhase = _ from Head.exitPhase_iff.2 hr, decide_true,
        Bool.true_and, Bool.or_eq_true, decide_eq_true_eq]
      rcases hd with hd | hd | ⟨r, hr, h0⟩
      · exact .inl (.inl hd)
      · exact .inr hd
      · exact .inl (.inr (by simp only [Head.runOutLength, show (s.head h).reg.exitRecord = some r from hr, h0]))
    rw [State.runoutEnd, if_pos due]
    rfl
  · refine congrArg _ ((run _).trans ?_)
    have due : s.retractEndDue h = true := by
      simp only [State.retractEndDue, show (s.head h).exitPhase = _ from Head.exitPhase_iff.2 hr, decide_true,
        Bool.true_and, Bool.and_eq_true, decide_eq_true_eq]
      exact ⟨hd, hz⟩
    rw [State.retractEnd, if_pos due]
    rfl
  · refine congrArg _ ((run _).trans ?_)
    rw [State.enterSpinstop, if_pos]
    simp only [State.spinstopDue, Bool.and_eq_true, decide_eq_true_eq]
    exact ⟨⟨hs, hw⟩, hd⟩
  · refine congrArg _ ((run _).trans ?_)
    rw [State.withdrawalEnd, if_pos]
    simp only [State.withdrawalEndDue, Bool.and_eq_true, Bool.or_eq_true, decide_eq_true_eq]
    exact ⟨⟨hs, hw⟩, hd⟩

/-- Settles O48: the EXIT completes, and the head stops, finishes or waits again. -/
theorem spindownEndsInThreeWays : Obligations.SpindownEndsInThreeWays := by
  intro h s hp hs hi q
  have run : exec (.spindownEnd h) s = .next (s.spindownEnd h) := congrArg _ (State.ifRunning_of hp _)
  have due : s.spindownEndDue h = true := by simp [State.spindownEndDue, hs, hi]
  have ends : ∀ last kind rate runOut rest, q.executing = true → q.queue = .exit last kind rate runOut :: rest →
      q.faultExit = false → s.spindownEnd h = (if last then (s.completeRecord h).finishHead h
        else (s.completeRecord h).waitAgain h).testPassEnd := by
    intro last kind rate runOut rest hx hq hf
    have hr : (s.head h).seq.executingRecord = some (.exit last kind rate runOut) := by
      simp [Sequencer.executingRecord, show (s.head h).seq.executing = true from hx,
        show (s.head h).seq.queue = _ from hq]
    rw [State.spindownEnd, if_pos due]
    simp only [hr, show (s.head h).seq.faultExit = false from hf, Bool.false_eq_true, if_false]
  have core : ∀ r rest, q.queue = r :: rest → ((s.completeRecord h).head h).seq.queue = rest ∧
      ((s.completeRecord h).head h).seq.lastKind = some r.kind := by
    intro r rest hq
    have := State.completeRecord_core (s := s) (h := h) hq
    simp only [Sequencer.core, Prod.mk.injEq] at this
    exact ⟨this.2.2.1, this.2.2.2.1⟩
  have other := (s.completeRecord_oneHead h).other
  refine ⟨fun hf => ?_, fun kind rate runOut rest hf hx hq => ?_, fun kind rate runOut hf hx hq => ?_,
    fun kind rate runOut st rpm force depth rest hf hx hq => ?_⟩
  · refine ⟨s.spindownEnd h, run, ?_⟩
    rw [State.spindownEnd, if_pos due]
    dsimp only
    split <;> simp [show (s.head h).seq.faultExit = true from hf, State.headState, Head.stopped, other]
  · refine ⟨s.spindownEnd h, run, ?_⟩
    obtain ⟨hq', hl⟩ := core _ _ hq
    rw [ends _ _ _ _ _ hx hq hf, if_pos rfl]
    simp [State.headState, Head.finished, hq', hl, Segment.kind, other]
  · refine ⟨s.spindownEnd h, run, ?_⟩
    obtain ⟨hq', hl⟩ := core _ _ hq
    rw [ends _ _ _ _ _ hx hq hf, if_neg (by decide), State.waitAgain_eq, hq']
    simp only [List.isEmpty_nil, if_true]
    refine ⟨?_, ?_, ?_, ?_, fun he => ?_⟩
    · simp [State.headState, Head.waitsAgain]
    · simp [Head.waitsAgain, hq']
    · simp [Head.waitsAgain]
    · simp [Head.waitsAgain, hl, Segment.kind]
    · refine State.raised_kind (State.testPassEnd_worked _) ?_
      rw [State.modHead_events, (s.completeRecord_worked h).enables, he]
  · refine ⟨s.spindownEnd h, run, ?_⟩
    obtain ⟨hq', -⟩ := core _ _ hq
    rw [ends _ _ _ _ _ hx hq hf, if_neg (by decide), State.waitAgain_eq, hq']
    simp only [List.isEmpty_cons, Bool.false_eq_true, if_false]
    have start := State.startRecord_start (s := (s.completeRecord h).modHead h Head.waitsAgain) 0
      (by rw [State.modHead_head]; exact hq')
    have profile : ((s.completeRecord h).head h).profile = (s.head h).profile := by
      rw [State.completeRecord_cons hq, State.raise_head, State.modSeq_head]
    simp only [State.headState, State.testPassEnd_seq, start, State.modHead_head, Head.startsStart, Head.waitsAgain,
      hq', profile]
    exact ⟨trivial, trivial, trivial, trivial, trivial⟩

end Sys2Proof.WeldPass
end

section
/-! SUPPORT. The spin-up, arrival and the plunge. -/

namespace Sys2Proof.Machine

open Sys2Proof.Safety

/-! ## The spin-up -/

/-- A head works its spin-up on a set (R15). -/
def Head.spunUp (x : Head) (accepted near : Bool) : Head :=
  let count := if accepted then (if near then x.seq.atSpeedCount + 1 else 0) else x.seq.atSpeedCount
  let up := accepted && decide (3 ≤ count)
  { x with
    seq := { x.seq with
      state := if up then .plunge else x.seq.state
      atSpeedCount := count
      spinupTimer := x.seq.spinupTimer + 1 }
    reg := { x.reg with plungePhase := if up then .descent else x.reg.plungePhase } }

/-- A head in SPINUP whose at-speed counter has reached 3 enters PLUNGE in DESCENT (R15, R81). -/
theorem State.atSpeed_eq (s : State) (h : HeadId) : s.atSpeed h = s.modHead h fun x =>
    if x.seq.state = .spinup ∧ 3 ≤ x.seq.atSpeedCount then
      { x with seq := { x.seq with state := .plunge }, reg := { x.reg with plungePhase := .descent } } else x := by
  rw [State.atSpeed]
  simp only [State.atSpeedDue, Bool.and_eq_true, decide_eq_true_eq]
  split
  next e => exact State.modHead_congr (if_pos e).symm
  next e => exact (State.modHead_self (if_neg e)).symm

theorem State.workSpinup_eq {s : State} {h : HeadId} (hs : (s.head h).seq.state = .spinup) (accepted : Bool) :
    s.workSpinup accepted h = s.modHead h fun x => x.spunUp accepted
      (decide (mag (s.input h .spindle - (s.head h).trim.spindle) ≤ (s.head h).profile.limits.atSpeedTol)) := by
  cases accepted with
  | false =>
    rw [State.workSpinup, if_neg (by decide), State.modSeq_eq]
    exact State.modHead_congr rfl
  | true =>
    simp only [State.workSpinup, if_true, State.atSpeed_eq, State.modSeq_eq, State.modHead_modHead, State.modHead_head,
      State.modHead_input]
    refine State.modHead_congr ?_
    simp only [Head.spunUp, hs, true_and, if_true, Bool.true_and, decide_eq_true_eq]
    split <;> by_cases hc : 3 ≤ (s.head h).seq.atSpeedCount + 1 <;> simp [hc]

/-- An appended START is taken in WAITING alone (R46). -/
theorem State.takeAppendedStart_elsewhere {s : State} {h : HeadId} (hs : (s.head h).seq.state ≠ .waiting) :
    s.takeAppendedStart h = s := by
  have : s.appendedStartDue h = false := by
    unfold State.appendedStartDue
    dsimp only
    split <;> simp [hs]
  simp [State.takeAppendedStart, this]

/-- The sequencer's work on a set of a head outside WAITING: the work of its state, then the hold timer (R31). -/
theorem State.workSequencer_elsewhere {s : State} {h : HeadId} (hs : (s.head h).seq.state ≠ .waiting) (accepted : Bool) :
    s.workSequencer accepted h = (s.workState accepted h).workHoldTimer h := by
  rw [State.workSequencer, State.takeAppendedStart_elsewhere hs, ite_self]

theorem State.faultOf_head (s : State) (k : FaultKind) (h : HeadId) (v : Int) :
    s.faultOf k (.head h) v = s.takeFault k (some h) (s.head h).seq.station v := rfl

theorem State.faultOf_gantry (s : State) (k : FaultKind) (v : Int) :
    s.faultOf k .gantry v = s.takeFault k none s.planner.measuredX v := rfl

theorem State.spinupTimeoutDue_iff (s : State) (h : HeadId) : s.spinupTimeoutDue h = true ↔
    (s.head h).seq.state = .spinup ∧ s.active = true ∧ (s.head h).fired.spinupTimeout = false ∧
      (s.head h).profile.limits.spinupLimit ≤ (s.head h).seq.spinupTimer := by
  simp [State.spinupTimeoutDue, and_assoc]

/-- The cause of a spin-up timeout: its flag, its fault and an EXIT order of kind IN_PLACE (R129). -/
theorem State.takeCause_spinupTimeout (s : State) (h : HeadId) (v : Int) :
    s.takeCause (.spinupTimeout h v) = ((s.modFired h fun f => { f with spinupTimeout := true }).takeFault
      .spinupTimeout (some h) (s.head h).seq.station v).exitAndCarry h .inPlace := by
  simp only [State.takeCause, State.setFired, State.faultOf_head, State.modFired_eq, State.modHead_head]

/-- The hold timer is all that its work on a set changes (R128). -/
theorem State.workHoldTimer_eq (s : State) (h : HeadId) :
    s.workHoldTimer h = s.modSeq h fun q => { q with holdTimer := ((s.workHoldTimer h).head h).seq.holdTimer } := by
  rw [State.workHoldTimer, State.modSeq_head]
  rfl

end Sys2Proof.Machine

namespace Sys2Proof.WeldPass

open Sys2Proof.Machine Sys2Proof.Safety

/-- Settles O43: the conditions of R14, the at-speed counter, the timeout's EXIT order, and the work of one set. -/
theorem spinupReachesThePlunge : Obligations.SpinupReachesThePlunge := by
  intro h s hp x
  have run : ∀ t, s.ifRunning t = t := State.ifRunning_of hp
  refine ⟨fun st rpm force depth hr hs hpass hx hxs => ?_, fun hs hc => ?_, fun hs ha hf ht ho => ?_,
    fun hs accepted => ?_⟩
  · refine congrArg _ ((run _).trans ?_)
    have due : s.spinupStartDue h = true := by
      simp only [State.spinupStartDue, State.plungeX_of_start hr, State.headState, show (s.head h).seq.state = _ from hs,
        hpass, hxs, decide_true, Bool.true_and, Bool.and_true, decide_eq_true_eq]
      exact hx
    rw [State.startSpinup, if_pos due]
    cases h <;> rfl
  · refine congrArg _ ((run _).trans ?_)
    have due : s.atSpeedDue h = true := by simp [State.atSpeedDue, show (s.head h).seq.state = _ from hs, hc, x]
    rw [State.atSpeed, if_pos due]
  · have due : s.spinupTimeoutDue h = true := (s.spinupTimeoutDue_iff h).2 ⟨hs, ha, hf, ht⟩
    have order : exec (.spinupTimeout h) s = .next (s.takeCause (.spinupTimeout h x.seq.spinupTimer)).testPassEnd :=
      congrArg _ ((run _).trans (State.takeIf_of_due due _))
    refine ⟨_, order, by rw [State.takeCause_spinupTimeout], ?_⟩
    · rw [State.takeCause_spinupTimeout]
      have hseq : (((s.modFired h fun f => { f with spinupTimeout := true }).takeFault .spinupTimeout (some h)
          x.seq.station x.seq.spinupTimer).head h).seq = x.seq := by simp [State.modFired_eq, x]
      rw [State.testPassEnd_headState, State.headState, State.exitAndCarry_head (by simpa [State.modFired_eq] using ha),
        State.exitOrder_stops _ (.inr (by rw [hseq]; exact hs)) (by rw [hseq]; exact ho), State.stopHead_head]
      rfl
  · intro near count up
    rw [State.workSequencer_elsewhere (by rw [show (s.head h).seq.state = _ from hs]; decide), State.workState,
      State.headState, show (s.head h).seq.state = _ from hs]
    dsimp only
    rw [State.workHoldTimer_eq, State.workSpinup_eq hs, State.modSeq_eq, State.modHead_modHead]
    generalize Sequencer.holdTimer _ = hold
    refine ⟨hold, State.modHead_congr ?_⟩
    simp only [Head.spunUp, decide_eq_true_eq, Bool.and_eq_true, show (s.head h).seq.state = _ from hs]
    rfl

end Sys2Proof.WeldPass
end

section
/-! SUPPORT. Arrival. -/

namespace Sys2Proof.Machine

open Sys2Proof.Safety

/-! ## The fault record -/

@[simp] theorem State.raise_fault (s : State) (k : EventKind) (d : Nat) :
    (s.raise k d).events.fault = s.events.fault := by
  rw [State.raise_events]
  split <;> rfl

@[simp] theorem State.raise_faultCount (s : State) (k : EventKind) (d : Nat) :
    (s.raise k d).events.faultCount = s.events.faultCount := by
  rw [State.raise_events]
  split <;> rfl

@[simp] theorem State.takeFault_fault (s : State) (k : FaultKind) (o : Option HeadId) (station v : Int) :
    (s.takeFault k o station v).events.fault =
      some (s.events.fault.getD ⟨k, o, s.ring.setNumber, station, v⟩) := by
  unfold State.takeFault
  dsimp only
  split <;> simp [State.recordFault_events]

@[simp] theorem State.takeFault_faultCount (s : State) (k : FaultKind) (o : Option HeadId) (station v : Int) :
    (s.takeFault k o station v).events.faultCount = min (s.events.faultCount + 1) 65535 := by
  unfold State.takeFault
  dsimp only
  split <;> simp [State.recordFault_events, countUp_eq_min]

/-! ## Every pass head stops -/

/-- Every pass head enters STOPPED (R6). -/
def State.stopAll (s : State) : State :=
  s.pass.heads.members.foldl (fun s h => s.stopHead h) s

theorem State.stopAll_pass (s : State) : s.stopAll.pass = s.pass := by
  unfold State.stopAll
  cases s.pass.heads <;> simp [HeadSet.members]

theorem State.stopAll_planner (s : State) : s.stopAll.planner = s.planner := by
  unfold State.stopAll
  cases s.pass.heads <;> simp [HeadSet.members]

theorem State.stopAll_events (s : State) : s.stopAll.events = s.events := by
  unfold State.stopAll
  cases s.pass.heads <;> simp [HeadSet.members]

theorem State.stopAll_head {s : State} {h : HeadId} (hh : s.isPassHead h = true) :
    s.stopAll.head h = (s.head h).stopped := by
  unfold State.isPassHead at hh
  unfold State.stopAll
  have first : ((s.stopHead .a).stopHead .b).head .a = (s.stopHead .a).head .a := (s.stopHead .a).stopHead_other .b
  have second : (s.stopHead .a).head .b = s.head .b := s.stopHead_other .a
  cases e : s.pass.heads <;> rw [e] at hh <;> cases h <;>
    simp_all [HeadSet.has, HeadSet.members]

/-- A pass all of whose heads are stopped at rest ends ABORTED at once (R6, R12). -/
theorem State.stopEvery_aborts {s : State} (ha : s.active = true) (hx : s.planner.xCommand = 0)
    (hn : s.pass.heads ≠ .none) :
    s.stopEvery = s.stopAll.endPass ∧ s.stopEvery.pass.state = .aborted := by
  have stops : ∀ h, s.stopAll.isPassHead h = true → s.stopAll.headState h = .stopped := by
    intro h hh
    rw [State.headState, State.stopAll_head (by simpa [State.isPassHead, State.stopAll_pass] using hh)]
    rfl
  have ends : s.stopEvery = s.stopAll.endPass := by
    refine State.testPassEnd_of_due (s.stopAll.passEndDue_iff.2 ⟨?_, fun h hh => ?_, ?_⟩)
    · rwa [State.active, State.stopAll_pass]
    · rw [stops h hh]
      rfl
    · rwa [State.stopAll_planner]
  refine ⟨ends, ?_⟩
  obtain ⟨h, hh⟩ : ∃ h, s.stopAll.isPassHead h = true := by
    simp only [State.isPassHead, State.stopAll_pass]
    cases e : s.pass.heads with
    | none => exact absurd e hn
    | a => exact ⟨.a, rfl⟩
    | b => exact ⟨.b, rfl⟩
    | both => exact ⟨.a, rfl⟩
  rw [ends, State.endPass_pass, State.endedPass_aborted ⟨h, hh, by rw [stops h hh]; decide⟩]

/-- A fault at arrival is taken once and recorded if the record is empty, and every pass head stops (R6, R187). -/
theorem State.stopEvery_faults {s : State} (ha : s.active = true) (hx : s.planner.xCommand = 0)
    (hn : s.pass.heads ≠ .none) (k : FaultKind) (o : Option HeadId) (station v : Int) :
    let t := (s.takeFault k o station v).stopEvery
    t.pass.state = .aborted ∧
      (∀ h, s.isPassHead h = true → t.headState h = .stopped ∧ (t.head h).seq.queue = []) ∧
      t.events.faultCount = min (s.events.faultCount + 1) 65535 ∧
      ∀ f, s.events.fault = none → t.events.fault = some f → f = ⟨k, o, s.ring.setNumber, station, v⟩ := by
  intro t
  obtain ⟨e, aborted⟩ := State.stopEvery_aborts (s := s.takeFault k o station v) (by simpa using ha) (by simpa using hx)
    (by simpa using hn)
  have te : t.events = ((s.takeFault k o station v).stopAll.raise .passEnd
      (detailNumber (s.takeFault k o station v).stopAll.pass.number)).events := by
    simp only [t]
    rw [e, State.endPass_eq]
  refine ⟨aborted, fun h hh => ?_, ?_, fun f hf => ?_⟩
  · have : t.head h = (((s.takeFault k o station v).head h).stopped).unfired := by
      simp only [t]
      rw [e, State.endPass_head, State.stopAll_head (by simpa [State.isPassHead] using hh)]
    simp only [State.headState, this]
    exact ⟨rfl, rfl⟩
  · rw [te, State.raise_faultCount, State.stopAll_events, State.takeFault_faultCount]
  · rw [te, State.raise_fault, State.stopAll_events, State.takeFault_fault, hf]
    exact fun e => (Option.some.inj e).symm

theorem State.startBehind_iff (s : State) (h : HeadId) : s.startBehind h = true ↔
    s.isPassHead h = true ∧ ∃ x, s.plungeX h = some x ∧ x < s.planner.measuredX - s.gantry.arrivalTol := by
  unfold State.startBehind
  cases s.plungeX h <;> simp

theorem State.faultBehind_of {s : State} {h : HeadId} {x : Int} (e : s.plungeX h = some x) :
    s.faultBehind h = s.takeFault .startBehind (some h) (s.stationNow h) (s.planner.measuredX - x) := by
  rw [State.faultBehind, e]

theorem limit_eq_max_min {lo hi : Int} (h : lo ≤ hi) (x : Int) : limit lo hi x = max lo (min hi x) := by
  unfold limit
  split
  · omega
  · split <;> omega

end Sys2Proof.Machine

namespace Sys2Proof.WeldPass

open Sys2Proof.Machine Sys2Proof.Safety

/-- Settles O42: the two checks of arrival, the fault of the first that fails, and the end of the pass behind it. -/
theorem arrivalRunsOrAborts : Obligations.ArrivalRunsOrAborts := by
  intro s hp hst hc hn hw hx hxs hxc behind undated
  have due : s.arrivalDue = true := by
    obtain ⟨h, hh, hne⟩ := hw
    have : s.abandoned = false := by
      simp only [State.abandoned, List.all_eq_false]
      exact ⟨h, (HeadSet.mem_members _ h).2 hh, by simpa using hne⟩
    simp [State.arrivalDue, hst, hc, this, hx, hxs]
  have run : exec .arrival s = .next s.arrive := by
    refine congrArg _ ((State.ifRunning_of hp _).trans ?_)
    rw [State.arrival, if_pos due]
  have act : s.active = true := by simp [State.active, hst, PassState.active]
  have hb : ∀ h, behind h ↔ s.startBehind h = true := fun h => (s.startBehind_iff h).symm
  have faulted := fun k o station v => State.stopEvery_faults act hxc hn k o station v
  have against : ∀ h, behind h → ∃ t, (s.faultBehind h).stopEvery = t ∧ t.pass.state = .aborted ∧
      (∀ g, s.isPassHead g = true → t.headState g = .stopped ∧ (t.head g).seq.queue = []) ∧
      t.events.faultCount = min (s.events.faultCount + 1) 65535 ∧
      ∀ f, s.events.fault = none → t.events.fault = some f → f.kind = .startBehind ∧ f.head = some h ∧
        f.station = max (-2147483648) (min 2147483647
          (s.planner.measuredX - s.pass.x0 + (s.head h).profile.trim.xOffset)) ∧
        ∀ x, s.plungeX h = some x → f.value = s.planner.measuredX - x := by
    rintro h ⟨-, x, e, -⟩
    rw [State.faultBehind_of e]
    obtain ⟨h1, h2, h3, h4⟩ := faulted .startBehind (some h) (s.stationNow h) (s.planner.measuredX - x)
    refine ⟨_, rfl, h1, h2, h3, fun f hf hs => ?_⟩
    rw [h4 f hf hs]
    exact ⟨rfl, rfl, limit_eq_max_min (by decide) _, fun y ey => by rw [Option.some.inj (e.symm.trans ey)]⟩
  rw [run, State.arrive]
  refine ⟨fun hu ha hb' => ?_, fun hd => ?_⟩
  · rw [if_neg hu, if_neg (mt (hb .a).2 ha), if_neg (mt (hb .b).2 hb')]
    rfl
  · by_cases hu : undated
    · rw [if_pos hu, State.faultOf_gantry]
      obtain ⟨h1, h2, h3, h4⟩ := faulted .noDatum none s.planner.measuredX 0
      refine ⟨_, rfl, h1, h2, h3, fun f hf hs => ?_⟩
      rw [h4 f hf hs]
      exact ⟨fun _ => ⟨rfl, rfl, rfl, rfl⟩, fun h => absurd hu h, fun h => absurd hu h⟩
    · rw [if_neg hu]
      by_cases ha : behind .a
      · rw [if_pos ((hb .a).1 ha)]
        obtain ⟨t, e, h1, h2, h3, h4⟩ := against .a ha
        exact ⟨t, congrArg _ e, h1, h2, h3,
          fun f hf hs => ⟨fun h => absurd h hu, fun _ _ => h4 f hf hs, fun _ h => absurd ha h⟩⟩
      · have hbb := (hd.resolve_left hu).resolve_left ha
        rw [if_neg (mt (hb .a).2 ha), if_pos ((hb .b).1 hbb)]
        obtain ⟨t, e, h1, h2, h3, h4⟩ := against .b hbb
        exact ⟨t, congrArg _ e, h1, h2, h3,
          fun f hf hs => ⟨fun h => absurd h hu, fun _ h => absurd h ha, fun _ _ => h4 f hf hs⟩⟩

end Sys2Proof.WeldPass
end

section
/-! SUPPORT. The plunge. -/

namespace Sys2Proof.Machine

open Sys2Proof.Safety

/-! ## The regulator -/

/-- The regulator record of a head with the targets of a set (R72, R74, R105). -/
def Head.aimed (x : Head) : Regulator :=
  { x.reg with
    segment := x.seq.segmentValues
    target := limit 0 60000 (divZero (x.seq.segmentValues.force * (lookup x.map.points x.seq.station).1) 1000)
    nominal := x.seq.segmentValues.depth + (lookup x.map.points x.seq.station).2 }

theorem State.formTargets_eq (s : State) (h : HeadId) :
    s.formTargets h = s.modHead h fun x => { x with reg := x.aimed } := rfl

/-- The regulation of a set on one regulator record (R74 to R80). -/
theorem State.regulate_eq (s : State) (h : HeadId) :
    s.regulate h = s.modHead h fun x =>
      { x with reg := (x.aimed.regulate x.profile s.gantry.tc (s.input h .force) (s.prevDemand h)
          (decide (x.seq.state = .traverse))) } := by
  simp only [State.regulate, State.formTargets_eq, State.modReg_eq, State.modHead_modHead, State.modHead_head,
    State.modHead_gantry, State.modHead_input, State.modHead_prevDemand, State.headState]
  exact State.modHead_congr rfl

/-- A regulating head in a coast set forms its targets and holds its demand (R92). -/
theorem State.coastTargets_eq (s : State) (h : HeadId) :
    s.coastTargets h = s.modHead h fun x => { x with reg := { x.aimed with demand := s.prevDemand h } } := by
  simp only [State.coastTargets, State.formTargets_eq, State.setDemand, State.modReg_eq, State.modHead_modHead]

theorem State.setDemand_eq (s : State) (h : HeadId) (d : Int) :
    s.setDemand h d = s.modHead h fun x => { x with reg := { x.reg with demand := d } } := rfl

theorem Sequencer.segmentValues_elsewhere {q : Sequencer} (hs : q.state ≠ .traverse) : q.segmentValues = q.carried := by
  unfold Sequencer.segmentValues
  split
  next e _ => exact absurd e hs
  next => rfl

theorem State.judgeSeat_eq (s : State) (h : HeadId) : s.judgeSeat h = s.modReg h fun r => { r with
    seatCount := if (s.head h).seq.progress.starved = true then r.seatCount
      else if mag r.error ≤ (s.head h).profile.gains.seatBand then
        min (r.seatCount + 1) (s.head h).profile.gains.seatSets else 0 } := by
  refine State.modHead_congr ?_
  dsimp only
  split <;> simp only [countUp_eq_min]

theorem State.seatCompleteDue_iff (s : State) (h : HeadId) : s.seatCompleteDue h = true ↔
    (s.head h).seq.state = .plunge ∧ (s.head h).reg.plungePhase = .seat ∧ (s.head h).seq.progress.starved = false ∧
      (s.head h).profile.gains.seatSets ≤ (s.head h).reg.seatCount := by
  simp [State.seatCompleteDue, and_assoc]

theorem State.contactDue_iff (s : State) (h : HeadId) : s.contactDue h = true ↔
    ((s.head h).seq.state = .plunge ∧ (s.head h).reg.plungePhase = .descent) ∧
      divZero (s.head h).seq.carried.force 2 ≤ s.input h .force := by
  simp [State.contactDue]

theorem State.noContactDue_iff (s : State) (h : HeadId) : s.noContactDue h = true ↔
    s.headState h = .plunge ∧ (s.head h).reg.plungePhase = .descent ∧
      s.input h .force < divZero (s.head h).seq.carried.force 2 ∧ s.prevDemand h = (s.head h).descentLimit := by
  have contact := s.contactDue_iff h
  simp only [State.noContactDue, State.headState, Bool.and_eq_true, Bool.not_eq_true', Bool.eq_false_iff, ne_eq, contact,
    decide_eq_true_eq, not_and, not_le]
  constructor
  · rintro ⟨⟨⟨h1, h2⟩, h3⟩, h4⟩
    exact ⟨h1, h2, h3 ⟨h1, h2⟩, h4⟩
  · rintro ⟨h1, h2, h3, h4⟩
    exact ⟨⟨⟨h1, h2⟩, fun _ => h3⟩, h4⟩

/-- The cause of a descent without contact: its fault and an EXIT order of kind IN_PLACE (R82). -/
theorem State.takeCause_noContact (s : State) (h : HeadId) (v : Int) : s.takeCause (.noContact h v) =
    (s.takeFault .noContact (some h) (s.head h).seq.station v).exitAndCarry h .inPlace := rfl

end Sys2Proof.Machine

namespace Sys2Proof.WeldPass

open Sys2Proof.Machine Sys2Proof.Safety

/-- Settles O44: contact, the descent's end without it, the seat's end, and the regulator's work on one set of a plunge. -/
theorem plungeSeatsOrRetracts : Obligations.PlungeSeatsOrRetracts := by
  intro h s hp x descending touching
  have run : ∀ t, s.ifRunning t = t := State.ifRunning_of hp
  refine ⟨fun hd ht => ?_, fun hd ht hl ha ho => ?_, fun hs hph hst hc => ?_, ?_⟩
  · refine congrArg _ ((run _).trans ?_)
    rw [State.takeContact, if_pos ((s.contactDue_iff h).2 ⟨hd, ht⟩)]
  · have due : s.noContactDue h = true := (s.noContactDue_iff h).2 ⟨hd.1, hd.2, by simpa [touching] using ht, hl⟩
    have order : exec (.noContact h) s = .next (s.takeCause (.noContact h (s.input h .force))).testPassEnd :=
      congrArg _ ((run _).trans (State.takeIf_of_due due _))
    rw [State.takeCause_noContact] at order
    refine ⟨_, order, rfl, ?_⟩
    have hh : ((s.takeFault .noContact (some h) (s.head h).seq.station (s.input h .force)).exitAndCarry h .inPlace).head h
        = x.ordered.exiting .retract (inPlaceExit x.profile.depth.retractRate) := by
      rw [State.exitAndCarry_head (by simpa using ha), State.exitOrder_retracts _ (.inl (by simpa using hd.1))
        (by simpa using ho)]
      simp [x]
    simp only [State.testPassEnd_seq, State.headState, hh]
    exact ⟨rfl, rfl, rfl, rfl⟩
  · refine congrArg _ ((run _).trans ?_)
    rw [State.seatComplete, if_pos ((s.seatCompleteDue_iff h).2 ⟨hs, hph, hst, hc⟩)]
  · intro d limit start found aimed formed seats judged done seated ended
    let s0 := s.modReg h fun r => { r with formedError := false }
    have h0 : s0.head h = { x with reg := start } := by simp [s0, State.modReg_eq, start, x]
    have p0 : s0.prevDemand h = d := by simp [s0, State.modReg_eq, d]
    have i0 : s0.input h .force = s.input h .force := by simp [s0, State.modReg_eq]
    have onto : ∀ (f : Head → Head) (r : Regulator), f { x with reg := start } = { x with reg := r } →
        s0.modHead h f = s.modReg h fun _ => r := by
      intro f r e
      simp only [s0, State.modReg_eq, State.modHead_modHead]
      exact State.modHead_congr e
    have phase : ∀ accepted, s.workRegulator accepted h = s0.workPhase accepted h := fun _ => rfl
    have seat : ∀ accepted (u : State), u.headState h = .plunge → (u.head h).reg.plungePhase = .seat →
        u.workPhase accepted h = if accepted then u.workSeat h else u.coastTargets h := by
      intro accepted u h1 h2
      simp only [State.workPhase, h1, h2]
    have descent : ∀ accepted, descending →
        s.workRegulator accepted h = if accepted then s0.workDescent h else s0.setDemand h d := by
      intro accepted hd
      rw [phase, State.workPhase, State.headState, h0, show x.seq.state = _ from hd.1]
      simp only [start, show x.reg.plungePhase = _ from hd.2, p0]
    have contact : s0.contactDue h = true ↔ descending ∧ touching := by
      rw [s0.contactDue_iff h, h0, i0]
    refine ⟨fun hd => ?_, fun hd ht => ?_, fun hd ht => ?_, fun hs hph => ?_⟩
    · rw [descent false hd, if_neg (by decide), State.setDemand_eq]
      exact onto _ _ rfl
    · rw [descent true hd, if_pos rfl, State.workDescent, if_neg (mt contact.1 fun e => ht e.2)]
      dsimp only
      rw [p0, show (s0.head h).descentLimit = limit by rw [h0]; rfl,
        show (s0.head h).profile.depth.plungeRate = x.profile.depth.plungeRate by rw [h0]]
      split <;> rw [State.setDemand_eq] <;> exact onto _ _ rfl
    · rw [descent true hd, if_pos rfl, State.workDescent, if_pos (contact.2 ⟨hd, ht⟩), State.takeContact,
        if_pos (contact.2 ⟨hd, ht⟩), State.workRegulator, seat, if_pos rfl]
      · refine congrArg (fun u => State.workSeat u h) ?_
        simp only [s0, State.modReg_eq, State.modHead_modHead]
      · simp [State.headState, State.modReg_eq, show (s.head h).seq.state = _ from hd.1]
      · simp [State.modReg_eq]
    · have hs0 : s0.headState h = .plunge := by rw [State.headState, h0]; exact hs
      have hp0 : (s0.head h).reg.plungePhase = .seat := by rw [h0]; exact hph
      have aim : (s0.head h).aimed = aimed := by
        have values : x.seq.segmentValues = x.seq.carried :=
          Sequencer.segmentValues_elsewhere (by rw [show x.seq.state = _ from hs]; decide)
        rw [h0]
        simp only [Head.aimed, values, limit_eq_max_min (show (0 : Int) ≤ 60000 by decide)]
        rfl
      have regulates : s0.regulate h = s.modReg h fun _ => formed := by
        rw [State.regulate_eq]
        refine onto _ _ ?_
        have apart : decide ((s0.head h).seq.state = .traverse) = false := by
          rw [show (s0.head h).seq.state = _ from hs0]
          rfl
        rw [← h0, aim, i0, p0, show s0.gantry = s.gantry by simp [s0, State.modReg_eq], apart, h0]
      have judge : (s0.regulate h).judgeSeat h = seated := by
        rw [regulates, State.judgeSeat_eq]
        simp only [State.modReg_eq, State.modHead_modHead, State.modHead_head]
        exact State.modHead_congr rfl
      have hj : seated.head h = { x with reg := judged } := by simp [seated, State.modReg_eq, x]
      have due : seated.seatCompleteDue h = true ↔ done := by
        rw [seated.seatCompleteDue_iff, hj]
        simp only [show x.seq.state = _ from hs, true_and]
        exact ⟨fun e => e.2, fun e => ⟨hph, e⟩⟩
      have works : s.workRegulator true h = (let e := seated.seatComplete h
          if e.headState h = .exit then e.formRamp true h else e) := by
        rw [phase, seat _ _ hs0 hp0, if_pos rfl, State.workSeat, judge]
      refine ⟨?_, fun hn => ?_, fun hd he => ?_, fun hd he => ?_⟩
      · rw [phase, seat _ _ hs0 hp0, if_neg (by decide), State.coastTargets_eq, p0]
        refine onto _ _ ?_
        rw [← h0, aim, h0]
      · rw [works, State.seatComplete, if_neg (mt due.1 hn)]
        refine if_neg ?_
        rw [State.headState, hj, show x.seq.state = _ from hs]
        decide
      · rw [works, State.seatComplete, if_pos (due.2 hd)]
        exact if_neg he
      · rw [works, State.seatComplete, if_pos (due.2 hd)]
        exact if_pos he

end Sys2Proof.WeldPass
end

section
/-! SUPPORT. HALT orders. -/

namespace Sys2Proof.Machine

open Sys2Proof.Safety

/-! ## A HALT on one head -/

/-- A head that a HALT takes out of the seam (R22, R35, R47, R90). -/
def Head.withdrawn (x : Head) : Head :=
  { x with
    seq := { x.seq with
      state := .withdraw
      order := .withdraw
      queue := x.seq.queue.take 1
      carried := if x.seq.state = .traverse then x.reg.segment else x.seq.carried }
    reg := { x.reg with withdraw := .rising, satRun := 0 } }

/-- A head under the order WITHDRAW. -/
def Head.orderedOut (x : Head) : Head :=
  { x with seq := { x.seq with order := .withdraw } }

/-- A head that a HALT acts on (R22). -/
def Head.halted (x : Head) : Head :=
  if x.seq.order = .withdraw then x
  else if x.inSeam = true then x.withdrawn
  else if x.seq.state.working = true ∧ x.seq.state ≠ .withdraw then x.orderedOut.stopped
  else x.orderedOut

theorem Head.inSeam_orderedOut (x : Head) : x.orderedOut.inSeam = x.inSeam := rfl

theorem Head.inSeam_of_state {x : Head} (h : x.seq.state = .withdraw ∨ x.seq.state = .stopped) : x.inSeam = false := by
  rcases h with h | h <;> simp [Head.inSeam, h]

/-- A head that a HALT acts on is out of the seam, unless it has its order already (R22). -/
theorem Head.halted_inSeam {x : Head} (ho : x.seq.order ≠ .withdraw) : x.halted.inSeam = false := by
  unfold Head.halted
  rw [if_neg ho]
  split
  · exact Head.inSeam_of_state (.inl rfl)
  · split
    · exact Head.inSeam_of_state (.inr rfl)
    next hs _ => simpa [Head.inSeam_orderedOut] using hs

theorem Head.halted_order (x : Head) : x.halted.seq.order = .withdraw := by
  unfold Head.halted
  split
  next e => exact e
  next =>
    split
    · rfl
    · split <;> rfl

theorem State.enterWithdraw_eq (s : State) (h : HeadId) : s.enterWithdraw h = s.modHead h fun x =>
    { x with
      seq := { x.seq with
        state := .withdraw
        queue := x.seq.queue.take 1
        carried := if x.seq.state = .traverse then x.reg.segment else x.seq.carried }
      reg := { x.reg with withdraw := .rising, satRun := 0 } } := by
  unfold State.enterWithdraw
  dsimp only
  split
  next e =>
    simp only [State.carryLastSet, State.dropPending, State.modSeq_eq, State.modHead_modHead]
    refine State.modHead_congr ?_
    simp [show (s.head h).seq.state = _ from e]
  next e =>
    simp only [State.dropPending, State.modSeq_eq, State.modHead_modHead]
    refine State.modHead_congr ?_
    simp [show (s.head h).seq.state ≠ _ from e]

/-- What a HALT leaves in the head it acts on. -/
theorem State.haltHead_head (s : State) (h : HeadId) : (s.haltHead h).head h = (s.head h).halted := by
  unfold State.haltHead Head.halted
  dsimp only
  split
  · rfl
  · split
    · rw [State.enterWithdraw_eq, State.modHead_head, State.modSeq_head]
      rfl
    · simp only [Bool.and_eq_true, decide_eq_true_eq]
      split
      · rw [State.stopHead_head, State.modSeq_head]
        rfl
      · rw [State.modSeq_head]
        rfl

/-- The heads beside the one that an order reaches. -/
theorem HeadAndGuards.head_of_ne {s t : State} {h k : HeadId} (a : HeadAndGuards s t h) (hk : k ≠ h) :
    t.head k = s.head k := by
  rw [(HeadId.eq_or_other k h).resolve_left hk]
  exact a.other

/-- A HALT changes the head it acts on and the guards alone. -/
theorem State.haltHead_frame (s : State) (h : HeadId) : HeadAndGuards s (s.haltHead h) h := by
  unfold State.haltHead
  dsimp only
  split
  · exact .refl s h
  · have a : HeadAndGuards s (s.modSeq h fun q => { q with order := .withdraw }) h := .modHead ..
    refine a.trans ?_
    split
    · rw [State.enterWithdraw_eq]
      exact .modHead ..
    · split
      · exact .stopHead ..
      · exact .refl ..

@[simp] theorem State.haltHead_other (s : State) (h : HeadId) : (s.haltHead h).head h.other = s.head h.other :=
  (s.haltHead_frame h).other

@[simp] theorem State.haltHead_pass (s : State) (h : HeadId) : (s.haltHead h).pass = s.pass :=
  (s.haltHead_frame h).pass

/-! ## The bridge stops -/

/-- The planner of a bridge that stops (R66). -/
def Planner.quickStopped (p : Planner) : Planner :=
  if p.xMode = .quickstop then p
  else { p with xMode := .quickstop, xCommand := 0, commandedX := p.measuredX * 1000, lag := 0 }

theorem State.quickStop_eq (s : State) : s.quickStop = { s with
    halted := true
    planner := s.planner.quickStopped
    service := { s.service with mode := if s.service.mode = .ready then .fault else s.service.mode } } := by
  unfold State.quickStop State.quickStopX Planner.quickStopped
  dsimp only
  split <;> split <;> simp_all [State.reseed]

@[simp] theorem State.quickStop_head (s : State) (h : HeadId) : s.quickStop.head h = s.head h := by
  rw [State.quickStop_eq]
  cases h <;> rfl

/-- A HALT order is the stop of the bridge, and HALTs on heads (R22 to R24). -/
structure HaltsHeads (s t : State) (acts : HeadId → Prop) : Prop where
  frame : t = { s.quickStop with pass := t.pass, headA := t.headA, headB := t.headB, guards := t.guards }
  acted : ∀ k, acts k → t.head k = (s.head k).halted
  spared : ∀ k, ¬ acts k → t.head k = s.head k

theorem HaltsHeads.start (s : State) : HaltsHeads s s.quickStop fun _ => False where
  frame := rfl
  acted := fun _ h => h.elim
  spared := fun k _ => s.quickStop_head k

/-- One more head halts. -/
theorem HaltsHeads.haltHead {s t : State} {acts : HeadId → Prop} (a : HaltsHeads s t acts) (h : HeadId)
    (hn : ¬ acts h) : HaltsHeads s (t.haltHead h) fun k => k = h ∨ acts k where
  frame := by
    have f := (t.haltHead_frame h).frame
    rw [f, a.frame]
  acted := by
    rintro k (rfl | hk)
    · rw [State.haltHead_head, a.spared k hn]
    · rw [(t.haltHead_frame h).head_of_ne fun e => hn (e ▸ hk), a.acted k hk]
  spared := by
    intro k hk
    rw [(t.haltHead_frame h).head_of_ne fun e => hk (.inl e), a.spared k fun e => hk (.inr e)]

theorem HaltsHeads.congr {s t : State} {acts acts' : HeadId → Prop} (a : HaltsHeads s t acts)
    (h : ∀ k, acts' k ↔ acts k) : HaltsHeads s t acts' :=
  ⟨a.frame, fun k hk => a.acted k ((h k).1 hk), fun k hk => a.spared k (mt (h k).2 hk)⟩

/-- A hold order behind a HALT. -/
theorem HaltsHeads.holdOrder {s t : State} {acts : HeadId → Prop} (a : HaltsHeads s t acts) (c : HoldCause) :
    HaltsHeads s (t.holdOrder c) acts := by
  have f := (t.holdOrder_frame c).1
  refine ⟨?_, ?_, ?_⟩
  · rw [f, a.frame]
  · rw [f]
    exact a.acted
  · rw [f]
    exact a.spared

/-- A hold order reads and changes the pass record alone. -/
theorem State.holdOrder_pass_congr {s t : State} (e : t.pass = s.pass) (c : HoldCause) :
    (t.holdOrder c).pass = (s.holdOrder c).pass := by
  cases hs : s.pass.state <;> simp only [State.holdOrder, e, hs]

/-- A HALT all acts on every pass head (R22). -/
theorem State.haltAll_halts {s : State} (ha : s.active = true) :
    HaltsHeads s s.haltAll (fun k => s.isPassHead k = true) ∧ s.haltAll.pass = s.pass := by
  have hq : s.quickStop.pass = s.pass := by rw [State.quickStop_eq]
  rw [State.haltAll, if_pos ha]
  simp only [State.isPassHead]
  cases s.pass.heads with
  | none => exact ⟨(HaltsHeads.start s).congr (by simp [HeadSet.has, HeadSet.members]), hq⟩
  | a =>
    refine ⟨((HaltsHeads.start s).haltHead .a id).congr ?_, by simp [HeadSet.members, hq]⟩
    simp [HeadSet.has, HeadSet.members]
  | b =>
    refine ⟨((HaltsHeads.start s).haltHead .b id).congr ?_, by simp [HeadSet.members, hq]⟩
    simp [HeadSet.has, HeadSet.members]
  | both =>
    refine ⟨(((HaltsHeads.start s).haltHead .a id).haltHead .b (by simp)).congr ?_, by simp [HeadSet.members, hq]⟩
    intro k
    cases k <;> simp [HeadSet.has, HeadSet.members]

theorem HeadId.other_ne (h : HeadId) : h.other ≠ h := by
  cases h <;> decide

/-- A head HALT acts on the head it names and, in a linked pass, on the other pass head; in an unlinked pass a working
survivor is held (R22 to R24). -/
theorem State.headHalt_halts {s : State} (ha : s.active = true) (h : HeadId) :
    HaltsHeads s (s.headHalt h) (fun k => k = h ∨ s.pass.linked = true ∧ s.isPassHead k = true) ∧
      (s.headHalt h).pass = if s.pass.linked = false ∧ s.isPassHead h.other = true ∧
        (s.headState h.other).working = true ∧ s.headState h.other ≠ .withdraw then (s.holdOrder .halt).pass
      else s.pass := by
  have one := (HaltsHeads.start s).haltHead h id
  have hp : (s.quickStop.haltHead h).pass = s.pass := by rw [State.haltHead_pass, State.quickStop_eq]
  have ho : (s.quickStop.haltHead h).headState h.other = s.headState h.other := by simp [State.headState]
  have hm : (s.quickStop.haltHead h).isPassHead h.other = s.isPassHead h.other := by rw [State.isPassHead, hp]; rfl
  rw [State.headHalt, if_pos ha]
  dsimp only
  rw [hp, hm, ho]
  cases hl : s.pass.linked with
  | true =>
    simp only [if_true, true_and, Bool.true_eq_false, false_and, if_false]
    cases hi : s.isPassHead h.other with
    | true =>
      refine ⟨(one.haltHead h.other (by simp [HeadId.other_ne])).congr fun k => ?_,
        by rw [if_pos rfl, State.haltHead_pass, hp]⟩
      rcases HeadId.eq_or_other k h with rfl | rfl <;> simp [hi]
    | false =>
      refine ⟨one.congr fun k => ?_, by rw [if_neg (by decide), hp]⟩
      rcases HeadId.eq_or_other k h with rfl | rfl <;> simp [hi]
  | false =>
    simp only [Bool.false_eq_true, if_false, false_and, or_false, true_and, Bool.and_eq_true, decide_eq_true_eq]
    by_cases hd : (s.isPassHead h.other = true ∧ (s.headState h.other).working = true) ∧ s.headState h.other ≠ .withdraw
    · rw [if_pos hd, if_pos ⟨hd.1.1, hd.1.2, hd.2⟩]
      refine ⟨(one.holdOrder .halt).congr fun k => (iff_of_eq (or_false _)).symm, ?_⟩
      exact State.holdOrder_pass_congr hp .halt
    · rw [if_neg hd, if_neg fun e => hd ⟨⟨e.1, e.2.1⟩, e.2.2⟩]
      exact ⟨one.congr fun k => (iff_of_eq (or_false _)).symm, hp⟩

end Sys2Proof.Machine

namespace Sys2Proof.WeldPass

open Sys2Proof.Machine Sys2Proof.Safety

/-- Settles O53: each HALT order stops the bridge and halts the heads it acts on, which `Head.halted` writes out. -/
theorem haltsClearTheSeam : Obligations.HaltsClearTheSeam := by
  refine ⟨fun s t h acts ha ht => ?_, fun u hu => ⟨?_, rfl, ?_⟩⟩
  · have hl : HaltsHeads s t acts := by
      rcases ht with ⟨rfl, hk⟩ | ⟨rfl, hk⟩
      · exact (State.haltAll_halts ha).1.congr hk
      · exact (State.headHalt_halts ha h).1.congr hk
    have hp : t.pass.state.active = true := by
      rcases ht with ⟨rfl, -⟩ | ⟨rfl, -⟩
      · rw [(State.haltAll_halts ha).2]
        exact ha
      · rw [(State.headHalt_halts ha h).2]
        split
        · exact (s.holdOrder_frame .halt).2.1.trans ha
        · exact ha
    have hq := s.quickStop_eq
    have planner : t.planner = s.planner.quickStopped := by rw [hl.frame, hq]
    refine ⟨fun k hk ho => ?_, fun k hk ho => ?_, hl.spared, fun e => ?_, fun e => ?_, fun e => ?_, fun e => ?_, ?_, ?_,
      ?_, ?_, ?_, ?_, fun e hact => ?_⟩
    · rw [State.headState, hl.acted k hk]
      refine ⟨Head.halted_order _, Head.halted_inSeam ho, fun hi => ?_, fun hi hw hg => ?_, fun hi hn => ?_⟩
      · rw [Head.halted, if_neg ho, if_pos hi]
        exact ⟨rfl, rfl, rfl, rfl, rfl⟩
      · rw [Head.halted, if_neg ho, if_neg (by simp [hi]), if_pos ⟨hg, hw⟩]
        exact ⟨rfl, rfl, rfl, rfl⟩
      · rw [Head.halted, if_neg ho, if_neg (by simp [hi]), if_neg ?_]
        · rfl
        · rintro ⟨h1, h2⟩
          rcases hn with hn | hn
          · exact h2 hn
          · rw [show (s.head k).seq.state.working = _ from hn] at h1
            cases h1
    · rw [hl.acted k hk, Head.halted, if_pos ho]
    · rw [e, (State.haltAll_halts ha).2]
    · rw [e, (State.headHalt_halts ha h).2]
    · rw [planner, Planner.quickStopped, if_neg e]
    · rw [planner, Planner.quickStopped, if_pos e]
    · rw [hl.frame, hq]
    · rw [hl.frame, hq]
    · rw [hl.frame, hq]
    · rw [hl.frame, hq]
    · rw [hl.frame, hq]
    · rw [hl.frame, hq]
    · by_contra hall
      have heads : t.pass.heads = s.pass.heads := by
        rcases ht with ⟨rfl, -⟩ | ⟨rfl, -⟩
        · rw [(State.haltAll_halts ha).2]
        · rw [(State.headHalt_halts ha h).2]
          split
          · exact (s.holdOrder_frame .halt).2.2.2
          · rfl
      have due : t.passEndDue = true := by
        refine t.passEndDue_iff.2 ⟨hp, fun k hk => (HeadState.left_iff _).2 ?_, ?_⟩
        · by_contra hn
          obtain ⟨h1, h2⟩ := not_or.1 hn
          exact hall ⟨k, by rwa [State.isPassHead, ← heads], h1, h2⟩
        · rw [planner, Planner.quickStopped, if_neg e]
      rw [State.testPassEnd_of_due due, State.active, State.endPass_pass, State.endedPass_active] at hact
      cases hact
  · simp [State.formOutputs, hu]
  · unfold State.testPassEnd
    split
    · rw [State.endPass_eq]
      exact hu
    · exact hu

end Sys2Proof.WeldPass
end

section
/-! SUPPORT. PASS START. -/

namespace Sys2Proof.Machine

open Sys2Proof.Safety

/-! ## The least of a list -/

/-- The least of a list is an entry of it, and no entry lies below it. -/
theorem least_eq_some {l : List Int} {m : Int} (h : least l = some m) : m ∈ l ∧ ∀ x ∈ l, m ≤ x := by
  induction l generalizing m with
  | nil => cases h
  | cons x xs ih =>
    unfold least at h
    cases e : least xs with
    | none =>
      have : xs = [] := by
        cases xs with
        | nil => rfl
        | cons y ys =>
          unfold least at e
          split at e <;> cases e
      simp_all
    | some y =>
      obtain ⟨hy, hle⟩ := ih e
      simp only [e, Option.some.injEq] at h
      subst h
      refine ⟨?_, fun z hz => ?_⟩
      · rcases min_choice x y with hm | hm <;> rw [hm]
        · exact List.mem_cons_self
        · exact List.mem_cons_of_mem _ hy
      · rcases List.mem_cons.1 hz with rfl | hz
        · exact min_le_left ..
        · exact (min_le_right ..).trans (hle z hz)

theorem least_isSome {l : List Int} (h : l ≠ []) : ∃ m, least l = some m := by
  cases l with
  | nil => exact absurd rfl h
  | cons x xs =>
    unfold least
    split <;> exact ⟨_, rfl⟩

/-! ## The order of a PASS START -/

/-- What the payload of a PASS START holds, where its codes are known (R191). -/
structure PassOrder.Reads (o : PassOrder) (bs : List Byte) : Prop where
  number : o.number = fieldU 0 2 bs
  heads : ∀ h, o.heads.has h = true ↔ fieldU 2 1 bs = 3 ∨ fieldU 2 1 bs = h.code + 1
  both : o.heads = .both ↔ fieldU 2 1 bs = 3
  mode : o.mode = .given ↔ fieldU 3 1 bs = 0
  linked : o.linked = true ↔ fieldU 4 1 bs = 1
  datum : o.datum = fieldS 6 4 bs

theorem readPassOrder_known {bs : List Byte} (hh : 1 ≤ fieldU 2 1 bs ∧ fieldU 2 1 bs ≤ 3) (hm : fieldU 3 1 bs ≤ 1)
    (hl : fieldU 4 1 bs ≤ 1) : ∃ o, readPassOrder bs = some o ∧ o.Reads bs := by
  have heads : ∃ hs, hs ≠ .none ∧ headSetOfCode (fieldU 2 1 bs) = some hs ∧
      (∀ h, hs.has h = true ↔ fieldU 2 1 bs = 3 ∨ fieldU 2 1 bs = h.code + 1) ∧ (hs = .both ↔ fieldU 2 1 bs = 3) := by
    generalize fieldU 2 1 bs = n at hh
    obtain rfl | rfl | rfl : n = 1 ∨ n = 2 ∨ n = 3 := by omega
    · exact ⟨.a, by decide, rfl, fun h => by cases h <;> decide, by decide⟩
    · exact ⟨.b, by decide, rfl, fun h => by cases h <;> decide, by decide⟩
    · exact ⟨.both, by decide, rfl, fun h => by cases h <;> decide, by decide⟩
  have mode : ∃ m, datumModeOfCode (fieldU 3 1 bs) = some m ∧ (m = .given ↔ fieldU 3 1 bs = 0) := by
    generalize fieldU 3 1 bs = n at hm
    obtain rfl | rfl : n = 0 ∨ n = 1 := by omega
    · exact ⟨.given, rfl, by decide⟩
    · exact ⟨.mark, rfl, by decide⟩
  have linked : ∃ l, linkedOfCode (fieldU 4 1 bs) = some l ∧ (l = true ↔ fieldU 4 1 bs = 1) := by
    generalize fieldU 4 1 bs = n at hl
    obtain rfl | rfl : n = 0 ∨ n = 1 := by omega
    · exact ⟨false, rfl, by decide⟩
    · exact ⟨true, rfl, by decide⟩
  obtain ⟨hs, hn, e1, h1, h1'⟩ := heads
  obtain ⟨m, e2, h2⟩ := mode
  obtain ⟨l, e3, h3⟩ := linked
  refine ⟨⟨fieldU 0 2 bs, hs, m, l, fieldS 6 4 bs⟩, ?_, rfl, h1, h1', h2, h3, rfl⟩
  rw [readPassOrder, e1, e2, e3]
  cases hs <;> simp at hn ⊢

theorem headSetOfCode_le {n : Nat} {hs : HeadSet} (h : headSetOfCode n = some hs) (hn : hs ≠ .none) :
    1 ≤ n ∧ n ≤ 3 := by
  unfold headSetOfCode at h
  split at h <;> simp at h ⊢
  exact hn h.symm

theorem datumModeOfCode_le {n : Nat} {m : DatumMode} (h : datumModeOfCode n = some m) : n ≤ 1 := by
  unfold datumModeOfCode at h
  split at h <;> simp at h ⊢

theorem linkedOfCode_le {n : Nat} {l : Bool} (h : linkedOfCode n = some l) : n ≤ 1 := by
  unfold linkedOfCode at h
  split at h <;> simp at h ⊢

theorem readPassOrder_unknown {bs : List Byte}
    (h : ¬ (1 ≤ fieldU 2 1 bs ∧ fieldU 2 1 bs ≤ 3 ∧ fieldU 3 1 bs ≤ 1 ∧ fieldU 4 1 bs ≤ 1)) :
    readPassOrder bs = none := by
  unfold readPassOrder
  split
  next => rfl
  next hs m l hn e1 e2 e3 =>
    obtain ⟨h1, h2⟩ := headSetOfCode_le e1 hn
    exact absurd ⟨h1, h2, datumModeOfCode_le e2, linkedOfCode_le e3⟩ h
  next => rfl

/-! ## The pass that a PASS START begins -/

theorem State.startsWithStart_iff (s : State) (h : HeadId) : s.startsWithStart h = true ↔
    ∃ st rpm force depth rest, (s.head h).seq.queue = .start st rpm force depth :: rest := by
  unfold State.startsWithStart
  cases e : (s.head h).seq.queue with
  | nil => simp
  | cons g rest => cases g <;> simp

/-- The heads a PASS START names, as the pass record holds them. -/
theorem State.startPass_plungeX {s : State} {o : PassOrder} {h : HeadId} {st rpm force depth : Int}
    {rest : List Segment} (hn : o.heads.has h = true) (hq : (s.head h).seq.queue = .start st rpm force depth :: rest) :
    (s.startPass o).plungeX h = some (o.record.x0 + st - (s.head h).profile.trim.xOffset) ∧
      (s.headsStarted o).plungeX h = some (o.record.x0 + st - (s.head h).profile.trim.xOffset) := by
  have e := State.headsStarted_named hn hq
  have p : (s.headsStarted o).pass = o.record := by rw [State.headsStarted_frame]
  have x0 : (s.startPass o).pass.x0 = o.record.x0 := by rw [State.startPass_record]
  constructor
  · simp only [State.plungeX, State.xOfStation, State.startPass_head, e, x0]
    simp [Head.started, Head.trimmed, Head.unfired, Sequencer.executingRecord, hq]
  · simp only [State.plungeX, State.xOfStation, e, p]
    simp [Head.started, Sequencer.executingRecord, hq]

/-- The approach X of a GIVEN pass is the least plunge X of its heads (R5). -/
theorem State.startPass_approachX {s : State} {o : PassOrder} (hm : o.mode = .given) (hne : o.heads ≠ .none)
    (hs : ∀ h, o.heads.has h = true → s.startsWithStart h = true) :
    (∃ h, o.heads.has h = true ∧ (s.startPass o).plungeX h = some (s.startPass o).pass.approachX) ∧
      ∀ h x, o.heads.has h = true → (s.startPass o).plungeX h = some x → (s.startPass o).pass.approachX ≤ x := by
  have same : ∀ h, o.heads.has h = true →
      ∃ x, (s.startPass o).plungeX h = some x ∧ (s.headsStarted o).plungeX h = some x := by
    intro h hh
    obtain ⟨_, _, _, _, _, e⟩ := (s.startsWithStart_iff h).1 (hs h hh)
    exact ⟨_, State.startPass_plungeX hh e⟩
  have p : (s.headsStarted o).pass = o.record := by rw [State.headsStarted_frame]
  have nonempty : (o.heads.members.filterMap (s.headsStarted o).plungeX) ≠ [] := by
    obtain ⟨h, hh⟩ : ∃ h, o.heads.has h = true := by
      cases e : o.heads with
      | none => exact absurd e hne
      | a => exact ⟨.a, rfl⟩
      | b => exact ⟨.b, rfl⟩
      | both => exact ⟨.a, rfl⟩
    obtain ⟨x, -, e⟩ := same h hh
    exact List.ne_nil_of_mem (List.mem_filterMap.2 ⟨h, (HeadSet.mem_members _ h).2 hh, e⟩)
  obtain ⟨m, hleast⟩ := least_isSome nonempty
  have approach : (s.startPass o).pass.approachX = m := by
    rw [State.startPass_pass, State.setApproach, p]
    simp only [PassOrder.record, hm, hleast]
  obtain ⟨hmem, hle⟩ := least_eq_some hleast
  rw [approach]
  refine ⟨?_, fun h x hh e => ?_⟩
  · obtain ⟨h, hh, e⟩ := List.mem_filterMap.1 hmem
    have hh' := (HeadSet.mem_members _ h).1 hh
    obtain ⟨y, e1, e2⟩ := same h hh'
    exact ⟨h, hh', e1.trans (e2.symm.trans e)⟩
  · obtain ⟨y, e1, e2⟩ := same h hh
    exact hle x (List.mem_filterMap.2 ⟨h, (HeadSet.mem_members _ h).2 hh, e2.trans (e1.symm.trans e)⟩)

/-- What PASS START changes beside the pass record, the heads and the events (R68, R122, R126). -/
theorem State.startPass_frame (s : State) (o : PassOrder) : s.startPass o = { s with
    pass := (s.startPass o).pass, headA := (s.startPass o).headA, headB := (s.startPass o).headB
    planner := { s.planner with commandedX := s.planner.measuredX * 1000, lag := 0 }
    guards := s.guards.map fun g => if g.action.latches && true then { g with tripped := false, window := [] } else g
    gantryFired := .clear, events := (s.startPass o).events } := by
  have approach : ∀ t : State, t.setApproach = { t with pass := t.setApproach.pass } := by
    intro t
    unfold State.setApproach
    split <;> rfl
  rw [State.startPass_eq, approach, State.headsStarted_frame]
  rfl

/-- A head whose START has no successor raises QUEUE_LOW as PASS START begins its pass (R36). -/
theorem State.startPass_queueLow {s : State} {o : PassOrder} {h : HeadId} {st rpm force depth : Int}
    (hn : o.heads.has h = true) (hq : (s.head h).seq.queue = [.start st rpm force depth])
    (he : s.events.enables .queueLow = true) : ∃ e ∈ (s.startPass o).events.entries, e.kind = .queueLow := by
  have rest : Worked (s.headsStarted o) (s.startPass o) := by
    rw [State.startPass_eq]
    exact (((((s.headsStarted o).setApproach_worked.trans (State.reseed_worked _)).trans
      ((Worked.modTrim ..).trans (Worked.modTrim ..))).trans (State.clearLatched_worked ..)).trans
      (State.clearFired_worked _))
  have a := State.startHead_oneHead ({ s with pass := o.record } : State) .a
  cases h with
  | a =>
    have raised := State.startHead_named (s := { s with pass := o.record }) (h := .a) hn hq
    rw [if_pos rfl] at raised
    have w : Worked (({ s with pass := o.record } : State).startHead .a) (s.startPass o) :=
      (State.startHead_worked _ .b).trans rest
    rw [raised] at w
    exact State.raised_kind w (by simpa using he)
  | b =>
    have hq' : ((({ s with pass := o.record } : State).startHead .a).head .b).seq.queue = [.start st rpm force depth] := by
      rw [show ((({ s with pass := o.record } : State).startHead .a).head .b) = s.head .b from a.other]
      exact hq
    have raised := State.startHead_named ((a.isPassHead .b).trans hn) hq'
    rw [if_pos rfl] at raised
    have w := rest
    unfold State.headsStarted at w
    rw [raised] at w
    refine State.raised_kind w ?_
    rw [State.modHead_events, (State.startHead_worked _ .a).enables]
    exact he

end Sys2Proof.Machine

namespace Sys2Proof.WeldPass

open Sys2Proof.Machine Sys2Proof.Safety

/-- Settles O35: the six checks in order, and the pass, the heads, the planner and the guards that PASS START fills. -/
theorem passStartFillsThePass : Obligations.PassStartFillsThePass := by
  intro r s hs hl heads mode datum named known present ready answers
  have run : ∀ a, answerPassStart s r = a →
      exec (.passStart r) s = .next (replied a.state .passStart r a.reply.code a.reply.data) := by
    rintro a rfl
    exact exec_replied (k := .passStart) (r := r) rfl hs (by simp [RequestKind.lengthOk, hl]) rfl
  refine ⟨fun hn => ?_, fun hm ha hst => ?_⟩
  · refine run (s.refuse .state) ?_
    unfold answerPassStart
    rcases hn with h | h | h
    · rw [if_pos h]
    · simp [h]
    · simp [h]
  have past : ∀ o, readPassOrder r.payload = some o → answerPassStart s r =
      if !(o.heads.members.all fun h => s.gantry.present.has h) then s.refuse .value
      else
        ((o.heads.members.find? fun h => !s.startsWithStart h).map fun h => s.refuseWith .state (.number h.code)).getD
          ((s.startPass o).done .empty) := by
    intro o e
    unfold answerPassStart
    rw [if_neg (not_not.2 hm), if_neg (by simp [ha]), if_neg (by simp [hst]), e]
    dsimp only
    cases o.heads.members.find? fun h => !s.startsWithStart h <;> rfl
  have knows : known → ∃ o, readPassOrder r.payload = some o ∧ o.Reads r.payload := fun ⟨h1, h2, h3, h4⟩ =>
    readPassOrder_known ⟨h1, h2⟩ h3 h4
  have allPresent : ∀ o : PassOrder, o.Reads r.payload →
      ((o.heads.members.all fun h => s.gantry.present.has h) = true ↔ present) := by
    intro o ho
    simp only [List.all_eq_true, HeadSet.mem_members, ho.heads, present]
    exact Iff.rfl
  refine ⟨fun hn => ?_, fun hk hpr hna hra => ?_, fun hk hpr hnb hrb hra => ?_, fun hk hpr hr => ?_⟩
  · refine run (s.refuse .value) ?_
    by_cases hk : known
    · obtain ⟨o, e, ho⟩ := knows hk
      rw [past o e, if_pos]
      simpa using mt (allPresent o ho).1 fun e => hn ⟨hk, e⟩
    · unfold answerPassStart
      rw [if_neg (not_not.2 hm), if_neg (by simp [ha]), if_neg (by simp [hst]), readPassOrder_unknown hk]
  · obtain ⟨o, e, ho⟩ := knows hk
    refine run (s.refuseWith .state (.number 0)) ?_
    rw [past o e, if_neg (by simpa using (allPresent o ho).2 hpr)]
    have : o.heads.members.find? (fun h => !s.startsWithStart h) = some .a := by
      have hb : s.startsWithStart .a = false := by simpa using mt (s.startsWithStart_iff .a).1 hra
      have hha := (ho.heads .a).2 hna
      cases e : o.heads <;> rw [e] at hha <;> simp [HeadSet.has, HeadSet.members, hb] at hha ⊢
    rw [this]
    rfl
  · obtain ⟨o, e, ho⟩ := knows hk
    refine run (s.refuseWith .state (.number 1)) ?_
    rw [past o e, if_neg (by simpa using (allPresent o ho).2 hpr)]
    have : o.heads.members.find? (fun h => !s.startsWithStart h) = some .b := by
      have hb : s.startsWithStart .b = false := by simpa using mt (s.startsWithStart_iff .b).1 hrb
      have ha : o.heads.has .a = true → s.startsWithStart .a = true := fun h =>
        (s.startsWithStart_iff .a).2 (hra ((ho.heads .a).1 h))
      have hhb := (ho.heads .b).2 hnb
      cases e : o.heads <;> rw [e] at hhb ha <;> simp [HeadSet.has, HeadSet.members, hb] at hhb ha ⊢
      exact ha
    rw [this]
    rfl
  · obtain ⟨o, e, ho⟩ := knows hk
    have hs' : ∀ h, o.heads.has h = true → s.startsWithStart h = true := fun h hh =>
      (s.startsWithStart_iff h).2 (hr h ((ho.heads h).1 hh))
    have hne : o.heads ≠ .none := by
      intro e
      have h1 := ho.heads .a
      have h2 := ho.heads .b
      rw [e] at h1 h2
      simp [HeadSet.has, HeadSet.members, HeadId.code] at h1 h2
      have := hk.1
      have := hk.2.1
      simp only [heads] at *
      omega
    have record := s.startPass_record o
    have given : o.mode = .given ↔ mode = 0 := ho.mode
    refine ⟨s.startPass o, run ((s.startPass o).done .empty) ?_, ?_, fun h => ?_, ?_, ?_, ?_, ?_, ?_, ?_, ?_, fun hm => ?_,
      fun hm => ?_, ?_, ?_, ?_, ?_, ?_, ?_⟩
    · rw [past o e, if_neg (by simpa using (allPresent o ho).2 hpr), List.find?_eq_none.2 ?_]
      · rfl
      · intro h hh
        simpa using hs' h ((HeadSet.mem_members _ h).1 hh)
    · rw [record]; exact ho.number
    · rw [record]; exact ho.heads h
    · rw [record]; exact ho.mode
    · rw [record]; rfl
    · rw [record]; rfl
    · rw [record]; rfl
    · rw [record]
      exact decide_eq_decide.2 given
    · rw [record]
      dsimp only [PassOrder.record]
      by_cases hg : o.mode = .given
      · rw [if_pos (given.1 hg), hg]
        exact ho.datum
      · have hmk : o.mode = .mark := by
          cases e : o.mode <;> simp_all
        rw [if_neg (mt given.2 hg), hmk]
    · rw [record]
      dsimp only [PassOrder.record]
      rw [Bool.eq_iff_iff]
      simp only [Bool.and_eq_true, decide_eq_true_eq, ho.both, ho.linked]
      exact and_comm
    · have hmk : o.mode = .mark := by
        cases e : o.mode with
        | mark => rfl
        | given =>
          have := given.1 e
          omega
      have hp : (s.headsStarted o).pass = o.record := by rw [State.headsStarted_frame]
      rw [State.startPass_pass, State.setApproach, hp]
      simp only [PassOrder.record, hmk]
      rw [hp]
      simp only [PassOrder.record, hmk]
      exact ho.datum
    · have := State.startPass_approachX (given.2 hm) hne hs'
      simpa only [ho.heads] using this
    · intro h st rpm force depth rest hn hq
      refine ⟨?_, ?_⟩
      · rw [State.startPass_head, State.headsStarted_named ((ho.heads h).2 hn) hq]
        rfl
      · rintro rfl
        exact State.startPass_queueLow ((ho.heads h).2 hn) hq
    · intro h hn
      rw [State.startPass_head, State.headsStarted_unnamed (by simpa using mt (ho.heads h).1 hn)]
      rfl
    · intro h
      rw [State.startPass_head]
      by_cases hn : named h
      · obtain ⟨_, _, _, _, _, hq⟩ := hr h hn
        rw [State.headsStarted_named ((ho.heads h).2 hn) hq]
        exact ⟨rfl, rfl, rfl, rfl, rfl⟩
      · rw [State.headsStarted_unnamed (by simpa using mt (ho.heads h).1 hn)]
        exact ⟨rfl, rfl, rfl, rfl, rfl⟩
    · rw [s.startPass_frame o]
    · rw [s.startPass_frame o]
      simp only [Bool.and_true]
    · rw [s.startPass_frame o]

end Sys2Proof.WeldPass
end

section
/-! SUPPORT. The guard unit. -/

namespace Sys2Proof.Machine

open Sys2Proof.Safety

/-! ## Trips -/

theorem State.judgedValue_eq_some {s : State} {g : GuardRecord} {v : Int} : s.judgedValue g = some v ↔
    s.armed g = true ∧ g.forms = true ∧ s.channelValue g = some v := by
  unfold State.judgedValue
  split
  next h =>
    rw [Bool.and_eq_true] at h
    simp [h]
  next h =>
    rw [Bool.and_eq_true] at h
    constructor
    · simp
    · rintro ⟨h1, h2, -⟩
      exact absurd ⟨h1, h2⟩ h

theorem State.judgeGuard_of_value {s : State} {g : GuardRecord} {v : Int} (h : s.judgedValue g = some v) :
    s.judgeGuard g = g.judge v := by
  rw [State.judgeGuard, h]

theorem State.judgeGuard_of_none {s : State} {g : GuardRecord} (h : s.judgedValue g = none) : s.judgeGuard g = g := by
  rw [State.judgeGuard, h]

/-- A guard record trips on a set where it has not tripped and its judgement trips it (R119 to R121). -/
theorem State.guardTrip_eq_some {s : State} {i : Nat} {g : GuardRecord} {c : Cause} : s.guardTrip i g = some c ↔
    ∃ v, c = .guard i v ∧ g.tripped = false ∧ s.armed g = true ∧ s.channelValue g = some v ∧
      (s.judgeGuard g).tripped = true := by
  constructor
  · intro h
    unfold State.guardTrip at h
    split at h
    next v e =>
      obtain ⟨h1, -, h2⟩ := State.judgedValue_eq_some.1 e
      split at h
      next ht =>
        simp only [Bool.and_eq_true, Bool.not_eq_true'] at ht
        exact ⟨v, (Option.some.inj h).symm, ht.1, h1, h2, by rw [State.judgeGuard_of_value e]; exact ht.2⟩
      next => cases h
    next => cases h
  · rintro ⟨v, rfl, hn, ha, hv, ht⟩
    have e : s.judgedValue g = some v := State.judgedValue_eq_some.2 ⟨ha, by simp [GuardRecord.forms, hn], hv⟩
    rw [State.judgeGuard_of_value e] at ht
    simp [State.guardTrip, e, hn, ht]

theorem State.mem_guardTripsFrom {s : State} {c : Cause} {gs : List GuardRecord} {k : Nat} :
    c ∈ s.guardTripsFrom k gs ↔ ∃ i g, gs[i]? = some g ∧ s.guardTrip (k + i) g = some c := by
  induction gs generalizing k with
  | nil => simp [State.guardTripsFrom]
  | cons g gs ih =>
    have split : (∃ i g', (g :: gs)[i]? = some g' ∧ s.guardTrip (k + i) g' = some c) ↔
        s.guardTrip k g = some c ∨ ∃ i g', gs[i]? = some g' ∧ s.guardTrip (k + 1 + i) g' = some c := by
      constructor
      · rintro ⟨i, g', h1, h2⟩
        cases i with
        | zero =>
          cases h1
          exact .inl h2
        | succ i => exact .inr ⟨i, g', h1, by rwa [show k + 1 + i = k + (i + 1) by omega]⟩
      · rintro (h | ⟨i, g', h1, h2⟩)
        · exact ⟨0, g, rfl, h⟩
        · exact ⟨i + 1, g', h1, by rwa [show k + (i + 1) = k + 1 + i by omega]⟩
    rw [split, ← ih, State.guardTripsFrom]
    cases e : s.guardTrip k g with
    | none => simp
    | some d =>
      simp only [List.mem_cons, Option.some.injEq]
      exact or_congr_left eq_comm

/-! ## Causes found together -/

theorem State.insertCause_perm (s : State) (c : Cause) (l : List Cause) : (s.insertCause c l).Perm (c :: l) := by
  induction l with
  | nil => exact .refl _
  | cons d l ih =>
    unfold State.insertCause
    split
    · exact .refl _
    · exact (ih.cons d).trans (.swap ..)

/-- Causes found together are taken in an order of their own (R124). -/
theorem State.orderCauses_perm (s : State) (l : List Cause) : (s.orderCauses l).Perm l := by
  induction l with
  | nil => exact .refl _
  | cons c l ih => exact (s.insertCause_perm c _).trans (ih.cons c)

/-- Each of the causes found together is taken in a state that the others before it have worked, and the rest follow it. -/
theorem State.takeCauses_of_mem {s : State} {l : List Cause} {c : Cause} (h : c ∈ l) :
    ∃ u, Worked s u ∧ Worked (u.takeCause c) (s.takeCauses l) := by
  obtain ⟨l₁, l₂, e⟩ := List.append_of_mem ((s.orderCauses_perm l).mem_iff.2 h)
  refine ⟨l₁.foldl State.takeCause s, .foldl State.takeCause_worked l₁ s, ?_⟩
  rw [State.takeCauses, e, List.foldl_append, List.foldl_cons]
  exact (Worked.foldl State.takeCause_worked l₂ _).trans (State.testPassEnd_worked _)

/-! ## EXIT orders of a gantry guard -/

/-- A head that takes no further EXIT order (R20). -/
def Head.refusesExit (x : Head) : Prop :=
  x.seq.state.working = false ∨ x.seq.state = .withdraw ∨ x.seq.order ≠ .none

/-- An EXIT order is taken once (R20). -/
theorem State.exitOrder_refuses (s : State) (h : HeadId) (k : ExitKind) : ((s.exitOrder h k).head h).refusesExit := by
  by_cases hn : (s.head h).refusesExit
  · rw [State.exitOrder_refused k hn]
    exact hn
  · obtain ⟨hw, hn⟩ := not_or.1 hn
    obtain ⟨hn, ho⟩ := not_or.1 hn
    have ho : (s.head h).seq.order = .none := not_not.1 ho
    refine .inr (.inr ?_)
    cases e : (s.head h).seq.state <;> simp [e, HeadState.working] at hw hn
    case waiting => simp [State.exitOrder_stops k (.inl e) ho, Head.stopped, Head.ordered]
    case spinup => simp [State.exitOrder_stops k (.inr e) ho, Head.stopped, Head.ordered]
    case plunge => simp [State.exitOrder_retracts k (.inl e) ho, Head.exiting, Head.ordered]
    case dwell => simp [State.exitOrder_retracts k (.inr e) ho, Head.exiting, Head.ordered]
    case traverse =>
      rw [State.exitOrder_leavesTraverse k e ho]
      cases k <;> simp [Head.exiting, Head.carrying, Head.ordered]
    case exit => simp [State.exitOrder_carriesOn k (.inl e) ho, Head.ordered]
    case spindown => simp [State.exitOrder_carriesOn k (.inr e) ho, Head.ordered]

/-- An order that is carried to a head which takes none changes nothing (R21). -/
theorem State.carryExit_refused {s : State} {h : HeadId}
    (hr : s.isPassHead h.other = true → (s.head h.other).refusesExit) : s.carryExit h = s := by
  unfold State.carryExit
  split
  next e => exact State.exitOrder_refused _ (hr (Bool.and_eq_true_iff.1 e).2)
  next => rfl

/-- The EXIT orders of a gantry guard reach each pass head with its own exit kind, and none is carried (R123). -/
theorem State.exitEach_eq (s : State) : s.exitEach = if s.active = true then
    s.pass.heads.members.foldl (fun t h => t.exitOrder h (s.head h).profile.limits.faultExit) s else s := by
  refine ite_congr rfl (fun _ => ?_) fun _ => rfl
  dsimp only
  have hb : (s.exitOrder .a (s.head .a).profile.limits.faultExit).head .b = s.head .b := s.exitOrder_other .a _
  have single : ∀ h k, s.pass.heads.has h.other = false → (s.exitOrder h k).carryExit h = s.exitOrder h k := by
    intro h k hn
    refine State.carryExit_refused fun e => ?_
    rw [State.isPassHead, State.exitOrder_pass, hn] at e
    cases e
  cases e : s.pass.heads with
  | none => rfl
  | a => exact single .a _ (by rw [e]; rfl)
  | b => exact single .b _ (by rw [e]; rfl)
  | both =>
    simp only [HeadSet.members, List.foldl_cons, List.foldl_nil, hb]
    generalize (s.head .a).profile.limits.faultExit = ka
    generalize (s.head .b).profile.limits.faultExit = kb
    have ra : (((s.exitOrder .a ka).exitOrder .b kb).head .a).refusesExit := by
      rw [show ((s.exitOrder .a ka).exitOrder .b kb).head .a = (s.exitOrder .a ka).head .a from
        (s.exitOrder .a ka).exitOrder_other .b kb]
      exact s.exitOrder_refuses .a ka
    have rb : (((s.exitOrder .a ka).exitOrder .b kb).head .b).refusesExit := State.exitOrder_refuses ..
    rw [State.carryExit_refused (h := .a) fun _ => rb, State.carryExit_refused (h := .b) fun _ => ra]

/-- What the orders of a guard record that has tripped do (R123). -/
theorem State.takeCause_guard {s : State} {i : Nat} {g : GuardRecord} (v : Int) (h : s.guards[i]? = some g) :
    s.takeCause (.guard i v) = (s.raise .guardTrip (packDetail i g.action.code)).guardOrder g v := by
  simp only [State.takeCause, State.setFired, State.takeGuardTrip, h]

/-! ## The demands formed again -/

theorem Head.phaseKey_eq_iff (x y : Head) : x.phaseKey = y.phaseKey ↔
    x.seq.state = y.seq.state ∧ x.exitPhase = y.exitPhase := by
  simp [Head.phaseKey]

theorem State.reformDemand_of_moved {s before : State} {h : HeadId} (accepted : Bool)
    (hn : ¬ ((s.head h).seq.state = (before.head h).seq.state ∧ (s.head h).exitPhase = (before.head h).exitPhase)) :
    s.reformDemand accepted before h = s.formRamp accepted h := by
  rw [State.reformDemand, if_neg (mt (Head.phaseKey_eq_iff _ _).1 hn)]

theorem State.formRamp_brake {s : State} {h : HeadId} (accepted : Bool) (he : (s.head h).exitPhase = some .brake) :
    s.formRamp accepted h = if s.brakeEndDue h then (s.brakeEnd h).retractStep h else s := by
  obtain ⟨hs, hp⟩ := Head.exitPhase_iff.1 he
  simp only [State.formRamp, hs, hp]

theorem State.formRamp_retract {s : State} {h : HeadId} (accepted : Bool) (he : (s.head h).exitPhase = some .retract) :
    s.formRamp accepted h = s.retractStep h := by
  obtain ⟨hs, hp⟩ := Head.exitPhase_iff.1 he
  simp only [State.formRamp, hs, hp]

theorem State.formRamp_runout {s : State} {h : HeadId} (accepted : Bool) (he : (s.head h).exitPhase = some .runout) :
    s.formRamp accepted h = if accepted then s.workRunout h else s.setDemand h (s.prevDemand h) := by
  obtain ⟨hs, hp⟩ := Head.exitPhase_iff.1 he
  simp only [State.formRamp, hs, hp]

theorem State.formRamp_rising {s : State} {h : HeadId} (accepted : Bool) (hs : (s.head h).seq.state = .withdraw)
    (hw : (s.head h).reg.withdraw = .rising) : s.formRamp accepted h = s.withdrawStep h := by
  simp only [State.formRamp, hs, hw]

theorem State.formRamp_parked {s : State} {h : HeadId} (accepted : Bool) (hs : (s.head h).seq.state.parked = true) :
    s.formRamp accepted h = s.setDemand h (s.head h).profile.depth.clear := by
  cases e : (s.head h).seq.state <;> rw [e] at hs <;> simp [HeadState.parked] at hs <;> simp only [State.formRamp, e]

/-- One retract step of a head with its exit record (R88). -/
theorem State.retractStep_eq {s : State} {h : HeadId} {e : ExitRecord} (he : (s.head h).reg.exitRecord = some e) :
    s.retractStep h = s.modReg h fun r => { r with
      demand := max (s.prevDemand h - e.rate) (s.head h).profile.depth.clear } := by
  simp only [State.retractStep, State.setDemand, Head.retractRate, he]

/-- The RUNOUT phase with its exit record, and its end (R87). -/
theorem State.workRunout_eq {s : State} {h : HeadId} {e : ExitRecord} (he : (s.head h).reg.exitRecord = some e)
    (hr : (s.head h).exitPhase = some .runout) :
    let v := e.runOutDemand (s.head h).seq.station (s.prevDemand h)
    let formed := s.modReg h fun r => { r with demand := v }
    s.workRunout h = if v ≤ 0 ∨ e.runOut = 0 ∨ s.planner.xMode = .quickstop then
        formed.modProgress h fun p => { p with exitPhase := some .retract }
      else formed := by
  intro v formed
  have hf : formed.head h = { s.head h with reg := { (s.head h).reg with demand := v } } := by
    simp only [formed, State.modReg_eq, State.modHead_head]
  have due : formed.runoutEndDue h = true ↔ v ≤ 0 ∨ e.runOut = 0 ∨ s.planner.xMode = .quickstop := by
    have hp : (formed.head h).exitPhase = some .runout := by rw [hf]; exact hr
    have hl : (formed.head h).runOutLength = e.runOut := by rw [hf]; simp only [Head.runOutLength, he]
    have hm : formed.planner = s.planner := by simp [formed, State.modReg_eq]
    have hv : (formed.head h).reg.demand = v := by rw [hf]
    simp only [State.runoutEndDue, hp, hl, hm, hv, decide_true, Bool.true_and, Bool.or_eq_true, decide_eq_true_eq,
      or_assoc]
  have works : s.workRunout h = formed.runoutEnd h := by
    simp only [State.workRunout, he]
    rfl
  rw [works]
  exact ite_congr (propext due) (fun _ => rfl) fun _ => rfl

/-- One withdraw step, and SPINSTOP where it reaches the clear height (R90). -/
theorem State.withdrawStep_eq {s : State} {h : HeadId} (hs : (s.head h).seq.state = .withdraw)
    (hw : (s.head h).reg.withdraw = .rising) :
    let v := max (s.prevDemand h - (s.head h).profile.depth.withdrawRate) (s.head h).profile.depth.clear
    s.withdrawStep h = if v = (s.head h).profile.depth.clear then s.modHead h fun x => { x with
          reg := { x.reg with demand := v, withdraw := .spinstop }
          trim := { x.trim with spindle := 0 } }
        else s.modReg h fun r => { r with demand := v } := by
  intro v
  have due : (s.setDemand h v).spinstopDue h = true ↔ v = (s.head h).profile.depth.clear := by
    simp [State.spinstopDue, State.setDemand_eq, hs, hw]
  have works : s.withdrawStep h = (s.setDemand h v).enterSpinstop h := rfl
  rw [works, State.enterSpinstop]
  refine ite_congr (propext due) (fun _ => ?_) fun _ => rfl
  rw [State.setDemand_eq, State.modHead_modHead]

/-! ## Judging a guard record -/

/-- A judged record differs in its window, its trip and its trip count (R120 to R122). -/
theorem GuardRecord.judge_eq (g : GuardRecord) (v : Int) : g.judge v = { g with
    window := g.filter.join g.window (g.result v)
    tripped := g.filter.holds (g.filter.join g.window (g.result v))
    trips := if g.tripped = false ∧ g.filter.holds (g.filter.join g.window (g.result v)) = true then
      min (g.trips + 1) 255 else g.trips } := by
  unfold GuardRecord.judge
  dsimp only
  cases hh : g.filter.holds (g.filter.join g.window (g.result v)) with
  | false => simp
  | true =>
    cases ht : g.tripped with
    | false => simp [countUp_eq_min]
    | true => simp

/-- The newest entry of a window, with the oldest leaving a full one (R120). -/
theorem Filter.join_of_lt {f : Filter} {w : List Bool} (b : Bool) (h : w.length < f.length) : f.join w b = w ++ [b] := by
  rw [Filter.join]
  simp only [List.length_append, List.length_singleton]
  rw [show w.length + 1 - f.length = 0 by omega, List.drop_zero]

theorem Filter.join_of_full {f : Filter} {w : List Bool} (b : Bool) (h : w.length = f.length) :
    f.join w b = w.tail ++ [b] := by
  rw [Filter.join]
  simp only [List.length_append, List.length_singleton]
  rw [show w.length + 1 - f.length = 1 by omega]
  cases w with
  | nil =>
    cases f <;> simp [Filter.length] at h
  | cons x xs => simp

/-- A guard record that trips on a set raises GUARD_TRIP (R121). -/
theorem State.workGuards_raises {s : State} {cs : List Cause} {i : Nat} {v : Int} (hm : .guard i v ∈ cs)
    (hi : i < s.guards.length) (he : s.events.enables .guardTrip = true) {t : State} (w : Worked (s.takeCauses cs) t) :
    ∃ e ∈ t.events.entries, e.kind = .guardTrip := by
  obtain ⟨u, w₁, w₂⟩ := State.takeCauses_of_mem hm
  have hlen : u.guards.length = s.guards.length := by simpa using congrArg List.length w₁.guards
  obtain ⟨g, hg⟩ : ∃ g, u.guards[i]? = some g := ⟨_, List.getElem?_eq_getElem (by rw [hlen]; exact hi)⟩
  rw [State.takeCause_guard v hg] at w₂
  exact State.raised_kind (((State.guardOrder_worked _ g v).trans w₂).trans w) ((w₁.enables _).trans he)

end Sys2Proof.Machine

namespace Sys2Proof.WeldPass

open Sys2Proof.Machine Sys2Proof.Safety

/-- Settles O54: the trips of a judgement, their orders, the work of the guard unit on a set, and the demands formed
again. -/
theorem guardFiltersTrip : Obligations.GuardFiltersTrip := by
  refine ⟨fun s c => ?_, fun s i g v hg => ?_, fun s accepted => ?_, fun s before accepted h => ?_, fun s g => ?_⟩
  · rw [State.mem_guardTripsFrom]
    simp only [Nat.zero_add, State.guardTrip_eq_some]
    constructor
    · rintro ⟨i, g, hg, v, rfl, h⟩
      exact ⟨i, g, v, rfl, hg, h⟩
    · rintro ⟨i, g, v, rfl, hg, h⟩
      exact ⟨i, g, hg, v, rfl, h⟩
  · intro raised fault
    rw [State.takeCause_guard v hg]
    cases ha : g.action <;> cases ho : g.owner <;>
      simp only [State.guardOrder, ha, ho, raised, fault, State.faultOf_head, State.faultOf_gantry, State.exitEach_eq,
        State.raise_head, State.raise_planner, State.raise_pass, State.raise_active, State.takeFault_head,
        State.takeFault_pass, State.takeFault_active, Action.code]
  · intro disarmed trips judged ordered
    refine ⟨?_, fun he ht => ?_⟩
    · cases accepted <;> rfl
    · obtain ⟨c, hc⟩ := List.exists_mem_of_ne_nil _ ht
      cases accepted with
      | false => exact absurd hc List.not_mem_nil
      | true =>
        obtain ⟨i, g, hg, hi⟩ := State.mem_guardTripsFrom.1 (show c ∈ disarmed.guardTripsFrom 0 disarmed.guards from hc)
        obtain ⟨v, rfl, -⟩ := State.guardTrip_eq_some.1 hi
        rw [Nat.zero_add] at hc
        refine State.workGuards_raises (s := judged) (List.mem_append_left _ (List.mem_append_left _ hc)) ?_ he
          ((((State.reformDemand_worked ..).trans (State.reformDemand_worked ..)).trans
            (State.disarmGuards_worked _)).trans (State.dropFired_worked _))
        have : judged.guards.length = disarmed.guards.length := by simp [judged]
        rw [this]
        exact (List.getElem?_eq_some_iff.1 hg).1
  · intro x d clear u formed stands
    have moved : ¬ stands → u = s.formRamp accepted h := fun hn => State.reformDemand_of_moved accepted hn
    refine ⟨fun hs => ?_, fun hn hb hx => ?_, fun e hn he => ⟨fun hb hx => ?_, fun hr => ?_,
      fun start depth hr ha hst hd hl => ?_⟩, fun hn hr ha => ?_, fun hn hw hr => ?_, fun hn hp => ?_⟩
    · simp only [u]
      rw [State.reformDemand, if_pos ((Head.phaseKey_eq_iff _ _).2 hs)]
    · rw [moved hn, State.formRamp_brake accepted hb, if_neg]
      simp [State.brakeEndDue, hx]
    · have due : s.brakeEndDue h = true := by simp [State.brakeEndDue, show (s.head h).exitPhase = _ from hb, hx]
      have he' : ((s.brakeEnd h).head h).reg.exitRecord = some e := by
        rw [State.brakeEnd, if_pos due, State.enterRetract, State.modProgress_eq, State.modHead_head]
        exact he
      rw [moved hn, State.formRamp_brake accepted hb, if_pos due, State.retractStep_eq he', State.brakeEnd, if_pos due]
      simp only [State.enterRetract, State.modProgress_eq, State.modReg_eq, State.modHead_modHead, State.modHead_head,
        State.modHead_prevDemand, formed]
      rfl
    · rw [moved hn, State.formRamp_retract accepted hr, State.retractStep_eq he]
    · intro left v
      have hv : e.runOutDemand (s.head h).seq.station (s.prevDemand h) = v := by
        simp only [ExitRecord.runOutDemand, hst, hd, limit_eq_max_min hl]
        rfl
      rw [moved hn, State.formRamp_runout accepted hr, if_pos ha, State.workRunout_eq he hr, hv]
    · rw [moved hn, State.formRamp_runout accepted hr, if_neg (by simp [ha])]
      rfl
    · rw [moved hn, State.formRamp_rising accepted hw hr, State.withdrawStep_eq hw hr]
    · rw [moved hn, State.formRamp_parked accepted hp]
      rfl
  · refine ⟨fun ⟨ht, ha⟩ => ?_, fun hn => ?_, fun v ht ha hv => ?_⟩
    · refine State.judgeGuard_of_none ?_
      rw [State.judgedValue, if_neg]
      rcases ha with e | e | e <;> simp [GuardRecord.forms, ht, e, Action.latches]
    · refine State.judgeGuard_of_none ?_
      rcases hn with e | e <;> simp [State.judgedValue, e]
    · intro result sizes u hlen
      have forms : g.forms = true := by
        cases e : g.tripped with
        | false => simp [GuardRecord.forms, e]
        | true => rcases ht e with e' | e' <;> simp [GuardRecord.forms, e', Action.latches]
      have hu : u = g.judge v := State.judgeGuard_of_value (State.judgedValue_eq_some.2 ⟨ha, forms, hv⟩)
      have hs : sizes = (g.filter.length, g.filter.needed) := by
        simp only [sizes]
        cases g.filter <;> rfl
      have hr : g.result v = true ↔ result := by
        simp only [result, GuardRecord.result]
        cases g.comparison <;> simp
      rw [hu, GuardRecord.judge_eq]
      rw [hs] at hlen ⊢
      refine ⟨_, g.result v, rfl, hr, Filter.join_of_lt _, Filter.join_of_full _, ?_, ?_, rfl⟩
      · simp [Filter.holds]
      · simp [Filter.holds]

end Sys2Proof.WeldPass
end

section
/-! SUPPORT. The fixed guards. -/

namespace Sys2Proof.Machine

open Sys2Proof.Safety

/-! ## The hold timer -/

/-- The ring port and the hold timer of a head stand. -/
structure KeepsTimer (h : HeadId) (s t : State) : Prop where
  ring : t.ring = s.ring
  timer : (t.head h).seq.holdTimer = (s.head h).seq.holdTimer

theorem KeepsTimer.refl (h : HeadId) (s : State) : KeepsTimer h s s := ⟨rfl, rfl⟩

theorem KeepsTimer.trans {h : HeadId} {s t u : State} (a : KeepsTimer h s t) (b : KeepsTimer h t u) :
    KeepsTimer h s u :=
  ⟨b.ring.trans a.ring, b.timer.trans a.timer⟩

theorem KeepsTimer.ite {h : HeadId} {s a b : State} {c : Prop} [Decidable c] (ha : c → KeepsTimer h s a)
    (hb : KeepsTimer h s b) : KeepsTimer h s (if c then a else b) := by
  split
  next e => exact ha e
  next => exact hb

theorem KeepsTimer.modHead (s : State) (h : HeadId) (f : Head → Head)
    (hf : (f (s.head h)).seq.holdTimer = (s.head h).seq.holdTimer) : KeepsTimer h s (s.modHead h f) :=
  ⟨s.modHead_ring h f, by rw [State.modHead_head, hf]⟩

theorem KeepsTimer.modSeq (s : State) (h : HeadId) (f : Sequencer → Sequencer)
    (hf : (f (s.head h).seq).holdTimer = (s.head h).seq.holdTimer) : KeepsTimer h s (s.modSeq h f) :=
  .modHead s h _ hf

theorem KeepsTimer.modProgress (s : State) (h : HeadId) (f : Progress → Progress) : KeepsTimer h s (s.modProgress h f) :=
  .modSeq s h _ rfl

theorem KeepsTimer.raise (h : HeadId) (s : State) (k : EventKind) (d : Nat) : KeepsTimer h s (s.raise k d) :=
  ⟨s.raise_ring k d, by rw [State.raise_head]⟩

theorem State.completeRecord_keepsTimer (s : State) (h : HeadId) : KeepsTimer h s (s.completeRecord h) := by
  unfold State.completeRecord
  split
  · exact .refl h s
  · exact (KeepsTimer.modSeq s h _ rfl).trans (.raise h _ _ _)

theorem State.enterExitRecord_keepsTimer (s : State) (h : HeadId) (k : ExitKind) (rate runOut : Int) :
    KeepsTimer h s (s.enterExitRecord h k rate runOut) :=
  .ite (fun _ => .modHead _ h _ rfl) (.modHead _ h _ rfl)

theorem State.countRepetition_keepsTimer (s : State) (h : HeadId) : KeepsTimer h s (s.countRepetition h) := by
  refine .modSeq s h _ ?_
  split <;> rfl

theorem repetitionLoop_keepsTimer (n : Nat) (h : HeadId) (s : State) : KeepsTimer h s (repetitionLoop n h s) := by
  induction n generalizing s with
  | zero => exact .refl h s
  | succ n ih => exact .ite (fun _ => (s.countRepetition_keepsTimer h).trans (ih _)) (.refl h s)

theorem State.countRepetitions_keepsTimer (s : State) (h : HeadId) : KeepsTimer h s (s.countRepetitions h) := by
  unfold State.countRepetitions
  split
  · exact repetitionLoop_keepsTimer ..
  · exact .refl h s

theorem State.startTraverse_keepsTimer (s : State) (h : HeadId) (s0 : Int) (reps : Nat) (length : Int)
    (v : SegValues) : KeepsTimer h s (s.startTraverse h s0 reps length v) := by
  have fill : KeepsTimer h s (s.fillTraverse h s0 v) := .modSeq s h _ rfl
  have short : ∀ t : State, KeepsTimer h t (t.endShort h reps v) := fun t =>
    (KeepsTimer.modSeq t h (fun q =>
      { q with carried := v, progress := { q.progress with repsDone := reps, endReached := true } }) rfl).trans (.raise ..)
  exact .ite (fun _ => fill.trans (short _)) (fill.trans (State.countRepetitions_keepsTimer ..))

theorem State.startRecord_keepsTimer (s : State) (h : HeadId) (e : Int) : KeepsTimer h s (s.startRecord h e) := by
  have low : ∀ (t : State) r, KeepsTimer h t (t.raiseQueueLow h r) := fun t r => .ite (fun _ => .raise ..) (.refl ..)
  unfold State.startRecord
  split
  · exact .refl h s
  next r _ _ =>
    cases r with
    | start => exact KeepsTimer.trans (.modSeq s h _ rfl) (low _ _)
    | dwell => exact KeepsTimer.trans (.modSeq s h _ rfl) (low _ _)
    | traverse => exact (State.startTraverse_keepsTimer ..).trans (low _ _)
    | exit => exact (KeepsTimer.trans (.modSeq s h _ rfl) (State.enterExitRecord_keepsTimer ..)).trans (low _ _)

theorem State.starve_keepsTimer (s : State) (h : HeadId) : KeepsTimer h s (s.starve h) :=
  (KeepsTimer.modProgress s h _).trans (.raise ..)

theorem finishRecord_keepsTimer (n : Nat) (h : HeadId) (s : State) : KeepsTimer h s (finishRecord n h s) := by
  induction n generalizing s with
  | zero => exact .refl h s
  | succ n ih =>
    unfold finishRecord
    have handed := fun e => (s.completeRecord_keepsTimer h).trans (State.startRecord_keepsTimer _ h e)
    split
    · exact s.starve_keepsTimer h
    · exact .ite (fun _ => .refl h s) (.ite (fun _ => (handed _).trans (ih _)) (handed _))

theorem State.finishExecuting_keepsTimer (s : State) (h : HeadId) : KeepsTimer h s (s.finishExecuting h) :=
  finishRecord_keepsTimer ..

theorem State.starvationEnd_keepsTimer (s : State) (h : HeadId) : KeepsTimer h s (s.starvationEnd h) :=
  .ite (fun _ => (KeepsTimer.modProgress s h _).trans (State.finishExecuting_keepsTimer ..)) (.refl h s)

theorem State.workDwell_keepsTimer (s : State) (accepted : Bool) (h : HeadId) :
    KeepsTimer h s (s.workDwell accepted h) := by
  refine .ite (fun _ => .ite (fun _ => s.starvationEnd_keepsTimer h) (.refl h s)) ?_
  exact (KeepsTimer.modProgress s h _).trans
    (.ite (fun _ => (KeepsTimer.modProgress _ h _).trans (State.finishExecuting_keepsTimer ..)) (.refl ..))

theorem State.workTraverse_keepsTimer (s : State) (accepted : Bool) (h : HeadId) :
    KeepsTimer h s (s.workTraverse accepted h) := by
  unfold State.workTraverse
  have counted := s.countRepetitions_keepsTimer h
  refine .ite (fun _ => .ite (fun _ => counted.trans (State.finishExecuting_keepsTimer ..)) counted)
    (.ite (fun _ => .ite (fun _ => s.starvationEnd_keepsTimer h) (.refl h s)) ?_)
  split
  · exact s.starve_keepsTimer h
  · exact .ite (fun _ => s.finishExecuting_keepsTimer h) (.refl h s)
  · exact .ite (fun _ => s.finishExecuting_keepsTimer h) (.refl h s)

theorem State.testPassEnd_keepsTimer (s : State) (h : HeadId) : KeepsTimer h s s.testPassEnd :=
  ⟨s.testPassEnd_ring, by rw [State.testPassEnd_seq]⟩

theorem State.stopHead_keepsTimer (s : State) (h : HeadId) : KeepsTimer h s (s.stopHead h) :=
  ⟨s.stopHead_ring h, by rw [State.stopHead_head]; rfl⟩

theorem State.finishHead_keepsTimer (s : State) (h : HeadId) : KeepsTimer h s (s.finishHead h) :=
  ⟨by simp [State.finishHead_eq], by rw [State.finishHead_head]; rfl⟩

theorem State.waitAgain_keepsTimer (s : State) (h : HeadId) : KeepsTimer h s (s.waitAgain h) := by
  rw [State.waitAgain_eq]
  have waits : KeepsTimer h s (s.modHead h Head.waitsAgain) := .modHead s h _ rfl
  exact .ite (fun _ => waits.trans (.raise ..)) (waits.trans (State.startRecord_keepsTimer ..))

theorem State.spindownEnd_keepsTimer (s : State) (h : HeadId) : KeepsTimer h s (s.spindownEnd h) := by
  refine .ite (fun _ => ?_) (.refl h s)
  dsimp only
  split
  · exact KeepsTimer.trans (KeepsTimer.trans (s.completeRecord_keepsTimer h)
      (.ite (fun _ => State.stopHead_keepsTimer ..)
        (.ite (fun _ => State.finishHead_keepsTimer ..) (State.waitAgain_keepsTimer ..)))) (State.testPassEnd_keepsTimer ..)
  · exact KeepsTimer.trans (.ite (fun _ => State.stopHead_keepsTimer ..) (State.waitAgain_keepsTimer ..))
      (State.testPassEnd_keepsTimer ..)

theorem State.startSpinup_keepsTimer (s : State) (h : HeadId) : KeepsTimer h s (s.startSpinup h) :=
  .ite (fun _ => KeepsTimer.trans (KeepsTimer.trans (.modHead s h _ rfl) (.modSeq _ h _ rfl)) (.modHead _ h _ rfl))
    (.refl h s)

/-- The work of a state on a set leaves the hold timer and the ring port (R128). -/
theorem State.workState_keepsTimer (s : State) (accepted : Bool) (h : HeadId) :
    KeepsTimer h s (s.workState accepted h) := by
  cases e : s.headState h <;> simp only [State.workState, e]
  case waiting => exact s.startSpinup_keepsTimer h
  case spinup =>
    rw [State.workSpinup_eq e]
    exact .modHead s h _ rfl
  case plunge => exact .ite (fun _ => s.starvationEnd_keepsTimer h) (.refl h s)
  case dwell => exact s.workDwell_keepsTimer accepted h
  case traverse => exact s.workTraverse_keepsTimer accepted h
  case spindown => exact .ite (fun _ => s.spindownEnd_keepsTimer h) (.refl h s)
  all_goals exact .refl h s

/-- The hold timer counts the sets in which the tool stands in the seam with the bridge at rest (R128). -/
theorem State.workHoldTimer_head (s : State) (h : HeadId) :
    (s.workHoldTimer h).head h = { s.head h with seq := { (s.head h).seq with
      holdTimer := if ((s.head h).seq.state = .traverse ∨ (s.head h).seq.state = .dwell ∨
          (s.head h).seq.state = .plunge ∧ (s.head h).seq.progress.starved = true) ∧ s.ring.output.xSpeed = 0 then
        min ((s.head h).seq.holdTimer + 1) 65535 else 0 } } := by
  rw [State.workHoldTimer, State.modSeq_head]
  cases e : (s.head h).seq.state <;> simp [e, countUp_eq_min]

/-- What the sequencer leaves for the hold timer to count on (R128). -/
theorem State.settled_keepsTimer (s : State) (accepted : Bool) (h : HeadId) :
    KeepsTimer h s ((if accepted then s.takeAppendedStart h else s).workState accepted h) :=
  KeepsTimer.trans (.ite (fun _ => .ite (fun _ => s.startRecord_keepsTimer h 0) (.refl h s)) (.refl h s))
    (State.workState_keepsTimer ..)

end Sys2Proof.Machine
end

section
/-! SUPPORT. The causes and the fired flags of the fixed guards. -/

namespace Sys2Proof.Machine

open Sys2Proof.Safety

/-! ## The causes of the fixed guards -/

theorem HeadId.exists_iff {p : HeadId → Prop} : (∃ h, p h) ↔ p .a ∨ p .b := by
  constructor
  · rintro ⟨h, hp⟩
    cases h with
    | a => exact .inl hp
    | b => exact .inr hp
  · rintro (hp | hp)
    · exact ⟨.a, hp⟩
    · exact ⟨.b, hp⟩

theorem mem_causeIf {b : Bool} {c d : Cause} : c ∈ causeIf b d ↔ c = d ∧ b = true := by
  cases b <;> simp [causeIf]

theorem State.takeCause_saturation (s : State) (h : HeadId) (v : Int) :
    s.takeCause (.saturation h v) = ((s.modFired h fun f => { f with saturation := true }).takeFault .saturation
      (some h) (s.head h).seq.station v).exitAndCarry h (s.head h).profile.limits.faultExit := by
  simp only [State.takeCause, State.setFired, State.faultOf_head, State.modFired_eq, State.modHead_head]

theorem State.takeCause_holdLimit (s : State) (h : HeadId) (v : Int) :
    s.takeCause (.holdLimit h v) = ((s.modFired h fun f => { f with holdLimit := true }).takeFault .holdLimit
      (some h) (s.head h).seq.station v).exitAndCarry h .inPlace := by
  simp only [State.takeCause, State.setFired, State.faultOf_head, State.modFired_eq, State.modHead_head]

theorem State.takeCause_headStale (s : State) (h : HeadId) (v : Int) :
    s.takeCause (.headStale h v) = ((s.modFired h fun f => { f with headStale := true }).takeFault .headStale
      (some h) (s.head h).seq.station v).headHalt h := by
  simp only [State.takeCause, State.setFired, State.faultOf_head, State.modFired_eq, State.modHead_head]

theorem State.takeCause_xStale (s : State) (v : Int) :
    s.takeCause (.xStale v) = (({ s with gantryFired := { s.gantryFired with xStale := true } } : State).takeFault
      .xStale none s.planner.measuredX v).haltAll := rfl

theorem State.headStaleDue_iff (s : State) (h : HeadId) : s.headStaleDue h = true ↔
    (s.headState h).working = true ∧ s.active = true ∧ (s.head h).fired.headStale = false ∧
      (s.head h).profile.limits.staleLimit ≤ s.headStaleCount h := by
  simp [State.headStaleDue, State.headState, and_assoc]

theorem State.saturationDue_iff (s : State) (h : HeadId) : s.saturationDue h = true ↔
    (s.head h).seq.state = .traverse ∧ s.active = true ∧ (s.head h).fired.saturation = false ∧
      (s.head h).profile.limits.saturationLimit ≤ (s.head h).reg.satRun := by
  simp [State.saturationDue, and_assoc]

theorem State.holdLimitDue_iff (s : State) (h : HeadId) : s.holdLimitDue h = true ↔
    ((s.head h).seq.state = .traverse ∨ (s.head h).seq.state = .dwell ∨
        (s.head h).seq.state = .plunge ∧ (s.head h).seq.progress.starved = true) ∧
      s.active = true ∧ (s.head h).fired.holdLimit = false ∧
      (s.head h).profile.limits.holdLimit ≤ (s.head h).seq.holdTimer := by
  simp [State.holdLimitDue, and_assoc, or_assoc]

theorem State.xStaleDue_iff (s : State) : s.xStaleDue = true ↔
    s.active = true ∧ s.gantryFired.xStale = false ∧ s.gantry.xStaleLimit ≤ s.ring.stale.x := by
  simp [State.xStaleDue, and_assoc]

theorem State.startMissedBy_eq_some (s : State) (h : HeadId) (v : Int) : s.startMissedBy h = some v ↔
    ∃ x, v = s.planner.measuredX - x ∧ s.plungeX h = some x ∧ s.headState h = .waiting ∧ s.pass.state = .running ∧
      x < s.planner.measuredX - s.gantry.arrivalTol := by
  unfold State.startMissedBy
  cases s.plungeX h with
  | none => simp
  | some x =>
    simp only [Option.some.injEq, Option.ite_none_right_eq_some]
    constructor
    · rintro ⟨hc, rfl⟩
      exact ⟨x, rfl, rfl, hc⟩
    · rintro ⟨y, rfl, rfl, hc⟩
      exact ⟨hc, rfl⟩

theorem State.skewDue_iff (s : State) : s.skewDue = true ↔
    s.active = true ∧ s.gantryFired.skew = false ∧ s.gantry.skewLimit < mag s.planner.skew := by
  simp [State.skewDue, and_assoc]

theorem State.xLagDue_iff (s : State) : s.xLagDue = true ↔
    s.active = true ∧ s.gantryFired.xLag = false ∧ s.gantry.lagLimit < mag s.planner.lag := by
  simp [State.xLagDue, and_assoc]

theorem State.stopLineDue_iff (s : State) : s.stopLineDue = true ↔
    s.active = true ∧ s.gantryFired.stopLine = false ∧ s.lines.stop = true := by
  simp [State.stopLineDue, and_assoc]

/-! ## The fired flags -/

/-- A head's fired flags, without those of the fixed guards that are not armed (R126). -/
def Head.droppedFired (x : Head) (active : Bool) : Head :=
  { x with fired :=
    { saturation := x.fired.saturation && decide (x.seq.state = .traverse) && active
      holdLimit := x.fired.holdLimit && active && (decide (x.seq.state = .traverse) || decide (x.seq.state = .dwell) ||
        (decide (x.seq.state = .plunge) && x.seq.progress.starved))
      spinupTimeout := x.fired.spinupTimeout && decide (x.seq.state = .spinup) && active
      headStale := x.fired.headStale && x.seq.state.working && active } }

theorem State.dropFired_eq (s : State) : s.dropFired = { s with
    headA := s.headA.droppedFired s.active
    headB := s.headB.droppedFired s.active
    gantryFired := if s.active = true then s.gantryFired else .clear } := by
  by_cases e : s.active = true
  · rw [if_pos e]
    exact if_pos (c := ((s.dropHeadFired .a).dropHeadFired .b).active = true) e
  · rw [if_neg e]
    exact if_neg (c := ((s.dropHeadFired .a).dropHeadFired .b).active = true) e

theorem State.dropFired_head (s : State) (h : HeadId) : s.dropFired.head h = (s.head h).droppedFired s.active := by
  rw [State.dropFired_eq]
  cases h <;> rfl

/-- Which fired flags of a head are left (R126). -/
theorem Head.droppedFired_iff (x : Head) (active : Bool) :
    let f := (x.droppedFired active).fired
    (f.saturation = true ↔ x.fired.saturation = true ∧ active = true ∧ x.seq.state = .traverse) ∧
      (f.holdLimit = true ↔ x.fired.holdLimit = true ∧ active = true ∧
        (x.seq.state = .traverse ∨ x.seq.state = .dwell ∨ x.seq.state = .plunge ∧ x.seq.progress.starved = true)) ∧
      (f.spinupTimeout = true ↔ x.fired.spinupTimeout = true ∧ active = true ∧ x.seq.state = .spinup) ∧
      (f.headStale = true ↔ x.fired.headStale = true ∧ active = true ∧ x.seq.state.working = true) := by
  simp only [Head.droppedFired, Bool.and_eq_true, Bool.or_eq_true, decide_eq_true_eq]
  refine ⟨?_, ?_, ?_, ?_⟩ <;> tauto

/-- No fixed guard is left fired that the states do not arm (R126). -/
structure FlagsArmed (t : State) : Prop where
  gantry : t.active = false → t.gantryFired = GantryFired.clear
  saturation : ∀ h, (t.head h).fired.saturation = true → t.active = true ∧ (t.head h).seq.state = .traverse
  holdLimit : ∀ h, (t.head h).fired.holdLimit = true → t.active = true ∧ ((t.head h).seq.state = .traverse ∨
    (t.head h).seq.state = .dwell ∨ (t.head h).seq.state = .plunge ∧ (t.head h).seq.progress.starved = true)
  spinupTimeout : ∀ h, (t.head h).fired.spinupTimeout = true → t.active = true ∧ (t.head h).seq.state = .spinup
  headStale : ∀ h, (t.head h).fired.headStale = true → t.active = true ∧ (t.head h).seq.state.working = true

/-- What the last part of a set leaves of the states that arm the fixed guards, and of their flags. -/
structure SameFlags (s t : State) : Prop where
  pass : t.pass = s.pass
  gantry : t.gantryFired = s.gantryFired
  seq : ∀ h, (t.head h).seq = (s.head h).seq
  fired : ∀ h, (t.head h).fired = (s.head h).fired

theorem SameFlags.refl (s : State) : SameFlags s s := ⟨rfl, rfl, fun _ => rfl, fun _ => rfl⟩

theorem SameFlags.trans {s t u : State} (a : SameFlags s t) (b : SameFlags t u) : SameFlags s u :=
  ⟨b.pass.trans a.pass, b.gantry.trans a.gantry, fun h => (b.seq h).trans (a.seq h),
    fun h => (b.fired h).trans (a.fired h)⟩

theorem SameFlags.modHead (s : State) (h : HeadId) (f : Head → Head) (hs : (f (s.head h)).seq = (s.head h).seq)
    (hf : (f (s.head h)).fired = (s.head h).fired) : SameFlags s (s.modHead h f) := by
  refine ⟨by simp, by cases h <;> rfl, fun g => ?_, fun g => ?_⟩
  · rcases HeadId.eq_or_other g h with rfl | rfl <;> simp [hs]
  · rcases HeadId.eq_or_other g h with rfl | rfl <;> simp [hf]

theorem FlagsArmed.same {s t : State} (a : FlagsArmed s) (e : SameFlags s t) : FlagsArmed t := by
  have act : t.active = s.active := by rw [State.active, e.pass]; rfl
  refine ⟨?_, ?_, ?_, ?_, ?_⟩
  all_goals simp only [act, e.gantry, e.seq, e.fired]
  · exact a.gantry
  · exact a.saturation
  · exact a.holdLimit
  · exact a.spinupTimeout
  · exact a.headStale

theorem State.dropFired_armed (s : State) : FlagsArmed s.dropFired := by
  have act : s.dropFired.active = s.active := by rw [State.dropFired_eq]; rfl
  refine ⟨fun e => ?_, fun h => ?_, fun h => ?_, fun h => ?_, fun h => ?_⟩
  · rw [act] at e
    rw [State.dropFired_eq, if_neg (by simp [e])]
  all_goals
    rw [State.dropFired_head, act]
    obtain ⟨h1, h2, h3, h4⟩ := (s.head h).droppedFired_iff s.active
  · exact fun hf => (h1.1 hf).2
  · exact fun hf => (h2.1 hf).2
  · exact fun hf => (h3.1 hf).2
  · exact fun hf => (h4.1 hf).2

theorem State.testPassEnd_armed {s : State} (a : FlagsArmed s) : FlagsArmed s.testPassEnd := by
  unfold State.testPassEnd
  split
  · refine ⟨fun _ => ?_, ?_, ?_, ?_, ?_⟩
    · rw [State.endPass_eq]
    all_goals
      intro h hf
      rw [State.endPass_head] at hf
      cases hf
  · exact a

theorem State.disarmGuards_sameFlags (s : State) : SameFlags s s.disarmGuards :=
  ⟨rfl, rfl, fun _ => rfl, fun _ => rfl⟩

theorem State.endPlanner_armed {s : State} (a : FlagsArmed s) : FlagsArmed s.endPlanner := by
  have planned : ∀ p : Planner, FlagsArmed { s with planner := p } := fun p =>
    a.same ⟨rfl, rfl, fun h => by cases h <;> rfl, fun h => by cases h <;> rfl⟩
  unfold State.endPlanner
  dsimp only
  split
  · exact State.testPassEnd_armed (planned _)
  · exact planned _

theorem State.formOutputs_sameFlags (s : State) : SameFlags s s.formOutputs :=
  ⟨rfl, rfl, fun h => by cases h <;> rfl, fun h => by cases h <;> rfl⟩

theorem State.handCaps_sameFlags (s : State) (accepted : Bool) : SameFlags s (s.handCaps accepted) := by
  unfold State.handCaps
  split
  · exact (SameFlags.modHead s .a _ rfl rfl).trans (.modHead _ .b _ rfl rfl)
  · exact .refl s

theorem State.workTrim_sameFlags (s : State) (accepted : Bool) (h : HeadId) : SameFlags s (s.workTrim accepted h) := by
  unfold State.workTrim
  exact .modHead s h _ rfl rfl

theorem State.formFence_sameFlags (s : State) (h : HeadId) : SameFlags s (s.formFence h) := by
  unfold State.formFence
  exact .modHead s h _ rfl rfl

/-- The last part of a set leaves no fixed guard fired that its states do not arm (R126). -/
theorem State.closeSet_armed {s : State} (accepted : Bool) (a : FlagsArmed s) : FlagsArmed (s.closeSet accepted) := by
  have trims := (s.workTrim_sameFlags accepted .a).trans (State.workTrim_sameFlags _ accepted .b)
  have demands : ∀ t : State, SameFlags t ((t.settleDemand .a).settleDemand .b) := fun t =>
    (SameFlags.modHead t .a _ rfl rfl).trans (.modHead _ .b _ rfl rfl)
  have fences : ∀ t : State, SameFlags t ((t.formFence .a).formFence .b) := fun t =>
    (t.formFence_sameFlags .a).trans (State.formFence_sameFlags _ .b)
  exact ((State.endPlanner_armed (a.same ((trims.trans (demands _)).trans (fences _)))).same
    (State.disarmGuards_sameFlags _)).same (State.formOutputs_sameFlags _)

end Sys2Proof.Machine

namespace Sys2Proof.WeldPass

open Sys2Proof.Machine Sys2Proof.Safety

/-- Settles O50: the fixed guards as commands, the causes found on a set, their faults and orders, and the flags that a
set leaves. -/
theorem fixedGuardsSendTheirOrders : Obligations.FixedGuardsSendTheirOrders := by
  refine ⟨fun h s hp ha => ?_, fun s accepted c => ?_, fun h s accepted => ?_, fun s accepted h c => ?_, fun s c => ?_,
    fun s => ?_, fun s => ?_, fun s t accepted loss ht => ?_, fun s h v => ?_, fun s v => ?_⟩
  · have taken : ∀ due c, due = true → s.ifRunning (s.takeIf due c) = (s.takeCause c).testPassEnd := fun due c hd =>
      (State.ifRunning_of hp _).trans (State.takeIf_of_due hd c)
    refine ⟨fun hs hf hl => congrArg _ ((taken _ _ ?_).trans ?_), fun hs hf hl => congrArg _ ((taken _ _ ?_).trans ?_),
      fun hs hf hl => congrArg _ ((taken _ _ ?_).trans ?_), fun hf hl => congrArg _ ((taken _ _ ?_).trans ?_)⟩
    · exact (s.saturationDue_iff h).2 ⟨hs, ha, hf, hl⟩
    · rw [State.takeCause_saturation]
    · exact (s.holdLimitDue_iff h).2 ⟨hs, ha, hf, hl⟩
    · rw [State.takeCause_holdLimit]
    · exact (s.headStaleDue_iff h).2 ⟨hs, ha, hf, hl⟩
    · rw [State.takeCause_headStale]
    · exact s.xStaleDue_iff.2 ⟨ha, hf, hl⟩
    · rw [State.takeCause_xStale]
  · have stop := s.stopLineDue_iff
    have missed : ∀ h, c ∈ ((s.startMissedBy h).map (Cause.startMissed h)).toList ↔
        ∃ x, c = .startMissed h (s.planner.measuredX - x) ∧ s.plungeX h = some x ∧ s.headState h = .waiting ∧
          s.pass.state = .running ∧ x < s.planner.measuredX - s.gantry.arrivalTol := by
      intro h
      simp only [Option.mem_toList, Option.map_eq_some_iff, s.startMissedBy_eq_some]
      constructor
      · rintro ⟨v, ⟨x, rfl, e⟩, rfl⟩
        exact ⟨x, rfl, e⟩
      · rintro ⟨x, rfl, e⟩
        exact ⟨_, ⟨x, rfl, e⟩, rfl⟩
    cases accepted with
    | false =>
      simp only [State.inputCauses, Bool.false_eq_true, if_false, mem_causeIf, stop, false_and, or_false]
    | true =>
      simp only [State.inputCauses, if_true, List.mem_append, mem_causeIf, missed, stop, s.headStaleDue_iff,
        s.xStaleDue_iff, s.skewDue_iff, s.xLagDue_iff, true_and, HeadId.exists_iff]
      rw [← eq_iff_iff]
      ac_rfl
  · intro t
    have e : t.head h = _ := State.workHoldTimer_head _ h
    obtain ⟨hr, ht⟩ := s.settled_keepsTimer accepted h
    rw [State.headState, e]
    simp only [hr, ht]
  · simp only [State.counterCauses, List.mem_append, mem_causeIf, Bool.and_eq_true, s.saturationDue_iff h,
      s.holdLimitDue_iff h, s.spinupTimeoutDue_iff h, and_or_left]
    rw [← eq_iff_iff]
    ac_rfl
  · simp only [State.contactCauses, List.mem_append, mem_causeIf, s.noContactDue_iff]
    rw [HeadId.exists_iff]
    exact Iff.rfl
  · exact ⟨rfl, rfl⟩
  · intro t
    refine ⟨?_, ?_, fun h => ?_⟩
    · simp only [t]
      rw [State.dropFired_eq]
    · simp only [t]
      rw [State.dropFired_eq]
    · have e : t.head h = _ := s.dropFired_head h
      simp only [e]
      exact ⟨rfl, (s.head h).droppedFired_iff s.active⟩
  · subst ht
    have armed : FlagsArmed (s.workSet accepted loss) :=
      State.closeSet_armed accepted ((State.dropFired_armed _).same (State.handCaps_sameFlags _ accepted))
    exact ⟨armed.gantry, fun h => ⟨armed.saturation h, armed.holdLimit h, armed.spinupTimeout h, armed.headStale h⟩⟩
  · exact ⟨s.takeCause_saturation h v, s.takeCause_holdLimit h v, s.takeCause_spinupTimeout h v,
      s.takeCause_headStale h v, s.takeCause_noContact h v⟩
  · exact ⟨rfl, rfl, rfl, rfl, rfl, fun _ _ => rfl, fun _ => rfl, fun cs =>
      ⟨s.orderCauses cs, s.orderCauses_perm cs, rfl⟩⟩

end Sys2Proof.WeldPass
end

section
/-! SUPPORT. The idle timer of a stream behind a set. -/

namespace Sys2Proof.Machine

open Sys2Proof.Safety

/-! ## Events of a set -/

/-- An event raised and enabled is pending in whatever the event unit becomes by further events and faults (R184). -/
theorem State.raised_among {s : State} {k : EventKind} {detail : Nat} {u : EventUnit}
    (w : ∀ P, EventClosed P → P (s.raise k detail).events → P u) (he : s.events.enables k = true) :
    ∃ e ∈ u.entries, e.kind = k ∧
      ((∀ f ∈ s.events.entries, f.kind ≠ k) → e.stamp = s.ring.setNumber ∧ e.detail = detail) := by
  refine w _ (eventClosed_pending fun kind stamp d => kind = k ∧
    ((∀ f ∈ s.events.entries, f.kind ≠ k) → stamp = s.ring.setNumber ∧ d = detail)) ?_
  rw [State.raise_events, if_pos he]
  exact insertEvent_inserts ..

/-- A raised event adds no entry of another kind (R184). -/
theorem insertEvent_kinds {k : EventKind} {stamp detail : Nat} {l : List EventEntry} {e : EventEntry}
    (h : e ∈ insertEvent k stamp detail l) : e.kind = k ∨ ∃ f ∈ l, f.kind = e.kind := by
  induction l with
  | nil =>
    rw [insertEvent, List.mem_singleton] at h
    exact .inl (h ▸ rfl)
  | cons f l ih =>
    unfold insertEvent at h
    split at h
    next e' =>
      rcases List.mem_cons.1 h with rfl | h
      · exact .inl e'
      · exact .inr ⟨e, List.mem_cons_of_mem _ h, rfl⟩
    next =>
      split at h
      · rcases List.mem_cons.1 h with rfl | h
        · exact .inl rfl
        · exact .inr ⟨e, h, rfl⟩
      · rcases List.mem_cons.1 h with rfl | h
        · exact .inr ⟨_, List.mem_cons_self, rfl⟩
        · exact (ih h).imp_right fun ⟨g, hg, hk⟩ => ⟨g, List.mem_cons_of_mem _ hg, hk⟩

theorem State.raise_absent {s : State} {k k' : EventKind} (d : Nat) (hk : k ≠ k')
    (h : ∀ f ∈ s.events.entries, f.kind ≠ k') : ∀ f ∈ (s.raise k d).events.entries, f.kind ≠ k' := by
  intro f hf
  rw [State.raise_events] at hf
  split at hf
  · rcases insertEvent_kinds hf with e | ⟨g, hg, e⟩
    · exact e ▸ hk
    · exact e ▸ h g hg
  · exact h f hf

/-! ## The idle timer -/

/-- What the idle timer leaves as it stands (R182). -/
theorem State.countIdle_frame (s : State) :
    s.countIdle = { s with service := s.countIdle.service, events := s.countIdle.events } ∧
      s.countIdle.service.lastReply = s.service.lastReply ∧
      (∀ P, EventClosed P → P s.events → P s.countIdle.events) := by
  have expire : ∀ u : State,
      u.expireStream = { u with service := u.expireStream.service, events := u.expireStream.events } ∧
      u.expireStream.service.lastReply = u.service.lastReply ∧
      (∀ P, EventClosed P → P u.events → P u.expireStream.events) := by
    intro u
    unfold State.expireStream
    split
    next c _ =>
      have w := (u.closeStream).raise_worked .streamExpired (packDetail c.table.code c.remaining)
      refine ⟨?_, ?_, w.events⟩
      · rw [State.raise_eq]
        rfl
      · rw [State.raise_eq]
        rfl
    next => exact ⟨rfl, rfl, fun _ _ h => h⟩
  unfold State.countIdle
  split
  · obtain ⟨h1, h2, h3⟩ := expire ({ s with service := { s.service with stream := some _ } } : State)
    refine ⟨?_, h2, h3⟩
    rw [h1]
  · exact ⟨rfl, rfl, fun _ _ h => h⟩

theorem State.countIdle_none {s : State} (h : s.service.stream = none) : s.countIdle = s := by
  simp only [State.countIdle, h]

/-- The idle timer of an open stream risen by 1 (R182). -/
def State.idled (s : State) (c : Stream) : State :=
  { s with service := { s.service with stream := some { c with idle := min (c.idle + 1) 65535 } } }

theorem State.countIdle_open {s : State} {c : Stream} (h : s.service.stream = some c) :
    s.countIdle = (s.idled c).expireStream := by
  simp only [State.countIdle, h, State.idled, countUp_eq_min]

/-- An open stream whose timer stays below the stream timeout (R182). -/
theorem State.countIdle_below {s : State} {c : Stream} (h : s.service.stream = some c)
    (hi : min (c.idle + 1) 65535 < s.gantry.streamTimeout) : s.countIdle = s.idled c := by
  have hd : (s.idled c).streamDue = none := if_neg (not_le.2 hi)
  rw [State.countIdle_open h, State.expireStream, hd]

/-- An open stream whose timer reaches the stream timeout expires (R182). -/
theorem State.countIdle_expires {s : State} {c : Stream} (h : s.service.stream = some c)
    (hi : s.gantry.streamTimeout ≤ min (c.idle + 1) 65535) :
    s.countIdle = (s.idled c).closeStream.raise .streamExpired (packDetail c.table.code c.remaining) := by
  have hd : (s.idled c).streamDue = some { c with idle := min (c.idle + 1) 65535 } := if_pos hi
  rw [State.countIdle_open h, State.expireStream, hd]

/-- The idle timer of a stream on a set whose events before it are of other kinds (R182). -/
theorem idleCounted_of {s v t : State} (hs : v.service = s.service) (hg : v.gantry = s.gantry)
    (he : v.events.enables .streamExpired = s.events.enables .streamExpired)
    (hn : (∀ f ∈ s.events.entries, f.kind ≠ .streamExpired) → ∀ f ∈ v.events.entries, f.kind ≠ .streamExpired)
    (w : Worked v.countIdle t) : IdleCounted s t := by
  have service := w.service
  unfold IdleCounted
  cases e : s.service.stream with
  | none =>
    rw [State.countIdle_none (hs ▸ e)] at service
    rw [service, hs]
    exact ⟨e, rfl, rfl⟩
  | some c =>
    have ev : v.service.stream = some c := hs ▸ e
    refine ⟨fun hi => ?_, fun hi => ?_⟩
    · rw [State.countIdle_below ev (by rw [hg]; exact hi), State.idled, hs] at service
      rw [service]
      exact ⟨rfl, rfl⟩
    · rw [State.countIdle_expires ev (by rw [hg]; exact hi)] at service w
      refine ⟨?_, ?_, fun hen => ?_⟩
      · rw [service, State.raise_service]
        rfl
      · rw [service, State.raise_service]
        rfl
      · obtain ⟨f, hf, hk, hnew⟩ := State.raised_pending w (he.trans hen)
        refine ⟨f, hf, hk, fun h => ?_⟩
        have hring : t.ring.setNumber = v.ring.setNumber := by rw [w.ring, State.raise_ring]; rfl
        rw [hring]
        exact hnew (hn h)

/-! ## The set behind a frame or an expiry -/

theorem exec_frameCompletion {s : State} (hp : s.power = .running) (now : Nat) (pins : Pins) :
    exec (.frameCompletion now pins) s = .next (s.completeFrame now pins) :=
  congrArg Host.Outcome.next (State.ifRunning_of hp (s.completeFrame now pins))

theorem exec_cycleWindowExpiry {s : State} (hp : s.power = .running) (stop : Bool) :
    exec (.cycleWindowExpiry stop) s = .next (s.expireWindow stop) :=
  congrArg Host.Outcome.next (State.ifRunning_of hp (s.expireWindow stop))

/-- The output set of a set is numbered by its set and coast counts (R166). -/
theorem State.workSet_number (s : State) (accepted loss : Bool) : (s.workSet accepted loss).ring.output.number =
    ⟨(s.workSet accepted loss).ring.setNumber, (s.workSet accepted loss).ring.coastCount⟩ := rfl

/-- What the datum changes of a pass record (R54). -/
def PassRecord.Redated (p q : PassRecord) : Prop :=
  q = { p with x0 := q.x0, datumValid := q.datumValid }

theorem State.takeMarkEdge_pass (s : State) : s.pass.Redated s.takeMarkEdge.pass := by
  unfold State.takeMarkEdge
  dsimp only
  rw [State.raise_pass]
  unfold State.setDatum
  split <;> rfl

theorem State.sampleMark_pass (s : State) : s.pass.Redated s.sampleMark.pass := by
  unfold State.sampleMark
  split
  · rfl
  · split
    · rfl
    · split
      next hd =>
        rw [State.markEdge, if_pos hd]
        exact State.takeMarkEdge_pass { s with
          planner := { s.planner with markCount := s.gantry.markFilter, markHeld := true } }
      next => rfl

/-- What the planner's start leaves of the pass record (R54). -/
theorem State.beginPlanner_pass (s : State) (accepted : Bool) : s.pass.Redated (s.beginPlanner accepted).pass := by
  have reseeds : ((s.followX accepted).reseedStart accepted).pass = s.pass := by
    unfold State.reseedStart
    split <;> rfl
  have stations : ∀ t : State, ((t.formStation .a).formStation .b).pass = t.pass := fun _ => rfl
  unfold State.beginPlanner
  dsimp only
  rw [stations, ← reseeds]
  split
  · exact State.sampleMark_pass _
  · rfl

/-- The loss hold counter of a pass record behind an expiry (R10). -/
def PassRecord.lossHoldNext (p : PassRecord) : Nat :=
  if p.holdCause = .ring then min (p.lossHold + 1) 10000 else p.lossHold

theorem State.countLossHold_fst (s : State) :
    s.countLossHold.1 = { s with pass := { s.pass with lossHold := s.pass.lossHoldNext } } := by
  unfold State.countLossHold PassRecord.lossHoldNext
  split
  · rw [countUp_eq_min]
  · rfl

/-- The counter reaches the hold window by an expiry that it counts (R10). -/
theorem State.countLossHold_snd (s : State) : s.countLossHold.2 = true ↔
    s.active = true ∧ s.pass.holdCause = .ring ∧ s.pass.lossHoldNext ≠ s.pass.lossHold ∧
      s.pass.lossHoldNext = s.gantry.holdWindow := by
  unfold State.countLossHold PassRecord.lossHoldNext
  split
  next e =>
    simp only [countUp_eq_min, Bool.and_eq_true, decide_eq_true_eq, State.holdWindowDue_iff, e, true_and]
    exact and_left_comm
  next e => simp [e]

/-- What a set finds of a ring loss: the hold order, and whether the HALT all is due (R164, R165). -/
def State.lossEffects (s : State) (lost : Bool) : State × Bool :=
  if lost then s.loseRing else (s, false)

/-- A pass that a ring loss holds in HOLD loss mode (R165). -/
def State.lossHeld (s : State) (lost : Bool) : State :=
  if lost = true ∧ s.active = true ∧ s.gantry.lossMode = .hold then s.holdOrder .ring else s

theorem State.lossEffects_fst (s : State) (lost : Bool) : (s.lossEffects lost).1 = s.lossHeld lost := by
  unfold State.lossEffects State.lossHeld State.loseRing
  cases lost with
  | false => simp
  | true =>
    cases s.active with
    | false => simp
    | true => cases s.gantry.lossMode <;> simp

theorem State.lossEffects_snd (s : State) (lost : Bool) : (s.lossEffects lost).2 = true ↔
    s.active = true ∧ lost = true ∧ (s.gantry.lossMode = .withdraw ∨ s.pass.holdCause ≠ .ring ∧
      (s.lossHeld lost).pass.holdCause = .ring ∧ s.pass.lossHold = s.gantry.holdWindow) := by
  cases hl : lost with
  | false => simp [State.lossEffects]
  | true =>
    cases ha : s.active with
    | false => simp [State.lossEffects, State.loseRing, ha]
    | true =>
      cases hm : s.gantry.lossMode with
      | withdraw => simp [State.lossEffects, State.loseRing_withdraw ha hm]
      | hold =>
        obtain ⟨hf, hact, hhold, -⟩ := s.holdOrder_frame .ring
        have hg : (s.holdOrder .ring).gantry = s.gantry := by rw [hf]
        simp [State.lossEffects, State.loseRing_hold ha hm, State.holdWindowDue_iff, hact, ha, hhold, hg,
          State.lossHeld, hm]

/-- A coast set is worked behind the counting of the loss hold and the effects of a loss (R162, R164, R165). -/
theorem State.coastSet_eq (s : State) (lost : Bool) : s.coastSet lost =
    ((s.beginPlanner false).countLossHold.1.lossEffects lost).1.workSet false
      ((s.beginPlanner false).countLossHold.2 || ((s.beginPlanner false).countLossHold.1.lossEffects lost).2) := rfl

end Sys2Proof.Machine

namespace Sys2Proof.WeldPass

open Sys2Proof.Machine Sys2Proof.Safety

/-- Settles O20: a frame that passes the tests is the next set, worked behind the planner's start. -/
theorem acceptedFrameNumbersTheSet : Obligations.AcceptedFrameNumbersTheSet := by
  intro now pins f s hp hd hpass hg hc he counted sampled told restored begun
  have restores : (if decide (s.ring.state = .lost) = true then sampled.restoreRing s.ring.missCount else sampled) =
      restored := by
    simp only [restored, told, decide_eq_true_eq, State.restoreRing, detailNumber_eq_min]
  have accepts : s.completeFrame now pins =
      ({ s with port := { s.port with passing := none } } : State).acceptFrame f.payload now pins := by
    have hc' : ({ s with port := { s.port with passing := none } } : State).covers f.payload.length = true := hc
    rw [State.completeFrame, if_neg (by simp [hd]), hpass]
    dsimp only
    rw [State.testFrame, if_neg (by simp [hg]), if_neg (by simp [hc']), if_neg (by simp [he])]
  have works : ({ s with port := { s.port with passing := none } } : State).acceptFrame f.payload now pins =
      begun.workSet true false := by
    simp only [begun]
    rw [← restores]
    rfl
  have run : exec (.frameCompletion now pins) s = .next (begun.workSet true false) := by
    rw [exec_frameCompletion hp, accepts, works]
  have w : Worked restored.countIdle (begun.workSet true false) :=
    (State.beginPlanner_worked ..).trans (State.workSet_worked ..)
  obtain ⟨frame, lastReply, events⟩ := restored.countIdle_frame
  have restoredIs : restored = { sampled with pass := restored.pass, events := restored.events } := by
    simp only [restored, told]
    split
    · rw [State.raise_eq]
    · rfl
  have ring : (begun.workSet true false).ring =
      { sampled.ring with output := (begun.workSet true false).ring.output } := by
    rw [w.ring, frame, restoredIs]
  have number : (begun.workSet true false).ring.setNumber = (s.ring.setNumber + 1) % 2 ^ 32 := by
    rw [ring]
    rfl
  have coast : (begun.workSet true false).ring.coastCount = 0 := by
    rw [ring]
    rfl
  have head : ∀ h, restored.countIdle.head h = s.head h := by
    intro h
    rw [frame, restoredIs]
    cases h <;> rfl
  have lossHold : (begun.workSet true false).pass.lossHold = restored.pass.lossHold := by
    rw [(State.workSet_sound ..).lossHold, (State.beginPlanner_sound ..).lossHold, frame]
  refine ⟨begun.workSet true false, run, rfl, number, coast, ?_, ?_, ?_, ?_, ?_, ?_, ?_, ?_, ?_, ?_, ?_, ?_, ?_, ?_,
    fun h => ⟨?_, ?_⟩, ?_, ?_, ?_, fun hl => ⟨fun hen => ?_, ?_⟩, fun hl => ?_, ?_⟩
  · rw [ring]; rfl
  · rw [ring]; rfl
  · rw [ring]; rfl
  · rw [ring]; rfl
  · rw [w.lines, frame, restoredIs]
  · rw [State.workSet_number, coast]
  · rw [w.port, frame, restoredIs]
  · rw [ring]; rfl
  · rw [ring]; rfl
  · rw [ring]; rfl
  · rw [w.gantry, frame, restoredIs]
  · rw [w.slotMap, frame, restoredIs]
  · rw [w.inForce, frame, restoredIs]
  · rw [w.power, frame, restoredIs]
  · rw [w.profile h, head h]
  · rw [w.points h, head h]
  · rw [w.guards, frame, restoredIs]
  · rw [w.pending, frame, restoredIs]
  · rw [w.service, lastReply, restoredIs]
  · have toldEvents : restored.events = (sampled.raise .ringRestored (min s.ring.missCount 65535)).events := by
      simp only [restored, if_pos hl, told]
    obtain ⟨e, hm, hk, hnew⟩ := State.raised_among (s := sampled)
      (fun P c h => w.events P c (events P c (by rw [toldEvents]; exact h))) hen
    refine ⟨e, hm, hk, fun hn => ?_⟩
    rw [number]
    exact hnew hn
  · rw [lossHold]
    simp only [restored, if_pos hl]
  · rw [lossHold]
    simp only [restored, if_neg hl]
    rfl
  · refine idleCounted_of (v := restored) ?_ ?_ ?_ ?_ w
    · rw [restoredIs]
    · rw [restoredIs]
    · simp only [restored]
      split
      · exact (sampled.raise_worked _ _).enables .streamExpired
      · rfl
    · intro hn
      simp only [restored]
      split
      · exact sampled.raise_absent _ (by decide) hn
      · exact hn

/-- Settles O22: an expiry of the window, the loss it may make, and the coast set behind it. -/
theorem windowExpiryRunsACoastSet : Obligations.WindowExpiryRunsACoastSet := by
  intro stop s hp
  refine ⟨fun due time hw ht => ?_, fun hn => ?_⟩
  swap
  · rw [exec_cycleWindowExpiry hp, State.expireWindow, hn]
  let lostNow := (decide (s.ring.state = .up) || decide (s.ring.state = .coasting)) &&
    decide (s.gantry.missLimit ≤ min (s.ring.missCount + 1) 65535)
  let missed : State := { s with
    ring := { s.ring with
      missCount := min (s.ring.missCount + 1) 65535
      coastCount := min (s.ring.coastCount + 1) 4294967295
      window := some (due + time.tc)
      state := if lostNow = true then .lost else if s.ring.state = .up then .coasting else s.ring.state }
    lines := { s.lines with stop := stop } }
  let told := if lostNow = true then missed.raise .ringLost (min s.gantry.missLimit 65535) else missed
  have lostNow_iff : lostNow = true ↔ (s.ring.state = .up ∨ s.ring.state = .coasting) ∧
      s.gantry.missLimit ≤ min (s.ring.missCount + 1) 65535 := by
    simp only [lostNow, Bool.and_eq_true, Bool.or_eq_true, decide_eq_true_eq]
  have expire : s.expireWindow stop = told.countIdle.coastSet lostNow := by
    have due' : (s.countMiss due time.tc stop).lossDue = lostNow := by
      simp only [State.lossDue, State.countMiss, countUp_eq_min, lostNow]
      cases s.ring.state <;> rfl
    have marks : (if lostNow = true then (s.countMiss due time.tc stop).markLost else s.countMiss due time.tc stop) =
        told := by
      simp only [told, missed, State.markLost_eq, State.countMiss, countUp_eq_min]
      cases lostNow <;> rfl
    rw [State.expireWindow, hw, ht]
    dsimp only
    rw [due', marks]
  have w : Worked told.countIdle (s.expireWindow stop) := by
    rw [expire]
    exact State.coastSet_worked ..
  obtain ⟨frame, -, events⟩ := told.countIdle_frame
  have toldIs : told = { missed with events := told.events } := by
    simp only [told]
    split
    · rw [State.raise_eq]
    · rfl
  have ring : (s.expireWindow stop).ring = { missed.ring with output := (s.expireWindow stop).ring.output } := by
    rw [w.ring, frame, toldIs]
  have head : ∀ h, told.countIdle.head h = s.head h := by
    intro h
    rw [frame, toldIs]
    cases h <;> rfl
  refine ⟨s.expireWindow stop, exec_cycleWindowExpiry hp stop, ?_, ?_, ?_, ?_, ?_, ?_, ?_, ?_, ?_, ?_, ?_, ?_, ?_, ?_, ?_,
    ?_, ?_, ?_, fun h => ⟨?_, ?_⟩⟩
  · intro lostNow' missed' told' begun n counted held halts
    have loses : ∃ b, s.expireWindow stop = held.workSet false b ∧ (b = true ↔ halts) := by
      have pass : s.pass.Redated begun.pass := by
        have same : told'.countIdle.pass = s.pass := by
          show told.countIdle.pass = s.pass
          rw [frame, toldIs]
        rw [← same]
        exact State.beginPlanner_pass _ _
      have gantry : begun.gantry = s.gantry := by
        show (told.countIdle.beginPlanner false).gantry = s.gantry
        rw [(State.beginPlanner_worked ..).gantry, frame, toldIs]
      have active : begun.active = s.active := by rw [State.active, pass]; rfl
      have next : begun.pass.lossHoldNext = n := by rw [pass]; rfl
      have cause : begun.pass.holdCause = s.pass.holdCause := by rw [pass]
      have stood : begun.pass.lossHold = s.pass.lossHold := by rw [pass]
      have counts : begun.countLossHold.1 = counted := by rw [State.countLossHold_fst, next]
      have reached := begun.countLossHold_snd
      rw [active, cause, stood, next, gantry] at reached
      have loss := counted.lossEffects_snd lostNow
      rw [show counted.active = s.active from active, show counted.gantry = s.gantry from gantry,
        show counted.pass.holdCause = s.pass.holdCause from cause] at loss
      have heldIs : counted.lossHeld lostNow = held := by
        rw [State.lossHeld, show counted.active = s.active from active, show counted.gantry = s.gantry from gantry]
      refine ⟨begun.countLossHold.2 || (counted.lossEffects lostNow).2, ?_, ?_⟩
      · rw [expire, State.coastSet_eq, ← heldIs, ← State.lossEffects_fst, ← counts]
      · rw [Bool.or_eq_true, reached, loss, heldIs]
        exact and_or_left.symm
    obtain ⟨b, e, hb⟩ := loses
    refine ⟨?_, fun hl hen => ?_, fun hh => ?_, fun hh => ?_⟩
    · rw [e, (State.workSet_sound ..).lossHold]
      simp only [held]
      split
      · exact (counted.holdOrder_frame .ring).2.2.1
      · rfl
    · have toldEvents : told.events = (missed.raise .ringLost (min s.gantry.missLimit 65535)).events := by
        simp only [told, if_pos (show lostNow = true from hl)]
      obtain ⟨e, hm, hk, hnew⟩ := State.raised_among (s := missed)
        (fun P c h => w.events P c (events P c (by rw [toldEvents]; exact h))) hen
      refine ⟨e, hm, hk, fun hn => ?_⟩
      rw [ring]
      exact hnew hn
    · rw [e, hb.2 hh]
    · rw [e, Bool.eq_false_iff.2 (mt hb.1 hh)]
  · refine idleCounted_of (v := told) ?_ ?_ ?_ ?_ w
    · rw [toldIs]
    · rw [toldIs]
    · simp only [told]
      split
      · exact (missed.raise_worked _ _).enables .streamExpired
      · rfl
    · intro hn
      simp only [told]
      split
      · exact missed.raise_absent _ (by decide) hn
      · exact hn
  · rw [ring]
  · rw [ring]
  · rw [ring]
  · rw [ring]
  · rw [expire, State.coastSet_eq, State.workSet_number]
  · rw [ring]
  · rw [ring]
  · rw [ring]
  · rw [w.lines, frame, toldIs]
  · intro hs hm
    rw [ring] at hm ⊢
    exact if_pos (lostNow_iff.2 ⟨hs, hm⟩)
  · intro hs hm
    rw [ring] at hm ⊢
    refine (if_neg fun e => absurd (lostNow_iff.1 e).2 (not_le.2 hm)).trans ?_
    rcases hs with hs | hs <;> simp [hs]
  · intro h1 h2
    rw [ring]
    exact (if_neg fun e => (lostNow_iff.1 e).1.elim h1 h2).trans (if_neg h1)
  · rw [w.gantry, frame, toldIs]
  · rw [w.slotMap, frame, toldIs]
  · rw [w.inForce, frame, toldIs]
  · rw [w.port, frame, toldIs]
  · rw [w.profile h, head h]
  · rw [w.points h, head h]

end Sys2Proof.WeldPass
end

section
/-! SUPPORT. How requests and steps move a segment queue: it loses records from its front or its tail, or gains records
in the successor order. -/

namespace Sys2Proof.Safety

open Sys2Proof.Machine

/-! ## The successor order of a queue -/

/-- A queue that loses records as the blocks take them keeps the successor order (R26, R28). -/
theorem Ordered.moves {k l : Option SegKind} {p q : List Segment} (m : QueueMoves k p l q) (h : Ordered k p) :
    Ordered l q := by
  induction m with
  | refl => exact h
  | complete => exact h.2
  | take => exact ordered_take_one h
  | clear => exact trivial
  | trans _ _ ih ih' => exact ih' (ih h)

theorem QueueOk.moves {s t : State} {h : HeadId} (ok : QueueOk s h)
    (m : QueueMoves (s.head h).seq.lastKind (s.head h).seq.queue (t.head h).seq.lastKind (t.head h).seq.queue) :
    QueueOk t h :=
  ⟨m.mem.2.trans ok.1, ok.2.moves m⟩

theorem QueueOk.worked {s t : State} {h : HeadId} (ok : QueueOk s h) (w : Worked s t) : QueueOk t h :=
  ok.moves (w.queue h)

/-- An update that leaves the head's sequencer leaves its queue. -/
theorem QueueOk.same {s t : State} {h : HeadId} (ok : QueueOk s h) (e : (t.head h).seq = (s.head h).seq) :
    QueueOk t h := by
  unfold QueueOk at ok ⊢
  rwa [e]

/-- Records in order behind the last one join a queue with room for them (R25, R28, R29). -/
theorem QueueOk.append {s : State} {h x : HeadId} {gs : List Segment} (ok : QueueOk s h)
    (ho : Ordered (s.head x).seq.reference gs) (hl : (s.head x).seq.queue.length + gs.length ≤ 16) :
    QueueOk (s.modSeq x fun q => { q with queue := q.queue ++ gs }) h := by
  rcases HeadId.eq_or_other h x with rfl | rfl
  · refine ⟨?_, ?_⟩ <;> rw [State.modSeq_head]
    · exact List.length_append.trans_le hl
    · exact ordered_append ok.2 ho
  · exact ok.same (by rw [State.modSeq_other])

end Sys2Proof.Safety

namespace Sys2Proof.Machine

open Sys2Proof.Safety

/-! ## What the requests on other tables leave -/

/-- A head changed outside its sequencer. -/
theorem State.modHead_seq (s : State) (x h : HeadId) {f : Head → Head} (hf : (f (s.head x)).seq = (s.head x).seq) :
    ((s.modHead x f).head h).seq = (s.head h).seq := by
  rcases HeadId.eq_or_other h x with rfl | rfl
  · rw [State.modHead_head, hf]
  · rw [State.modHead_other]

theorem State.modMap_seq (s : State) (x h : HeadId) (f : CompMap → CompMap) :
    ((s.modMap x f).head h).seq = (s.head h).seq :=
  s.modHead_seq x h rfl

theorem State.refuseFence_seq (s : State) (x : HeadId) (k : Nat) (h : HeadId) :
    ((s.refuseFence x k).head h).seq = (s.head h).seq := by
  unfold State.refuseFence
  rw [State.raise_head, State.modMap_seq]

theorem putGuards_head (k : Nat) (gs : List GuardRecord) (s : State) (h : HeadId) :
    (putGuards k gs s).head h = s.head h := by
  induction gs generalizing k s with
  | nil => rfl
  | cons g gs ih => exact ih (k + 1) (s.putGuard k g)

theorem State.onHead_seq {s : State} {h : HeadId} (r : Request) {f : HeadId → Answer}
    (hf : ∀ x, ((f x).state.head h).seq = (s.head h).seq) : ((s.onHead r f).state.head h).seq = (s.head h).seq := by
  unfold State.onHead
  split
  · exact hf _
  · rfl

theorem State.ofLength_seq {s : State} {h : HeadId} (r : Request) (n : Nat) {a : Answer}
    (ha : (a.state.head h).seq = (s.head h).seq) : ((s.ofLength r n a).state.head h).seq = (s.head h).seq := by
  unfold State.ofLength
  split
  · exact ha
  · rfl

theorem writePoint_seq (s : State) (x : HeadId) (k : Nat) (p : MapPoint) (h : HeadId) :
    ((writePoint s x k p).state.head h).seq = (s.head h).seq := by
  unfold writePoint
  dsimp only
  split
  · exact s.modMap_seq x h _
  · exact s.refuseFence_seq x k h
  · rfl

theorem writeHeader_seq (s : State) (x : HeadId) (n : Nat) (h : HeadId) :
    ((writeHeader s x n).state.head h).seq = (s.head h).seq := by
  unfold writeHeader
  dsimp only
  split
  · rfl
  · split
    · rfl
    · split
      · rfl
      · split
        · exact s.refuseFence_seq x n h
        · exact s.modMap_seq x h _

theorem writeGuard_seq (s : State) (i : Nat) (bs : List Byte) (h : HeadId) :
    ((writeGuard s i bs).state.head h).seq = (s.head h).seq := by
  unfold writeGuard
  split
  · rfl
  · split
    · rfl
    · split <;> rfl

theorem writeGantry_seq (s : State) (i : Nat) (bs : List Byte) (h : HeadId) :
    ((writeGantry s i bs).state.head h).seq = (s.head h).seq := by
  unfold writeGantry
  split
  · rfl
  · split
    · rfl
    · split <;> rfl

theorem writePage_seq (s : State) (x : HeadId) (page : Nat) (bs : List Byte) (h : HeadId) :
    ((writePage s x page bs).state.head h).seq = (s.head h).seq := by
  unfold writePage
  dsimp only
  split
  · rfl
  · split
    · rfl
    · split
      · exact s.modHead_seq x h rfl
      · exact s.modHead_seq x h rfl
      · rfl

theorem writeSlot_seq (s : State) (i : Nat) (bs : List Byte) (h : HeadId) :
    ((writeSlot s i bs).state.head h).seq = (s.head h).seq := by
  unfold writeSlot
  split
  · rfl
  · split
    · rfl
    · split <;> rfl

/-- WRITE RECORD leaves the sequencers (R33, R175). -/
theorem answerWriteRecord_seq (s : State) (r : Request) (h : HeadId) :
    ((answerWriteRecord s r).state.head h).seq = (s.head h).seq := by
  have header : ((answerWriteMapHeader s r).state.head h).seq = (s.head h).seq :=
    State.onHead_seq r fun x => State.ofLength_seq r 10 (writeHeader_seq s x _ h)
  unfold answerWriteRecord
  split
  case h_1 => rfl
  case h_2 => exact State.onHead_seq r fun _ => rfl
  case h_3 =>
    unfold answerWriteMap
    split
    · exact header
    · exact State.onHead_seq r fun x => State.ofLength_seq r 8 (writePoint_seq s x _ _ h)
  case h_4 => exact State.ofLength_seq r 16 (writeGuard_seq s _ _ h)
  case h_5 => exact State.ofLength_seq r 42 (writeGantry_seq s _ _ h)
  case h_6 =>
    refine State.onHead_seq r fun x => ?_
    split
    · rfl
    · exact State.ofLength_seq r _ (writePage_seq s x _ _ h)
  case h_7 => exact State.ofLength_seq r 3 (writeSlot_seq s _ _ h)

/-- READ RECORD leaves the state it reads (R174). -/
theorem answerReadRecord_state (s : State) (r : Request) : (answerReadRecord s r).state = s := by
  unfold answerReadRecord State.onHead readSegmentRecord readMapRecord readGuardRecord readGantryRecord readPageRecord
    readSlotRecord
  dsimp only
  repeat' split
  all_goals rfl

/-- CANCEL PENDING takes records from the queue (R32). -/
theorem State.cancel_worked (s : State) (x : HeadId) : Worked s (s.cancel x) := by
  unfold State.cancel
  split
  · exact Worked.modSeq s x _ (.clear _ _)
  · exact s.dropPending_worked x

end Sys2Proof.Machine

namespace Sys2Proof.Safety

open Sys2Proof.Machine

/-! ## What the requests on the queues leave -/

theorem QueueOk.onHead {s : State} {h : HeadId} (ok : QueueOk s h) (r : Request) {f : HeadId → Answer}
    (hf : ∀ x, QueueOk (f x).state h) : QueueOk (s.onHead r f).state h := by
  unfold State.onHead
  split
  · exact hf _
  · exact ok

theorem QueueOk.appendRecord {s : State} {h : HeadId} (ok : QueueOk s h) (x : HeadId) (bs : List Byte) :
    QueueOk (Machine.appendRecord s x bs).state h := by
  unfold Machine.appendRecord
  dsimp only
  split
  · exact ok
  next room =>
    split
    · exact ok
    next g _ =>
      split
      next follows => exact ok.append (gs := [g]) ⟨follows, trivial⟩ (by simp; omega)
      · exact ok

/-- PASS START fills the pass record, which no queue reads, and starts the heads (R4). -/
theorem QueueOk.startPass {s : State} {h : HeadId} (ok : QueueOk s h) (o : PassOrder) : QueueOk (s.startPass o) h :=
  have named : QueueOk { s with pass := o.record } h := ok
  named.worked (s.startPass_worked o)

theorem QueueOk.applySegments {s : State} {h : HeadId} (ok : QueueOk s h) (x : HeadId) (records : List (List Byte)) :
    QueueOk (Machine.applySegments s x records).state h := by
  unfold Machine.applySegments
  dsimp only
  split
  · exact ok
  next room =>
    split
    next gs hgs =>
      obtain ⟨order, -, count⟩ := checkSegments_ok records _ _ _ hgs
      exact ok.append order (by omega)
    · exact ok

theorem applyPoints_seq (s : State) (x : HeadId) (first : Nat) (records : List (List Byte)) (h : HeadId) :
    ((applyPoints s x first records).state.head h).seq = (s.head h).seq := by
  unfold applyPoints
  dsimp only
  split
  · exact s.modMap_seq x h _
  · split
    · exact s.refuseFence_seq x _ h
    · rfl

theorem applyGuards_seq (s : State) (first : Nat) (records : List (List Byte)) (h : HeadId) :
    ((applyGuards s first records).state.head h).seq = (s.head h).seq := by
  unfold applyGuards
  split
  · rfl
  · split
    · exact congrArg Head.seq (putGuards_head ..)
    · rfl

theorem QueueOk.completeStream {s : State} {h : HeadId} (ok : QueueOk s h) (c : Stream) (records : List (List Byte)) :
    QueueOk (Machine.completeStream s c records).state h := by
  have closed : QueueOk s.closeStream h := ok
  unfold Machine.completeStream
  dsimp only
  split
  · exact closed
  · split
    · exact closed.applySegments ..
    · exact closed.same (applyPoints_seq ..)
    · exact closed.same (applyGuards_seq ..)

theorem QueueOk.streamData {s : State} {h : HeadId} (ok : QueueOk s h) (r : Request) :
    QueueOk (answerStreamData s r).state h := by
  unfold answerStreamData
  dsimp only
  split
  · exact ok
  · split
    · exact ok
    · split
      · exact ok.completeStream ..
      · exact ok

/-! ## Every request and every step -/

/-- Every request keeps a queue in the successor order and within its length (R25, R28, R29). -/
theorem QueueOk.answer {s : State} {h : HeadId} (ok : QueueOk s h) (k : RequestKind) (r : Request) :
    QueueOk (k.answer s r).state h := by
  cases k <;> simp only [RequestKind.answer]
  case readRecord => exact (answerReadRecord_state s r).symm ▸ ok
  case writeRecord => exact ok.same (answerWriteRecord_seq s r h)
  case appendSegment => exact ok.onHead r fun x => ok.appendRecord x _
  case cancelPending => exact ok.onHead r fun x => ok.worked (State.cancel_worked s x)
  case streamData => exact ok.streamData r
  case passStart =>
    unfold answerPassStart
    repeat' split
    case h_2 => exact ok.startPass _
    all_goals exact ok
  case passHold =>
    unfold answerPassHold
    repeat' split
    case isFalse.isFalse => exact ok.worked (s.holdOrder_worked _)
    all_goals exact ok
  case passAbort =>
    unfold answerPassAbort
    repeat' split
    case isFalse.isFalse => exact ok.worked s.abortPass_worked
    all_goals exact ok
  case readStatus =>
    unfold answerReadStatus
    split <;> exact ok
  case streamOpen =>
    unfold answerStreamOpen
    dsimp only
    repeat' split
    all_goals exact ok
  case streamCancel =>
    unfold answerStreamCancel
    split <;> exact ok
  case passResume =>
    unfold answerPassResume
    dsimp only
    repeat' split
    all_goals exact ok
  case enterReady =>
    unfold answerEnterReady
    repeat' split
    all_goals exact ok
  case enterConfig =>
    unfold answerEnterConfig
    repeat' split
    all_goals exact ok
  case takeEvent => exact ok
  case setEventMask =>
    unfold answerSetEventMask
    dsimp only
    split <;> exact ok
  case clearFault =>
    unfold answerClearFault
    repeat' split
    all_goals exact ok
  case resetNode =>
    unfold answerResetNode
    split <;> exact ok

/-- A queue that has just been reset is empty (R25). -/
theorem QueueOk.ofEmpty {s : State} {h : HeadId} (e : (s.head h).seq = .initial) : QueueOk s h := by
  unfold QueueOk
  rw [e]
  exact ⟨by decide, trivial⟩

/-- Every part of a command keeps a queue in the successor order and within its length. -/
theorem queueOk_kept (h : HeadId) : Kept fun s => QueueOk s h where
  worked := fun _ _ w ok => ok.worked w
  power := fun _ _ => id
  port := fun _ _ => id
  pending := fun _ _ => id
  reply := fun _ _ => id
  powerOn := fun _ => .ofEmpty (by cases h <;> rfl)
  reset := fun _ _ _ _ => .ofEmpty (by cases h <;> rfl)
  answer := fun k _ r ok => ok.answer k r
  bad := fun _ => id
  short := fun _ => id
  early := fun _ => id
  accepted := fun _ _ _ => id
  samples := fun _ _ => id
  missed := fun _ _ _ _ => id
  lost := fun _ => id
  idle := fun _ _ _ => id
  close := fun _ => id

end Sys2Proof.Safety

namespace Sys2Proof.SegmentQueues

open Sys2Proof.Safety

/-- Settles O4: the blocks take records from a queue (`Worked`), and requests append records in the successor order
(`QueueOk.answer`); every step is made of these (`Kept`). -/
theorem stepKeepsQueueOrder : Obligations.StepKeepsQueueOrder :=
  fun _ _ h ok e => (queueOk_kept h).step ok e

end Sys2Proof.SegmentQueues
end

section
/-! SUPPORT. The machine right after reset. -/

namespace Sys2Proof.Safety

open Sys2Proof.Machine

/-! ## Heads at rest -/

/-- A head right after reset is parked, and nothing is asked of the tool but the demand of the output set (R70, R71). -/
theorem ToolOk.ofIdle {s : State} {h : HeadId} (idle : (s.head h).seq.state = .idle)
    (demand : (s.head h).reg.demand = s.prevDemand h) : ToolOk s h := by
  simp [ToolOk, idle, demand, HeadState.parked]

/-- An idle head neither stands nor runs out, so that a bridge at rest is all that is asked (R59). -/
theorem BridgeOk.ofIdle {s : State} (idle : ∀ h, (s.head h).seq.state = .idle)
    (rest : s.planner.xCommand = 0) : BridgeOk s := by
  refine ⟨.inr rest, fun h standing => ?_, fun h _ phase => ?_⟩
  · simp [Standing, Head.exitPhase, idle h] at standing
  · simp [Head.exitPhase, idle h] at phase

theorem reset_head (h : HeadId) : State.reset.head h = .initial .default [] := by
  cases h <;> rfl

end Sys2Proof.Safety

namespace Sys2Proof.SegmentQueues

open Sys2Proof.Machine Sys2Proof.Safety

/-- Settles O9: after reset nothing is pending, queued, mapped or streamed, the counters are 0, and the heads are idle. -/
theorem invariantsHoldAtReset : Obligations.InvariantsHoldAtReset := by
  have heads : HeadsOk State.reset := .powerOn 1
  have ⟨mode, _, _, queues⟩ := heads
  have idle : ∀ h, (State.reset.head h).seq.state = .idle := fun h => by rw [reset_head]; rfl
  have mapped : ∀ h, MapOk State.reset h := fun h => by
    unfold MapOk
    rw [reset_head]
    exact ⟨by decide, .nil⟩
  have tool : ∀ h, ToolOk State.reset h := fun h => .ofIdle (idle h) (by cases h <;> rfl)
  refine ⟨⟨.nil, ?_⟩, ?_, fun h => (queues h).1, mapped, mode, rfl, rfl, ?_, ?_, heads, .ofIdle idle rfl, tool⟩
  case refine_1 => exact fun e he => nomatch he
  case refine_2 => exact fun e he => nomatch he
  case refine_3 => unfold RingCounts; decide
  case refine_4 => unfold FaultOk; decide

end Sys2Proof.SegmentQueues
end

section
/-! SUPPORT. A served request by what it answers: the rules that the statements on reads, refusals, queues and streams
go by. -/

namespace Sys2Proof.Machine

open Sys2Proof.Safety

/-! ## Commands by their answers -/

/-- A request that is no read, by its answer (R170 to R172). -/
theorem exec_answered {c : Instr} {k : RequestKind} {r : Request} {s t : State} {code : ReplyCode} {d : ReplyData}
    (hc : asked c = some (k, r)) (hs : s.serving = true) (hl : k.lengthOk r.length.toNat = true) (hr : k.reads = false)
    (ha : k.answer s r = ⟨t, code, d⟩) : exec c s = .next (replied t k r code d) := by
  rw [exec_replied hc hs hl hr, ha]

/-- READ RECORD by its answer, which changes no state (R172, R174). -/
theorem exec_readRecord {r : Request} {s : State} {code : ReplyCode} {d : ReplyData} (hs : s.serving = true)
    (hl : r.length.toNat = 0) (ha : answerReadRecord s r = ⟨s, code, d⟩) :
    exec (.readRecord r) s = .next (readReply s .readRecord r code d) := by
  have length : RequestKind.readRecord.lengthOk r.length.toNat = true := by rw [hl]; rfl
  have answer : s.checkedAnswer .readRecord r = ⟨s, code, d⟩ := by
    rw [State.checkedAnswer, if_pos length]
    exact ha
  rw [exec_asked (k := .readRecord) (r := r) rfl, State.request_served hs, answer]
  rfl

/-! ## Selectors -/

theorem State.onHead_of {r : Request} {h : HeadId} (hh : headOfCode r.head.toNat = some h) (s : State)
    (f : HeadId → Answer) : s.onHead r f = f h := by
  rw [State.onHead, hh]

/-- A head selector that names neither head (R190). -/
theorem headOfCode_unknown {n : Nat} (h : 1 < n) : headOfCode n = none := by
  unfold headOfCode
  split
  case h_3 => rfl
  all_goals omega

theorem State.onHead_unknown {r : Request} (hh : 1 < r.head.toNat) (s : State) (f : HeadId → Answer) :
    s.onHead r f = s.refuse .value := by
  rw [State.onHead, headOfCode_unknown hh]

/-- A table selector that names no table (R190). -/
theorem Table.ofCode_unknown {n : Nat} (h : 5 < n) : Table.ofCode n = none := by
  unfold Table.ofCode
  split
  case h_7 => rfl
  all_goals omega

theorem State.ofLength_refused {r : Request} {n : Nat} (h : r.length.toNat ≠ n) (s : State) (a : Answer) :
    s.ofLength r n a = s.refuse .value :=
  if_neg h

/-! ## READ RECORD by table (R174) -/

section
variable {s : State} {r : Request}

theorem readSegmentRecord_of {h : HeadId} {i : Nat} {g : Segment} (hg : (s.head h).seq.queue[i]? = some g) :
    readSegmentRecord s h i = s.done (.image (g.image ++ bytesOf 2 (s.head h).seq.queue.length)) := by
  simp only [readSegmentRecord, hg]

theorem readSegmentRecord_outside {h : HeadId} {i : Nat} (out : (s.head h).seq.queue.length ≤ i) :
    readSegmentRecord s h i = s.refuse .index := by
  simp only [readSegmentRecord, List.getElem?_eq_none out]

theorem readMapRecord_header {h : HeadId} {i : Nat} (hi : i = 65535) :
    readMapRecord s h i = s.done (.image (s.head h).map.headerImage) :=
  if_pos hi

theorem readMapRecord_of {h : HeadId} {i : Nat} {p : MapPoint} (hi : i ≠ 65535)
    (hp : (s.head h).map.points[i]? = some p) :
    readMapRecord s h i = s.done (.image (p.image ++ bytesOf 2 (s.head h).map.points.length)) := by
  simp only [readMapRecord, if_neg hi, hp]

theorem readMapRecord_outside {h : HeadId} {i : Nat} (hi : i ≠ 65535) (out : (s.head h).map.points.length ≤ i) :
    readMapRecord s h i = s.refuse .index := by
  simp only [readMapRecord, if_neg hi, List.getElem?_eq_none out]

theorem readGuardRecord_of {i : Nat} {g : GuardRecord} (hg : s.guards[i]? = some g) :
    readGuardRecord s i = s.done (.image g.image) := by
  simp only [readGuardRecord, hg]

theorem readGuardRecord_outside {i : Nat} (out : s.guards.length ≤ i) : readGuardRecord s i = s.refuse .index := by
  simp only [readGuardRecord, List.getElem?_eq_none out]

theorem readSlotRecord_of {i : Nat} {e : SlotEntry} (he : s.slotMap[i]? = some e) :
    readSlotRecord s i = s.done (.image e.image) := by
  simp only [readSlotRecord, he]

theorem readSlotRecord_outside {i : Nat} (out : s.slotMap.length ≤ i) : readSlotRecord s i = s.refuse .index := by
  simp only [readSlotRecord, List.getElem?_eq_none out]

theorem answerReadRecord_segment {h : HeadId} (ht : r.table.toNat = 0) (hh : headOfCode r.head.toNat = some h) :
    answerReadRecord s r = readSegmentRecord s h r.index.toNat := by
  rw [answerReadRecord, ht]
  exact State.onHead_of hh ..

theorem answerReadRecord_map {h : HeadId} (ht : r.table.toNat = 1) (hh : headOfCode r.head.toNat = some h) :
    answerReadRecord s r = readMapRecord s h r.index.toNat := by
  rw [answerReadRecord, ht]
  exact State.onHead_of hh ..

theorem answerReadRecord_guard (ht : r.table.toNat = 2) :
    answerReadRecord s r = readGuardRecord s r.index.toNat := by
  rw [answerReadRecord, ht]
  rfl

theorem answerReadRecord_gantry (ht : r.table.toNat = 3) :
    answerReadRecord s r = readGantryRecord s r.index.toNat := by
  rw [answerReadRecord, ht]
  rfl

theorem answerReadRecord_page {h : HeadId} (ht : r.table.toNat = 4) (hh : headOfCode r.head.toNat = some h) :
    answerReadRecord s r = readPageRecord s h r.index.toNat := by
  rw [answerReadRecord, ht]
  exact State.onHead_of hh ..

theorem answerReadRecord_slot (ht : r.table.toNat = 5) :
    answerReadRecord s r = readSlotRecord s r.index.toNat := by
  rw [answerReadRecord, ht]
  rfl

theorem answerReadRecord_unknown (ht : 5 < r.table.toNat) : answerReadRecord s r = s.refuse .value := by
  simp only [answerReadRecord, Table.ofCode_unknown ht]

theorem answerReadRecord_noHead (hh : 1 < r.head.toNat)
    (ht : r.table.toNat = 0 ∨ r.table.toNat = 1 ∨ r.table.toNat = 4) : answerReadRecord s r = s.refuse .value := by
  rcases ht with ht | ht | ht <;> rw [answerReadRecord, ht] <;> exact State.onHead_unknown hh ..

end

end Sys2Proof.Machine

namespace Sys2Proof.SegmentQueues

open Sys2Proof.Machine Sys2Proof.Safety

/-- Settles O26: the answer of each table, by its selector and its index. -/
theorem readRecordTables : Obligations.ReadRecordTables := by
  intro r s hs hl i answers
  have of {a : Answer} (e : answerReadRecord s r = a) ⦃c d⦄ (ha : a = ⟨s, c, d⟩) : answers c d :=
    exec_readRecord hs hl (e.trans ha)
  refine ⟨fun h hh => ⟨fun ht => ?_, fun ht => ?_, fun ht => ?_⟩, fun ht => ?_, fun ht => ?_, fun ht => ?_, fun ht => ?_,
    fun hh ht => ?_⟩
  · have read := of (answerReadRecord_segment ht hh)
    exact ⟨fun _ hg => read (readSegmentRecord_of hg), fun out => read (readSegmentRecord_outside out)⟩
  · have read := of (answerReadRecord_map ht hh)
    exact ⟨fun header => read (readMapRecord_header header), fun _ point hp => read (readMapRecord_of point hp),
      fun point out => read (readMapRecord_outside point out)⟩
  · have read := of (answerReadRecord_page ht hh)
    exact ⟨fun inside => read (if_pos inside), fun out => read (if_neg (not_le.2 out))⟩
  · have read := of (answerReadRecord_guard ht)
    exact ⟨fun _ hg => read (readGuardRecord_of hg), fun out => read (readGuardRecord_outside out)⟩
  · have read := of (answerReadRecord_gantry ht)
    exact ⟨fun first => read (if_pos first), fun out => read (if_neg out)⟩
  · have read := of (answerReadRecord_slot ht)
    exact ⟨fun _ he => read (readSlotRecord_of he), fun out => read (readSlotRecord_outside out)⟩
  · exact of (answerReadRecord_unknown ht) rfl
  · exact of (answerReadRecord_noHead hh ht) rfl

end Sys2Proof.SegmentQueues
end

section
/-! SUPPORT. Appends and cancels, and what is refused before a request is looked at. -/

namespace Sys2Proof.Machine

open Sys2Proof.Safety

/-! ## Appends and cancels -/

/-- The successor order as a table (R28). -/
theorem mayFollow_iff (before : Option SegKind) (k : SegKind) : mayFollow before k = true ↔ match before with
    | none => k = .start
    | some .start => k = .dwell ∨ k = .traverse
    | some .dwell => k = .dwell ∨ k = .traverse ∨ k = .exit
    | some .traverse => k = .traverse ∨ k = .dwell ∨ k = .exit
    | some .exit => k = .start := by
  rcases before with _ | before
  · cases k <;> decide
  · cases before <;> cases k <;> decide

section
variable {s : State} {h : HeadId} {bs : List Byte}

theorem appendRecord_full (full : 16 ≤ (s.head h).seq.queue.length) : appendRecord s h bs = s.refuse .full :=
  if_pos full

theorem appendRecord_unread (room : (s.head h).seq.queue.length < 16)
    (hg : readSegment (s.head h).profile.depth.dMax bs = none) : appendRecord s h bs = s.refuse .value := by
  simp only [appendRecord, if_neg (not_le.2 room), hg]

theorem appendRecord_disorder {g : Segment} (room : (s.head h).seq.queue.length < 16)
    (hg : readSegment (s.head h).profile.depth.dMax bs = some g)
    (order : mayFollow (s.head h).seq.reference g.kind = false) : appendRecord s h bs = s.refuse .order := by
  simp only [appendRecord, if_neg (not_le.2 room), hg, order]
  rfl

theorem appendRecord_taken {g : Segment} (room : (s.head h).seq.queue.length < 16)
    (hg : readSegment (s.head h).profile.depth.dMax bs = some g)
    (order : mayFollow (s.head h).seq.reference g.kind = true) :
    appendRecord s h bs = (s.append h g).done (.number ((s.head h).seq.queue.length + 1)) := by
  simp only [appendRecord, if_neg (not_le.2 room), hg, if_pos order]

end

/-- An update of one head's sequencer that reads what stood in it. -/
theorem State.modSeq_congr {s : State} {h : HeadId} {f g : Sequencer → Sequencer}
    (e : f (s.head h).seq = g (s.head h).seq) : s.modSeq h f = s.modSeq h g :=
  State.modHead_congr (congrArg (fun q => { s.head h with seq := q }) e)

/-- The answer of CANCEL PENDING counts the records it removes (R32). -/
theorem answerCancel_of {s : State} {h : HeadId} {r : Request} (hh : headOfCode r.head.toNat = some h) :
    answerCancel s r = (s.cancel h).done
      (.number ((s.head h).seq.queue.length - ((s.cancel h).head h).seq.queue.length)) :=
  State.onHead_of hh ..

theorem State.cancel_working {s : State} {h : HeadId} (w : (s.headState h).working = true) :
    s.cancel h = s.modSeq h fun x => { x with queue := (s.head h).seq.queue.take 1 } := by
  rw [State.cancel, State.outOfPass, w]
  exact State.modSeq_congr (s := s) (f := fun q => { q with queue := q.queue.take 1 }) rfl

theorem State.cancel_outOfPass {s : State} {h : HeadId} (w : (s.headState h).working = false) :
    s.cancel h = s.modSeq h fun x => { x with queue := [], lastKind := none } := by
  rw [State.cancel, State.outOfPass, w]
  rfl

end Sys2Proof.Machine

namespace Sys2Proof.SegmentQueues

open Sys2Proof.Machine Sys2Proof.Safety

/-- Settles O32: the checks of an append in their order, and a cancel by whether the head works. -/
theorem appendsAndCancels : Obligations.AppendsAndCancels := by
  refine ⟨mayFollow_iff, fun r h s hs hh => ?_⟩
  intro q append cancel reference
  refine ⟨fun hl => ?_, fun hl => ⟨fun working => ?_, fun left => ?_⟩⟩
  · intro read
    have answers {a : Answer} (e : appendRecord s h (recordOf r 16) = a) ⦃t c d⦄ (ha : a = ⟨t, c, d⟩) : append t c d :=
      exec_answered rfl hs (by rw [hl]; rfl) rfl ((State.onHead_of hh ..).trans (e.trans ha))
    refine ⟨fun full => answers (appendRecord_full full) rfl,
      fun room unread => answers (appendRecord_unread room unread) rfl,
      fun g room hg order => answers (appendRecord_disorder room hg order) rfl,
      fun g room hg order => answers (appendRecord_taken room hg order) ?_⟩
    rw [State.append, State.modSeq_congr (g := fun x => { x with queue := q ++ [g] }) rfl]
    rfl
  · refine exec_answered rfl hs (by rw [hl]; rfl) rfl ((answerCancel_of hh).trans ?_)
    rw [State.cancel_working working, State.modSeq_head, List.length_take]
    simp only [State.done, q]
    congr 3
    omega
  · refine exec_answered rfl hs (by rw [hl]; rfl) rfl ((answerCancel_of hh).trans ?_)
    rw [State.cancel_outOfPass left, State.modSeq_head]
    rfl

end Sys2Proof.SegmentQueues
end

section
/-! SUPPORT. What is refused before a request is looked at. -/

namespace Sys2Proof.Machine

open Sys2Proof.Safety

/-! ## Requests in a frame's area -/

/-- A frame leaves what its area's request leaves, but for the frame itself (R151, R169). -/
theorem State.carryFrame_eq (s : State) (f : Frame) : s.carryFrame f =
    { s.serveArea f.payload with port := { (s.serveArea f.payload).port with
        passing := (s.carryFrame f).port.passing
        outgoing := (s.carryFrame f).port.outgoing } } := rfl

/-- An addressed area is served as the request its code names (R169, R170). -/
theorem State.serveArea_of {s : State} {payload : List Byte} {k : RequestKind} (hl : 64 ≤ payload.length)
    (hs : s.serving = true) (ha : fieldU 0 1 (payload.take 64) = s.lines.strap.toNat)
    (hx : xorHalves (payload.take 64) = 0)
    (hk : RequestKind.ofCode (BitVec.ofNat 8 (fieldU 1 1 (payload.take 64))).toNat = some k) :
    s.serveArea payload = s.request k (readArea (payload.take 64)) := by
  have addressed : s.addressed (payload.take 64) = true := by simp [State.addressed, ha, hx]
  rw [State.serveArea, if_pos ⟨hl, hs, addressed⟩, State.serveCode, hk, State.request, if_pos hs]

/-- A field of one byte is the number its byte holds. -/
theorem fieldU_one_lt (off : Nat) (bs : List Byte) : fieldU off 1 bs < 256 := by
  have h := readU_lt (slice off 1 bs)
  rwa [slice_length] at h

/-- The table selector of a request in a frame's area (R191). -/
theorem readArea_table (area : List Byte) : (readArea area).table.toNat = fieldU 6 1 area := by
  have h := fieldU_one_lt 6 area
  simp only [readArea, BitVec.toNat_ofNat]
  omega

/-! ## Refusals -/

/-- A request whose own checks refuse it with VALUE is so answered at every length (R170). -/
theorem State.request_refused {k : RequestKind} {r : Request} {s : State} (hs : s.serving = true)
    (hr : k.reads = false) (ha : k.answer s r = s.refuse .value) : s.request k r = replied s k r .value .empty := by
  have checked : s.checkedAnswer k r = s.refuse .value := by
    unfold State.checkedAnswer
    split
    · exact ha
    · rfl
  rw [State.request_served hs, checked, hr]
  rfl

theorem exec_refused {c : Instr} {k : RequestKind} {r : Request} {s : State} (hc : asked c = some (k, r))
    (hs : s.serving = true) (hr : k.reads = false) (ha : k.answer s r = s.refuse .value) :
    exec c s = .next (replied s k r .value .empty) := by
  rw [exec_asked hc, State.request_refused hs hr ha]

/-- A request whose length is not its layout's is answered VALUE; a read leaves the last reply record (R170, R172). -/
theorem exec_wrongLength {c : Instr} {k : RequestKind} {r : Request} {s : State} (hc : asked c = some (k, r))
    (hs : s.serving = true) (hl : k.lengthOk r.length.toNat = false) :
    exec c s = .next (if k = .readStatus ∨ k = .readRecord then readReply s k r .value .empty
      else replied s k r .value .empty) := by
  rw [exec_asked hc, State.request_served hs, State.checkedAnswer, hl]
  cases k <;> rfl

/-- A request refused with VALUE on either head is refused with VALUE. -/
theorem State.onHead_refused {s : State} {f : HeadId → Answer} (hf : ∀ h, f h = s.refuse .value) (r : Request) :
    s.onHead r f = s.refuse .value := by
  unfold State.onHead
  split
  · exact hf _
  · rfl

/-- The header row of a map, by itself or as index 65535 of the map, is refused with VALUE at another length (R175). -/
theorem answerWriteMapHeader_length {s : State} {r : Request} (hl : r.length.toNat ≠ 10) :
    answerWriteMapHeader s r = s.refuse .value :=
  State.onHead_refused (fun _ => State.ofLength_refused hl ..) r

theorem answerWriteMap_length {s : State} {r : Request} (hl : r.length.toNat ≠ 8) (hi : r.index.toNat ≠ 65535) :
    answerWriteMap s r = s.refuse .value := by
  rw [answerWriteMap, if_neg hi]
  exact State.onHead_refused (fun _ => State.ofLength_refused hl ..) r

theorem answerWriteMap_noHead {s : State} {r : Request} (hh : 1 < r.head.toNat) :
    answerWriteMap s r = s.refuse .value := by
  unfold answerWriteMap
  split
  · exact State.onHead_unknown hh ..
  · exact State.onHead_unknown hh ..

theorem answerWriteRecord_unknown {s : State} {r : Request} (ht : 5 < r.table.toNat) :
    answerWriteRecord s r = s.refuse .value := by
  simp only [answerWriteRecord, Table.ofCode_unknown ht]

/-- The lengths of the layouts (R191). -/
theorem RequestKind.lengthOk_iff (k : RequestKind) (n : Nat) : k.lengthOk n = true ↔
    k = .writeRecord ∨ k = .appendSegment ∧ n = 16 ∨ k = .streamOpen ∧ n = 8 ∨
    k = .streamData ∧ (n = 16 ∨ n = 32 ∨ n = 48) ∨ k = .passStart ∧ n = 10 ∨ k = .setEventMask ∧ n = 2 ∨
    (k = .readStatus ∨ k = .readRecord ∨ k = .cancelPending ∨ k = .streamCancel ∨ k = .passHold ∨ k = .passResume ∨
      k = .passAbort ∨ k = .enterReady ∨ k = .enterConfig ∨ k = .takeEvent ∨ k = .clearFault ∨ k = .resetNode) ∧
      n = 0 := by
  cases k <;> simp [RequestKind.lengthOk, or_assoc]

end Sys2Proof.Machine

namespace Sys2Proof.SegmentQueues

open Sys2Proof.Machine Sys2Proof.Safety

/-- Settles O18: the checks that come before a request's own, in an area of a frame and in a command. -/
theorem malformedRequestsRefused : Obligations.MalformedRequestsRefused := by
  refine ⟨RequestKind.lengthOk_iff, fun f s hp hs hl => ?_, fun c k r s hc => ⟨fun hs => ?_, fun hs hl => ?_⟩,
    fun r s hs => ?_⟩
  · intro area strap sealed code table
    refine ⟨s.carryFrame f, congrArg Host.Outcome.next (if_pos hp), ?_⟩
    have named : RequestKind.ofCode (BitVec.ofNat 8 (fieldU 1 1 area)).toNat = some .writeRecord := by rw [code]; rfl
    have refuses : RequestKind.writeRecord.answer s (readArea area) = s.refuse .value :=
      answerWriteRecord_unknown (by rw [readArea_table]; exact table)
    have served : s.serveArea f.payload = replied s .writeRecord (readArea area) .value .empty :=
      (State.serveArea_of hl hs strap sealed named).trans (State.request_refused hs rfl refuses)
    dsimp only
    rw [← served]
    exact s.carryFrame_eq f
  · rw [exec_asked hc, State.request_passed hs]
  · exact exec_wrongLength hc hs hl
  · intro refused
    have write {c : Instr} {q : Request} (hc : asked c = some (.writeRecord, q))
        (ha : answerWriteRecord s q = s.refuse .value) : refused c := fun k q' e => by
      obtain ⟨rfl, rfl⟩ := Prod.mk.inj (Option.some.inj (hc.symm.trans e))
      exact exec_refused e hs rfl ha
    refine ⟨fun hl hi => write rfl (answerWriteMap_length hl hi), fun hl => write rfl (answerWriteMapHeader_length hl),
      fun hl => write rfl (State.ofLength_refused hl ..), fun hl => write rfl (State.ofLength_refused hl ..),
      fun hl => write rfl (State.ofLength_refused hl ..), fun hh => ⟨write rfl (answerWriteMap_noHead hh),
        write rfl (State.onHead_unknown hh ..), write rfl (State.onHead_unknown hh ..), fun k q e => ?_, fun k q e => ?_⟩,
      write rfl (State.onHead_refused (fun _ => rfl) _), fun code _ => ?_⟩
    · cases e
      exact exec_refused rfl hs rfl (State.onHead_unknown hh ..)
    · cases e
      exact exec_refused rfl hs rfl (State.onHead_unknown hh ..)
    · show Host.Outcome.next (s.requestUnknown code r) = _
      rw [State.requestUnknown, if_pos hs]
      rfl

end Sys2Proof.SegmentQueues
end

section
/-! SUPPORT. Segment records and their images. -/

namespace Sys2Proof.Machine

open Sys2Proof.Safety

/-! ## Numbers and their bytes -/

theorem bytesOfNat_length (w v : Nat) : (bytesOfNat w v).length = w := by
  induction w generalizing v with
  | zero => rfl
  | succ w ih => exact congrArg (· + 1) (ih _)

/-- The bytes of a number read back as the number, as far as they reach (R189). -/
theorem readU_bytesOfNat (w v : Nat) : readU (bytesOfNat w v) = v % 256 ^ w := by
  induction w generalizing v with
  | zero => simp [bytesOfNat, readU, Nat.mod_one]
  | succ w ih =>
    have power : 256 ^ (w + 1) = 256 * 256 ^ w := Nat.pow_succ'
    rw [bytesOfNat, readU, ih, BitVec.toNat_ofNat, power, Nat.mod_mul]

/-- A number below `256 ^ w` reads back from its `w` bytes (R189). -/
theorem readU_bytesOf {w : Nat} {v : Int} (h0 : 0 ≤ v) (h : v < 256 ^ w) : (readU (bytesOf w v) : Int) = v := by
  have power : (2 : Int) ^ (8 * w) = 256 ^ w := by rw [pow_mul]; rfl
  rw [bytesOf, readU_bytesOfNat, power, Int.emod_eq_of_lt h0 h]
  zify
  rw [Int.toNat_of_nonneg h0, Int.emod_eq_of_lt h0 h]

theorem readU_bytesOf_nat {w v : Nat} (h : v < 256 ^ w) : readU (bytesOf w v) = v := by
  exact_mod_cast readU_bytesOf (w := w) (v := v) (by omega) (by exact_mod_cast h)

/-- A signed 32-bit number reads back from its four bytes (R189). -/
theorem readS_bytesOf_four {v : Int} (h0 : -2147483648 ≤ v) (h : v ≤ 2147483647) : readS (bytesOf 4 v) = v := by
  have length : (bytesOf 4 v).length = 4 := bytesOfNat_length ..
  have value : (readU (bytesOf 4 v) : Int) = v % 4294967296 := by
    rw [bytesOf, readU_bytesOfNat]
    omega
  simp only [readS, length]
  split <;> omega

theorem exitKindOfCode_code (k : ExitKind) : exitKindOfCode k.code = some k := by
  cases k <;> rfl

/-! ## Images read back -/

theorem readSegment_start {dMax : Int} {bs : List Byte} (kind : fieldU 0 1 bs = 1) (flags : fieldU 1 1 bs = 0)
    (reps : fieldU 2 1 bs = 1) : readSegment dMax bs =
      startFields dMax (fieldS 4 4 bs) (fieldU 8 2 bs) (fieldU 10 2 bs) (fieldU 12 2 bs) := by
  rw [readSegment, kind, flags, reps]
  rfl

theorem readSegment_dwell {dMax : Int} {bs : List Byte} (kind : fieldU 0 1 bs = 2) (flags : fieldU 1 1 bs = 0)
    (reps : fieldU 2 1 bs = 1) : readSegment dMax bs = dwellFields (fieldU 4 2 bs) (fieldU 6 2 bs) := by
  rw [readSegment, kind, flags, reps]
  rfl

theorem readSegment_traverse {dMax : Int} {bs : List Byte} (kind : fieldU 0 1 bs = 3) (flags : fieldU 1 1 bs = 0) :
    readSegment dMax bs = traverseFields (fieldU 2 1 bs) (fieldU 4 4 bs) (fieldU 8 2 bs) (fieldU 10 2 bs)
      (fieldU 12 2 bs) (fieldU 14 2 bs) := by
  rw [readSegment, kind, flags]
  rfl

theorem readSegment_exit {dMax : Int} {bs : List Byte} {last : Bool} (kind : fieldU 0 1 bs = 4)
    (flags : fieldU 1 1 bs = if last then 1 else 0) (reps : fieldU 2 1 bs = 1) :
    readSegment dMax bs = exitFields last (fieldU 4 1 bs) (fieldU 6 2 bs) (fieldU 8 4 bs) := by
  rw [readSegment, kind, flags, reps]
  cases last <;> rfl

/-- The image of a record in range reads back as the record (R27, R193). -/
theorem readSegment_image {dMax : Int} {g : Segment} (h : SegmentInRange dMax g) :
    readSegment dMax g.image = some g := by
  cases g with
  | start station rpm force depth =>
    obtain ⟨s0, s1, r0, r1, f0, f1, d0, d1, d2⟩ := h
    have read : readSegment dMax (Segment.start station rpm force depth).image =
        startFields dMax (readS (bytesOf 4 station)) (readU (bytesOf 2 rpm)) (readU (bytesOf 2 force))
          (readU (bytesOf 2 depth)) := by
      rw [readSegment_start rfl rfl rfl]
      simp [fieldU, fieldS, slice, Segment.image, bytesOf, bytesOfNat]
    rw [read, readS_bytesOf_four s0 s1, readU_bytesOf (by omega) (by omega), readU_bytesOf (by omega) (by omega),
      readU_bytesOf (by omega) (by omega)]
    exact if_pos (by simp [within_iff, *])
  | dwell ms force =>
    obtain ⟨m, f0, f1⟩ := h
    have read : readSegment dMax (Segment.dwell ms force).image =
        dwellFields (readU (bytesOf 2 ms)) (readU (bytesOf 2 force)) := by
      rw [readSegment_dwell rfl rfl rfl]
      simp [fieldU, slice, Segment.image, bytesOf, bytesOfNat]
    rw [read, readU_bytesOf_nat (by omega), readU_bytesOf (by omega) (by omega)]
    exact if_pos (by simp [within_iff, *])
  | traverse reps length force speed rpm depth =>
    obtain ⟨n0, n1, l0, l1, total, f0, f1, v0, v1, r0, r1, d0, d1⟩ := h
    have read : readSegment dMax (Segment.traverse reps length force speed rpm depth).image =
        traverseFields (readU (bytesOf 1 reps)) (readU (bytesOf 4 length)) (readU (bytesOf 2 force))
          (readU (bytesOf 2 speed)) (readU (bytesOf 2 rpm)) (readU (bytesOf 2 depth)) := by
      rw [readSegment_traverse rfl rfl]
      simp [fieldU, slice, Segment.image, bytesOf, bytesOfNat]
    rw [read, readU_bytesOf_nat (by omega), readU_bytesOf (by omega) (by omega), readU_bytesOf (by omega) (by omega),
      readU_bytesOf (by omega) (by omega), readU_bytesOf (by omega) (by omega), readU_bytesOf (by omega) (by omega)]
    exact if_pos (by simp [within_iff, *])
  | exit last kind rate runOut =>
    obtain ⟨r0, r1, o0, o1, needs⟩ := h
    have read : readSegment dMax (Segment.exit last kind rate runOut).image =
        exitFields last kind.code (readU (bytesOf 2 rate)) (readU (bytesOf 4 runOut)) := by
      have code : fieldU 4 1 (Segment.exit last kind rate runOut).image = kind.code := by cases kind <;> rfl
      rw [readSegment_exit (last := last) rfl (by cases last <;> rfl) rfl, code]
      simp [fieldU, slice, Segment.image, bytesOf, bytesOfNat]
    rw [read, readU_bytesOf (by omega) (by omega), readU_bytesOf (by omega) (by omega), exitFields,
      exitKindOfCode_code]
    refine if_pos ?_
    cases kind
    · simp [within_iff, *]
    · simp [within_iff, needs rfl, *]

theorem Segment.image_length (g : Segment) : g.image.length = 16 := by
  cases g <;> rfl

/-- A START is read only at a depth up to the Dmax in force (R27). -/
theorem readSegment_depth {dMax station rpm force depth : Int} {bs : List Byte}
    (h : readSegment dMax bs = some (.start station rpm force depth)) : depth ≤ dMax := by
  unfold readSegment at h
  dsimp only at h
  split at h
  · split at h
    · cases h
    · simp only [startFields, Option.ite_none_right_eq_some, Bool.and_eq_true, decide_eq_true_eq] at h
      obtain ⟨⟨-, deep⟩, e⟩ := h
      cases e
      exact deep
  · split at h
    · cases h
    · simp [dwellFields] at h
  · split at h
    · cases h
    · simp [traverseFields] at h
  · split at h
    · cases h
    · unfold exitFields at h
      split at h <;> simp at h
  · cases h

end Sys2Proof.Machine

namespace Sys2Proof.SegmentQueues

open Sys2Proof.Machine Sys2Proof.Safety

/-- Settles O27: each kind's fields lie where its image holds them, and within the bytes they have there. -/
theorem segmentImagesReadBack : Obligations.SegmentImagesReadBack := by
  refine fun dMax => ⟨fun g h => ⟨readSegment_image h, g.image_length⟩, fun bs g h => ?_⟩
  have range := readSegment_inRange h
  cases g with
  | start =>
    obtain ⟨s0, s1, r0, r1, f0, f1, d0, d1, -⟩ := range
    exact ⟨s0, s1, r0, r1, f0, f1, d0, d1, readSegment_depth h⟩
  | dwell => exact range
  | traverse => exact range
  | exit => exact range

end Sys2Proof.SegmentQueues
end

section
/-! SUPPORT. The ends of records: when each is due, and how the executing record starves, waits or hands over. -/

namespace Sys2Proof.Machine

open Sys2Proof.Safety

/-! ## When the end of a record is due -/

/-- The executing record is the oldest of the queue of a head that executes one (R34). -/
theorem Sequencer.executingRecord_cons {q : Sequencer} {g : Segment} {rest : List Segment} (hx : q.executing = true)
    (hq : q.queue = g :: rest) : q.executingRecord = some g := by
  rw [Sequencer.executingRecord, if_pos hx, hq]
  rfl

section
variable {s : State} {h : HeadId}

theorem State.dwellEndDue_of {ms : Nat} {force : Int} (hs : (s.head h).seq.state = .dwell)
    (hx : (s.head h).seq.executingRecord = some (.dwell ms force)) (hz : (s.head h).seq.progress.dwellLeft = 0)
    (he : (s.head h).seq.progress.endReached = false) : s.dwellEndDue h = true := by
  simp [State.dwellEndDue, hs, hx, hz, he]

theorem State.dwellEnd_early (hz : (s.head h).seq.progress.dwellLeft ≠ 0) : s.dwellEnd h = s := by
  have early : s.dwellEndDue h = false := by
    unfold State.dwellEndDue
    dsimp only
    split <;> simp [hz]
  simp [State.dwellEnd, early]

/-- A dwell of one set: the count falls by 1, and the dwell may end (R39). -/
theorem State.workState_dwell (hs : (s.head h).seq.state = .dwell) (he : (s.head h).seq.progress.endReached = false)
    (accepted : Bool) :
    s.workState accepted h = (s.modProgress h fun p => { p with dwellLeft := p.dwellLeft - 1 }).dwellEnd h := by
  rw [State.workState, State.headState, hs]
  simp only [State.workDwell, he, Bool.false_eq_true, if_false]

/-- The last set of a dwell (R39). -/
theorem State.dwellEnd_last {ms : Nat} {force : Int} (hs : (s.head h).seq.state = .dwell)
    (hx : (s.head h).seq.executingRecord = some (.dwell ms force)) (he : (s.head h).seq.progress.endReached = false)
    (last : (s.head h).seq.progress.dwellLeft ≤ 1) :
    (s.modProgress h fun p => { p with dwellLeft := p.dwellLeft - 1 }).dwellEnd h =
      State.finishExecuting (s.modProgress h fun p => { p with dwellLeft := 0, endReached := true }) h := by
  have zero : (s.head h).seq.progress.dwellLeft - 1 = 0 := by omega
  have due : (s.modProgress h fun p => { p with dwellLeft := p.dwellLeft - 1 }).dwellEndDue h = true := by
    refine State.dwellEndDue_of (ms := ms) (force := force) ?_ ?_ ?_ ?_ <;> rw [State.modProgress_head]
    · exact hs
    · exact hx
    · exact zero
    · exact he
  rw [State.dwellEnd, if_pos due]
  congr 1
  simp only [State.modProgress_eq, State.modHead_modHead]
  exact State.modHead_congr (by simp only [zero])

theorem State.repetitionEndDue_iff {reps : Nat} {length force speed rpm depth : Int}
    (hs : (s.head h).seq.state = .traverse)
    (hx : (s.head h).seq.executingRecord = some (.traverse reps length force speed rpm depth))
    (he : (s.head h).seq.progress.endReached = false) : s.repetitionEndDue h = true ↔
      (s.head h).seq.progress.s0 + ((s.head h).seq.progress.repsDone + 1) * length ≤ (s.head h).seq.station := by
  simp [State.repetitionEndDue, hs, hx, he]

/-- One repetition of an executing TRAVERSE ends (R40). -/
theorem State.countRepetition_of {reps : Nat} {length force speed rpm depth : Int}
    (hx : (s.head h).seq.executingRecord = some (.traverse reps length force speed rpm depth)) :
    s.countRepetition h = s.modSeq h fun q => { q with
      carried := q.progress.v1
      progress := { q.progress with
        repsDone := q.progress.repsDone + 1, endReached := decide (reps ≤ q.progress.repsDone + 1) } } :=
  State.modSeq_congr (by simp only [hx])

theorem State.atRestDue_of {reps ms : Nat} {length force speed rpm depth dwell : Int}
    (hs : (s.head h).seq.state = .traverse)
    (hx : (s.head h).seq.executingRecord = some (.traverse reps length force speed rpm depth))
    (hn : (s.head h).seq.successor = some (.dwell ms dwell)) (he : (s.head h).seq.progress.endReached = true)
    (hv : (s.head h).seq.progress.starved = false) (rest : s.ring.output.xSpeed = 0) : s.atRestDue h = true := by
  simp [State.atRestDue, hs, hx, hn, he, hv, rest]

theorem State.starvationEndDue_of
    (hs : (s.head h).seq.state = .plunge ∨ (s.head h).seq.state = .dwell ∨ (s.head h).seq.state = .traverse)
    (hx : (s.head h).seq.executing = true) (hv : (s.head h).seq.progress.starved = true)
    (hn : (s.head h).seq.successor ≠ none) : s.starvationEndDue h = true := by
  simp only [State.starvationEndDue, hx, hv, Option.isSome_iff_ne_none.2 hn, Bool.and_true, Bool.or_eq_true,
    decide_eq_true_eq, or_assoc]
  exact hs

theorem State.appendedStartDue_of {station rpm force depth : Int} {rest : List Segment}
    (hs : (s.head h).seq.state = .waiting) (hx : (s.head h).seq.executing = false)
    (hq : (s.head h).seq.queue = .start station rpm force depth :: rest) : s.appendedStartDue h = true := by
  simp [State.appendedStartDue, hs, hx, hq]

/-- QUEUE_LOW is raised for a record with none behind it, unless it is an EXIT that carries LAST (R36). -/
theorem State.raiseQueueLow_cons {r g : Segment} {rest : List Segment} (hq : (s.head h).seq.queue = g :: rest) :
    s.raiseQueueLow h r =
      if rest = [] ∧ r.isLast = false then s.raise .queueLow (packDetail h.code 0) else s := by
  have successor : (s.head h).seq.successor = rest.head? := by rw [Sequencer.successor, hq]; rfl
  rw [State.raiseQueueLow, successor]
  cases rest <;> cases r.isLast <;> simp

end

end Sys2Proof.Machine

namespace Sys2Proof.SegmentQueues

open Sys2Proof.Machine Sys2Proof.Safety

/-- Settles O45: each end where it is due, and the work of one set on a dwell. -/
theorem recordsReachTheirEnds : Obligations.RecordsReachTheirEnds := by
  intro h s hp q
  have run : ∀ t, s.ifRunning t = t := State.ifRunning_of hp
  refine ⟨fun ms force hs hx hz he => ?_, fun reps length force speed rpm depth hs hx he reached => ?_,
    fun reps length force speed rpm depth ms dwell hs hx hn he hv rest => ?_, fun hs hx hv hn => ?_,
    fun st rpm force depth rest hs hx hq => ?_, fun ms force accepted hs hx he => ?_⟩
  · show Host.Outcome.next (s.ifRunning (s.dwellEnd h)) = _
    rw [run, State.dwellEnd, if_pos (State.dwellEndDue_of hs hx hz he)]
  · show Host.Outcome.next (s.ifRunning (s.repetitionEnd h)) = _
    rw [run, State.repetitionEnd, if_pos ((State.repetitionEndDue_iff hs hx he).2 reached),
      State.countRepetition_of hx]
    simp only [State.modSeq_head, decide_eq_true_eq]
    rfl
  · show Host.Outcome.next (s.ifRunning (s.completeAtRest h)) = _
    rw [run, State.completeAtRest, if_pos (State.atRestDue_of hs hx hn he hv rest)]
  · show Host.Outcome.next (s.ifRunning (s.starvationEnd h)) = _
    rw [run, State.starvationEnd, if_pos (State.starvationEndDue_of hs hx hv hn)]
  · show Host.Outcome.next (s.ifRunning (s.takeAppendedStart h)) = _
    have started : s.startRecord h 0 =
        (s.startStart h st rpm force depth).raiseQueueLow h (.start st rpm force depth) := by
      rw [State.startRecord, hq]
    have queue : ((s.startStart h st rpm force depth).head h).seq.queue = .start st rpm force depth :: rest := by
      rw [State.startStart, State.modSeq_head]
      exact hq
    rw [run, State.takeAppendedStart, if_pos (State.appendedStartDue_of hs hx hq), started,
      State.raiseQueueLow_cons queue]
    simp only [Segment.isLast, and_true]
    rfl
  · let worked := s.workState accepted h
    have work : worked = (s.modProgress h fun p => { p with dwellLeft := p.dwellLeft - 1 }).dwellEnd h :=
      State.workState_dwell hs he accepted
    have timed : s.workSequencer accepted h =
        worked.modSeq h fun q => { q with holdTimer := ((worked.workHoldTimer h).head h).seq.holdTimer } := by
      rw [State.workSequencer_elsewhere (ne_of_eq_of_ne hs (by decide)), ← State.workHoldTimer_eq]
    refine ⟨((worked.workHoldTimer h).head h).seq.holdTimer, fun left => ?_, fun last => ?_⟩
    · rw [timed]
      generalize ((worked.workHoldTimer h).head h).seq.holdTimer = hold
      have more : ((s.modProgress h fun p => { p with dwellLeft := p.dwellLeft - 1 }).head h).seq.progress.dwellLeft ≠
          0 := by
        rw [State.modProgress_head]
        exact Nat.sub_ne_zero_of_lt left
      rw [work, State.dwellEnd_early more, State.modProgress_eq, State.modSeq_eq, State.modHead_modHead]
      rfl
    · rw [timed, work, State.dwellEnd_last hs hx he last]

end Sys2Proof.SegmentQueues
end

section
/-! SUPPORT. The hand-over from one record of a queue to the next. -/

namespace Sys2Proof.Machine

open Sys2Proof.Safety

theorem State.modSeq_modSeq (s : State) (h : HeadId) (f g : Sequencer → Sequencer) :
    (s.modSeq h f).modSeq h g = s.modSeq h fun q => g (f q) :=
  s.modHead_modHead h _ _

/-! ## Repetitions passed already -/

/-- The repetitions whose end a station has reached (R40). -/
def passedReps (station s0 length : Int) : Nat :=
  ((station - s0) / length).toNat

theorem lt_passedReps_iff {station s0 length : Int} (hl : 0 < length) (n : Nat) :
    n < passedReps station s0 length ↔ s0 + (n + 1) * length ≤ station := by
  have floor := Int.le_ediv_iff_mul_le (a := (n : Int) + 1) (b := station - s0) hl
  unfold passedReps
  omega

/-- Short of its end, a TRAVERSE has repetitions left (R40, R42). -/
theorem lt_reps_of_lt_passedReps {station s0 length : Int} {reps n : Nat} (hl : 0 < length)
    (short : station < s0 + reps * length) (h : n < passedReps station s0 length) : n + 1 < reps := by
  have passed := (lt_passedReps_iff hl n).1 h
  have fewer : ((n : Int) + 1) * length < reps * length := by omega
  exact_mod_cast lt_of_mul_lt_mul_right fewer hl.le

/-- A sequencer whose TRAVERSE has ended its repetitions up to a number of them (R40). -/
def Sequencer.counted (q : Sequencer) (passed : Nat) : Sequencer :=
  if q.progress.repsDone < passed then
    { q with carried := q.progress.v1, progress := { q.progress with repsDone := passed } }
  else q

theorem Sequencer.counted_of_le {q : Sequencer} {passed : Nat} (h : passed ≤ q.progress.repsDone) :
    q.counted passed = q :=
  if_neg (not_lt.2 h)

theorem Sequencer.counted_of_lt {q : Sequencer} {passed : Nat} (h : q.progress.repsDone < passed) :
    q.counted passed = { q with carried := q.progress.v1, progress := { q.progress with repsDone := passed } } :=
  if_pos h

theorem State.prevDemand_congr {s t : State} (e : t.ring = s.ring) (h : HeadId) : t.prevDemand h = s.prevDemand h := by
  cases h <;> simp only [State.prevDemand, e]

theorem State.modSeq_self {s : State} {h : HeadId} {f : Sequencer → Sequencer} (e : f (s.head h).seq = (s.head h).seq) :
    s.modSeq h f = s :=
  State.modHead_self (congrArg (fun q => { s.head h with seq := q }) e)

/-- The comparison made again and again counts every repetition that the station has passed (R40). -/
theorem repetitionLoop_eq {h : HeadId} {reps : Nat} {length force speed rpm depth : Int} (hl : 0 < length) (n : Nat) :
    ∀ s : State, (s.head h).seq.state = .traverse →
    (s.head h).seq.executingRecord = some (.traverse reps length force speed rpm depth) →
    (s.head h).seq.progress.endReached = false →
    (s.head h).seq.station < (s.head h).seq.progress.s0 + reps * length →
    reps ≤ (s.head h).seq.progress.repsDone + n →
    repetitionLoop n h s = s.modSeq h fun q => q.counted (passedReps q.station q.progress.s0 length) := by
  induction n with
  | zero =>
    intro s hs hx he short all
    have passed : passedReps (s.head h).seq.station (s.head h).seq.progress.s0 length ≤
        (s.head h).seq.progress.repsDone :=
      not_lt.1 fun more => absurd (lt_reps_of_lt_passedReps hl short more) (by omega)
    exact (State.modSeq_self (Sequencer.counted_of_le passed)).symm
  | succ n ih =>
    intro s hs hx he short all
    have due := (State.repetitionEndDue_iff hs hx he).trans (lt_passedReps_iff hl _).symm
    by_cases more : (s.head h).seq.progress.repsDone <
        passedReps (s.head h).seq.station (s.head h).seq.progress.s0 length
    · have left := lt_reps_of_lt_passedReps hl short more
      have counted : s.countRepetition h = s.modSeq h fun q => { q with
          carried := q.progress.v1, progress := { q.progress with repsDone := q.progress.repsDone + 1 } } := by
        rw [State.countRepetition_of hx]
        exact State.modSeq_congr (by simp only [he, not_le.2 left, decide_false])
      rw [repetitionLoop, if_pos (due.2 more), counted, ih _ (by simpa using hs)
        (by rw [State.modSeq_head]; exact hx) (by simpa using he) (by simpa using short) (by simp; omega),
        State.modSeq_modSeq]
      refine State.modSeq_congr ?_
      rw [Sequencer.counted_of_lt more]
      rcases (Nat.succ_le_of_lt more).eq_or_lt with last | further
      · rw [Sequencer.counted_of_le (le_of_eq last.symm), ← last]
      · exact Sequencer.counted_of_lt further
    · rw [repetitionLoop, if_neg (mt due.1 more)]
      exact (State.modSeq_self (Sequencer.counted_of_le (not_lt.1 more))).symm

/-! ## The run through the queue -/

/-- The executing record completes and its successor becomes executing (R37). -/
def State.handOver (s : State) (h : HeadId) : State :=
  (s.completeRecord h).startRecord h (s.head h).seq.endStation

section
variable {s : State} {h : HeadId} {g next : Segment} {behind : List Segment}

theorem Sequencer.successor_cons {q : Sequencer} {rest : List Segment} (hq : q.queue = g :: rest) :
    q.successor = rest.head? := by
  rw [Sequencer.successor, hq]
  rfl

/-- Without a successor the head starves (R45). -/
theorem State.finishExecuting_starves (hq : (s.head h).seq.queue = [g]) : s.finishExecuting h = s.starve h := by
  rw [State.finishExecuting, finishRecord, Sequencer.successor_cons hq]
  rfl

/-- A wait for rest leaves everything (R41). -/
theorem State.finishExecuting_waits (hq : (s.head h).seq.queue = g :: next :: behind)
    (hw : s.waitsForRest h next = true) : s.finishExecuting h = s := by
  rw [State.finishExecuting, finishRecord, Sequencer.successor_cons hq]
  exact if_pos hw

/-- Otherwise the record hands over, and the run goes on where the successor is at its end at once (R37, R43). -/
theorem State.finishExecuting_handsOver (hq : (s.head h).seq.queue = g :: next :: behind)
    (hw : s.waitsForRest h next = false) : s.finishExecuting h =
      if ((s.handOver h).head h).seq.progress.endReached = true then (s.handOver h).finishExecuting h
      else s.handOver h := by
  have core := State.startRecord_core (s.head h).seq.endStation
    (congrArg (fun c => c.2.2.1) (State.completeRecord_core hq))
  have queue : ((s.handOver h).head h).seq.queue = next :: behind := congrArg (fun c => c.2.2.1) core
  rw [State.finishExecuting, finishRecord, Sequencer.successor_cons hq, State.finishExecuting, queue, hq]
  exact if_neg (by rw [hw]; decide)

/-- A TRAVERSE alone waits, for a DWELL alone, until the X command is 0 (R41, R56). -/
theorem State.waitsForRest_iff (hx : (s.head h).seq.executing = true)
    (hq : (s.head h).seq.queue = g :: next :: behind) :
    s.waitsForRest h next = true ↔ g.kind = .traverse ∧ next.kind = .dwell ∧ s.ring.output.xSpeed ≠ 0 := by
  unfold State.waitsForRest
  rw [Sequencer.executingRecord_cons hx hq]
  cases g <;> cases next <;> simp [Segment.kind]

theorem State.waitsForRest_not (hx : (s.head h).seq.executing = true) (hq : (s.head h).seq.queue = g :: next :: behind)
    (hn : g.kind ≠ .traverse ∨ next.kind ≠ .dwell ∨ s.ring.output.xSpeed = 0) : s.waitsForRest h next = false :=
  Bool.eq_false_iff.2 fun w => by
    obtain ⟨traverse, dwell, moving⟩ := (State.waitsForRest_iff hx hq).1 w
    exact hn.elim (absurd traverse) fun hn => hn.elim (absurd dwell) moving

end

/-! ## The successor by its kind -/

section
variable {s : State} {h : HeadId} {e : Int} {behind : List Segment}

/-- A DWELL becomes executing with its count of sets (R35, R39). -/
theorem State.startRecord_dwell {ms n : Nat} {force : Int} (hx : (s.head h).seq.executing = true)
    (hq : (s.head h).seq.queue = .dwell ms force :: behind) (hn : ceilDiv (ms * 1000) s.gantry.tc = n) :
    s.startRecord h e = (s.modSeq h fun q => { q with
        state := .dwell
        progress := { Progress.cleared with s0 := e, dwellLeft := n, endReached := decide (n = 0) }
        carried := { q.carried with force := force } }).raiseQueueLow h (.dwell ms force) := by
  rw [State.startRecord, hq]
  simp only [State.startDwell, hn]
  rw [State.modSeq_congr]
  simp only [hx]

/-- The progress record of a TRAVERSE that becomes executing (R40). -/
def Progress.ofTraverse (s0 : Int) (carried v1 : SegValues) : Progress :=
  { Progress.cleared with
    s0 := s0, v0 := { carried with speed := if carried.speed = 0 then v1.speed else carried.speed }, v1 := v1 }

theorem State.fillTraverse_eq (hx : (s.head h).seq.executing = true) (v1 : SegValues) :
    s.fillTraverse h e v1 = s.modSeq h fun q =>
      { q with state := .traverse, progress := .ofTraverse e q.carried v1 } :=
  State.modSeq_congr (by rw [Progress.ofTraverse, ← hx])

/-- The repetitions passed already of a TRAVERSE that becomes executing (R40). -/
theorem Sequencer.counted_ofTraverse (q : Sequencer) (v1 : SegValues) (passed : Nat) :
    Sequencer.counted { q with state := .traverse, progress := .ofTraverse e q.carried v1 } passed =
      { q with
        state := .traverse
        progress := { Progress.ofTraverse e q.carried v1 with repsDone := passed }
        carried := if 0 < passed then v1 else q.carried } := by
  rcases Nat.eq_zero_or_pos passed with rfl | any
  · exact Sequencer.counted_of_le le_rfl
  · rw [if_pos any]
    exact Sequencer.counted_of_lt any

/-- A TRAVERSE becomes executing short of its end, and the repetitions its station has passed are counted (R40). -/
theorem State.startRecord_traverse {reps : Nat} {length force speed rpm depth : Int}
    (hx : (s.head h).seq.executing = true)
    (hq : (s.head h).seq.queue = .traverse reps length force speed rpm depth :: behind) (hl : 0 < length)
    (short : (s.head h).seq.station < e + reps * length) : s.startRecord h e =
      (s.modSeq h fun q => { q with
        state := .traverse
        progress := { Progress.ofTraverse e q.carried ⟨force, speed, rpm, depth⟩ with
          repsDone := passedReps q.station e length }
        carried := if 0 < passedReps q.station e length then ⟨force, speed, rpm, depth⟩ else q.carried
        }).raiseQueueLow h (.traverse reps length force speed rpm depth) := by
  rw [State.startRecord, hq]
  simp only [State.startTraverse, State.fillTraverse_eq hx]
  let t := s.modSeq h fun q =>
    { q with state := .traverse, progress := .ofTraverse e q.carried ⟨force, speed, rpm, depth⟩ }
  have seq : (t.head h).seq = { (s.head h).seq with
      state := .traverse, progress := .ofTraverse e (s.head h).seq.carried ⟨force, speed, rpm, depth⟩ } := by
    rw [State.modSeq_head]
  have record : (t.head h).seq.executingRecord = some (.traverse reps length force speed rpm depth) :=
    Sequencer.executingRecord_cons (by rw [seq]; exact hx) (by rw [seq]; exact hq)
  have loop := repetitionLoop_eq hl reps t (by rw [seq]) record (by rw [seq]; rfl) (by rw [seq]; exact short)
    (by rw [seq]; exact Nat.le_add_left ..)
  have counts : t.countRepetitions h = repetitionLoop reps h t := by rw [State.countRepetitions, record]
  rw [if_neg (by rw [seq]; exact not_le.2 short), counts, loop, State.modSeq_modSeq]
  exact congrArg (State.raiseQueueLow · h _) (State.modSeq_congr (Sequencer.counted_ofTraverse (s.head h).seq ..))

/-- A TRAVERSE whose end its station has reached or passed is at its end at once (R42). -/
theorem State.startRecord_short {reps : Nat} {length force speed rpm depth : Int}
    (hx : (s.head h).seq.executing = true)
    (hq : (s.head h).seq.queue = .traverse reps length force speed rpm depth :: behind)
    (beyond : e + reps * length ≤ (s.head h).seq.station) : s.startRecord h e =
      ((s.modSeq h fun q => { q with
        state := .traverse
        progress := { Progress.ofTraverse e q.carried ⟨force, speed, rpm, depth⟩ with
          repsDone := reps, endReached := true }
        carried := ⟨force, speed, rpm, depth⟩ }).raise .shortSegment (packDetail h.code 0)).raiseQueueLow h
          (.traverse reps length force speed rpm depth) := by
  rw [State.startRecord, hq]
  simp only [State.startTraverse, State.fillTraverse_eq hx]
  rw [if_pos (by rw [State.modSeq_head]; exact beyond), State.endShort, State.modSeq_modSeq]

/-- The exit record of an EXIT that becomes executing (R16, R85). -/
def Head.exitRecordOf (x : Head) (kind : ExitKind) (rate runOut demand : Int) : ExitRecord :=
  if kind = .runOut ∧ x.seq.carried.speed ≠ 0 then
    ⟨.runOut, if rate = 0 then x.profile.depth.retractRate else rate, runOut, some x.seq.station, some demand⟩
  else inPlaceExit (if rate = 0 then x.profile.depth.retractRate else rate)

/-- An EXIT becomes executing in its first phase with its exit record (R16, R34, R85). -/
theorem State.startRecord_exit {last : Bool} {kind : ExitKind} {rate runOut : Int}
    (hx : (s.head h).seq.executing = true) (hq : (s.head h).seq.queue = .exit last kind rate runOut :: behind) :
    s.startRecord h e = (s.modHead h fun x => { x with
        seq := { x.seq with
          state := .exit
          progress := { Progress.cleared with
            exitPhase := some (if kind = .runOut ∧ x.seq.carried.speed ≠ 0 then .runout else .brake) } }
        reg := { x.reg with
          exitRecord := some (x.exitRecordOf kind rate runOut (s.prevDemand h)) } }).raiseQueueLow h
            (.exit last kind rate runOut) := by
  rw [State.startRecord, hq]
  simp only [State.enterExitRecord, State.modSeq_eq, State.modHead_head, State.modHead_prevDemand,
    Head.exitRecordOf]
  split
  next runs =>
    rw [State.enterExit, State.modHead_modHead, State.modHead_congr]
    simp only [hx, if_pos runs]
  next rests =>
    rw [State.enterExit, State.modHead_modHead, State.modHead_congr]
    simp only [hx, if_neg rests]

end

/-- QUEUE_LOW for a record that is no LAST exit (R36). -/
theorem State.raiseQueueLow_of {s : State} {h : HeadId} {next : Segment} {behind : List Segment}
    (hq : (s.head h).seq.queue = next :: behind) (hn : next.isLast = false) : s.raiseQueueLow h next =
      if behind = [] then s.raise .queueLow (packDetail h.code 0) else s := by
  rw [State.raiseQueueLow_cons hq]
  simp only [hn, and_true]

section
variable {s t : State} {h : HeadId} {g next : Segment} {behind : List Segment}

/-- A completed record leaves the rest of the queue to the head (R37). -/
theorem State.completeRecord_head (hq : (s.head h).seq.queue = g :: behind) : (s.completeRecord h).head h =
    { s.head h with seq := { (s.head h).seq with queue := behind, lastKind := some g.kind } } := by
  rw [State.completeRecord_cons hq, State.raise_head, State.modSeq_head]

/-- A hand-over into a record with its end to come (R37). -/
theorem State.finishExecuting_into (hq : (s.head h).seq.queue = g :: next :: behind)
    (hw : s.waitsForRest h next = false) (begun : s.handOver h = t.raiseQueueLow h next)
    (he : (t.head h).seq.progress.endReached = false) : s.finishExecuting h = t.raiseQueueLow h next := by
  rw [State.finishExecuting_handsOver hq hw, begun, State.raiseQueueLow_head]
  exact if_neg (by rw [he]; decide)

/-- A hand-over into a record that is at its end at once (R43). -/
theorem State.finishExecuting_through (hq : (s.head h).seq.queue = g :: next :: behind)
    (hw : s.waitsForRest h next = false) (begun : s.handOver h = t.raiseQueueLow h next)
    (he : (t.head h).seq.progress.endReached = true) :
    s.finishExecuting h = (t.raiseQueueLow h next).finishExecuting h := by
  rw [State.finishExecuting_handsOver hq hw, begun, State.raiseQueueLow_head]
  exact if_pos he

end

/-- A dwell of more than 0 ms lasts a set at least (R39). -/
theorem ceilDiv_pos {n d : Nat} (hn : 0 < n) (hd : 0 < d) : ceilDiv n d ≠ 0 := by
  have : 1 ≤ ceilDiv n d := (Nat.le_div_iff_mul_le hd).2 (by omega)
  omega

theorem ceilDiv_zero {d : Nat} (hd : 0 < d) : ceilDiv 0 d = 0 :=
  Nat.div_eq_of_lt (by omega)

end Sys2Proof.Machine

namespace Sys2Proof.SegmentQueues

open Sys2Proof.Machine Sys2Proof.Safety

/-- Settles O46: the record completes, and the successor becomes executing by its kind. -/
theorem finishedRecordsHandOver : Obligations.FinishedRecordsHandOver := by
  intro h s g rest hx hq q stop done low
  have completes : s.completeRecord h = done := State.completeRecord_cons hq
  have after : done.head h = { s.head h with seq := { q with queue := rest, lastKind := some g.kind } } := by
    rw [← completes, State.completeRecord_head hq]
  have executing : (done.head h).seq.executing = true := by rw [after]; exact hx
  have queue : (done.head h).seq.queue = rest := by rw [after]
  have handed : s.handOver h = done.startRecord h stop := by rw [State.handOver, completes]
  have demand : done.prevDemand h = s.prevDemand h := by
    rw [← completes, State.prevDemand_congr (s.completeRecord_oneHead h).ring]
  have ticked : done.gantry = s.gantry := by rw [State.raise_gantry, State.modSeq_gantry]
  refine ⟨fun none => ?_, fun ms force behind next traverse moving => ?_,
    fun ms force behind next rests long ticks => ?_, fun force behind next rests ticks => ?_,
    fun reps length force speed rpm depth behind next _ long => ?_,
    fun last kind rate runOut behind next => ?_⟩
  · exact State.finishExecuting_starves (none ▸ hq)
  · subst next
    exact State.finishExecuting_waits hq ((State.waitsForRest_iff hx hq).2 ⟨traverse, rfl, moving⟩)
  · subst next
    have sets := ceilDiv_pos (n := ms * 1000) (by omega) ticks
    have begun := handed.trans (State.startRecord_dwell (e := stop) executing queue (ticked ▸ rfl :
      ceilDiv (ms * 1000) done.gantry.tc = ceilDiv (ms * 1000) s.gantry.tc))
    rw [State.finishExecuting_into hq (State.waitsForRest_not hx hq (rests.imp_right .inr)) begun
      (by rw [State.modSeq_head]; exact decide_eq_false sets),
      State.raiseQueueLow_of (by rw [State.modSeq_head]; exact queue) rfl]
    simp only [decide_eq_false sets]
    rfl
  · subst next
    have begun := handed.trans (State.startRecord_dwell (e := stop) executing queue
      ((ticked ▸ rfl : ceilDiv (0 * 1000) done.gantry.tc = ceilDiv 0 s.gantry.tc).trans (ceilDiv_zero ticks)))
    rw [State.finishExecuting_through hq (State.waitsForRest_not hx hq (rests.imp_right .inr)) begun
      (by rw [State.modSeq_head]; rfl), State.raiseQueueLow_of (by rw [State.modSeq_head]; exact queue) rfl]
    rfl
  · subst next
    intro v1 filled
    have free : s.waitsForRest h (.traverse reps length force speed rpm depth) = false :=
      State.waitsForRest_not hx hq (.inr (.inl (by simp [Segment.kind])))
    have station : (done.head h).seq.station = q.station := by rw [after]
    refine ⟨fun short => ?_, fun beyond => ?_⟩
    · have begun := handed.trans (State.startRecord_traverse executing queue long (station ▸ short))
      rw [State.finishExecuting_into hq free begun (by rw [State.modSeq_head]; rfl),
        State.raiseQueueLow_of (by rw [State.modSeq_head]; exact queue) rfl]
      show low _ = low _
      exact congrArg low (State.modSeq_congr (by rw [after]; rfl))
    · have begun := handed.trans (State.startRecord_short executing queue (station ▸ beyond))
      rw [State.finishExecuting_through hq free begun (by rw [State.raise_head, State.modSeq_head]),
        State.raiseQueueLow_of (by rw [State.raise_head, State.modSeq_head]; exact queue) rfl]
      show (low (State.raise _ ..)).finishExecuting h = (low (State.raise _ ..)).finishExecuting h
      exact congrArg (fun t : State => (low (t.raise ..)).finishExecuting h) (State.modSeq_congr (by rw [after]; rfl))
  · subst next
    intro runs lift entered
    have free : s.waitsForRest h (.exit last kind rate runOut) = false :=
      State.waitsForRest_not hx hq (.inr (.inl (by simp [Segment.kind])))
    have begun : s.handOver h = entered.raiseQueueLow h (.exit last kind rate runOut) := by
      rw [handed, State.startRecord_exit executing queue]
      exact congrArg (State.raiseQueueLow · h _) (State.modHead_congr (by rw [after, demand]; rfl))
    have entry : (entered.head h).seq.queue = .exit last kind rate runOut :: behind := by
      rw [State.modHead_head]
      exact queue
    rw [State.finishExecuting_into hq free begun (by rw [State.modHead_head]; rfl)]
    cases last
    · exact State.raiseQueueLow_of entry rfl
    · exact (State.raiseQueueLow_cons entry).trans (if_neg fun both => Bool.noConfusion both.2)

end Sys2Proof.SegmentQueues
end

section
/-! SUPPORT. STREAM DATA: the staging buffer fills, and a complete stream is applied whole or not at all. -/

namespace Sys2Proof.Machine

open Sys2Proof.Safety

/-! ## Records tested in stream order -/

/-- A SEGMENT stream whose records are read and stand in order passes (R33, R180). -/
theorem checkSegments_of {dMax : Int} {records : List (List Byte)} {gs : List Segment} {before : Option SegKind}
    (pos : Nat) (read : records.map (readSegment dMax) = gs.map some) (order : Ordered before gs) :
    checkSegments dMax before pos records = .inl gs := by
  induction records generalizing before gs pos with
  | nil =>
    cases gs with
    | nil => rfl
    | cons => cases read
  | cons bs rest ih =>
    cases gs with
    | nil => cases read
    | cons g gs =>
      simp only [List.map_cons, List.cons.injEq] at read
      obtain ⟨hg, read⟩ := read
      simp only [checkSegments, hg, if_pos order.1, ih (pos + 1) read order.2]

/-- The first record of a SEGMENT stream that is not read, or not in order behind those before it, is named (R180). -/
theorem checkSegments_fails {dMax : Int} {records : List (List Byte)} {gs : List Segment} {before : Option SegKind}
    {bs : List Byte} {rest : List (List Byte)} (pos : Nat) (read : records.map (readSegment dMax) = gs.map some)
    (order : Ordered before gs)
    (fails : ∀ g, readSegment dMax bs = some g → mayFollow (kindBehind before gs) g.kind = false) :
    checkSegments dMax before pos (records ++ bs :: rest) =
      .inr (pos + records.length, if readSegment dMax bs = none then .value else .order) := by
  induction records generalizing before gs pos with
  | nil =>
    cases gs with
    | nil =>
      rw [List.nil_append, checkSegments]
      cases hg : readSegment dMax bs with
      | none => rfl
      | some g =>
        have order : mayFollow before g.kind = false := fails g hg
        simp [order]
    | cons => cases read
  | cons b records ih =>
    cases gs with
    | nil => cases read
    | cons g gs =>
      simp only [List.map_cons, List.cons.injEq] at read
      obtain ⟨hg, read⟩ := read
      have tail := ih (pos + 1) read order.2 (kindBehind_cons before g gs ▸ fails)
      simp only [List.cons_append, checkSegments, hg, if_pos order.1, tail, List.length_cons]
      congr 2
      omega

/-- A point written at an index up to the count (R109). -/
theorem putPoint_eq {points : List MapPoint} {k : Nat} (hk : k ≤ points.length) (p : MapPoint) :
    putPoint points k p = points.take k ++ p :: points.drop (k + 1) := by
  unfold putPoint
  split
  next inside => exact List.set_eq_take_append_cons_drop.trans (if_pos inside)
  next outside =>
    obtain rfl : k = points.length := by omega
    simp

theorem le_of_checkPoint {fence : Option Int} {points : List MapPoint} {k : Nat} {p : MapPoint}
    (done : checkPoint fence points k p = .done) : k ≤ points.length := by
  by_contra beyond
  have : points.length < k ∨ 128 ≤ k := .inl (by omega)
  simp only [checkPoint, if_pos this] at done
  split at done <;> cases done

/-- A point refused with FENCE is counted and told (R108). -/
theorem State.refuseFence_eq (s : State) (h : HeadId) (k : Nat) : s.refuseFence h k =
    (s.modMap h fun m => { m with refusals := min (m.refusals + 1) 65535 }).raise .mapFence (packDetail k h.code) := by
  simp only [State.refuseFence, countUp_eq_min]

/-- Points that pass one after the other, up to a point of the stream (R112). -/
theorem checkPoints_run {fence : Option Int} {ps rest : List MapPoint} {k : Nat} {points result : List MapPoint}
    (pos : Nat) (run : RunOfWrites fence k points ps result) :
    checkPoints fence (ps ++ rest) pos k points = checkPoints fence rest (pos + ps.length) (k + ps.length) result := by
  induction ps generalizing k points pos with
  | nil =>
    cases run
    rfl
  | cons p ps ih =>
    obtain ⟨done, run⟩ := run
    rw [List.cons_append, checkPoints, done]
    dsimp only
    rw [putPoint_eq (le_of_checkPoint done), ih (pos + 1) run, List.length_cons]
    congr 1 <;> omega

theorem checkPoints_fails {fence : Option Int} {p : MapPoint} {rest points : List MapPoint} {pos k : Nat}
    (fails : checkPoint fence points k p ≠ .done) :
    checkPoints fence (p :: rest) pos k points = .inr (pos, checkPoint fence points k p) := by
  rw [checkPoints]
  split
  next done => exact absurd done fails
  next => rfl

/-- A GUARD stream whose records are read and have indexes passes (R115, R180). -/
theorem checkGuards_of {records : List (List Byte)} {gs : List GuardRecord} {k : Nat} (pos : Nat)
    (inside : k + records.length ≤ 12) (read : records.map readGuard = gs.map some) :
    checkGuards pos k records = .inl gs := by
  induction records generalizing gs pos k with
  | nil =>
    cases gs with
    | nil => rfl
    | cons => cases read
  | cons bs rest ih =>
    cases gs with
    | nil => cases read
    | cons g gs =>
      simp only [List.map_cons, List.cons.injEq] at read
      obtain ⟨hg, read⟩ := read
      rw [List.length_cons] at inside
      have below : ¬ 12 ≤ k := by omega
      simp only [checkGuards, if_neg below, hg, ih (pos + 1) (k := k + 1) (by omega) read]

/-- The records of a GUARD stream before one that fails (R180). -/
theorem checkGuards_fails {records : List (List Byte)} {bs : List Byte} {rest : List (List Byte)} {code : ReplyCode}
    {k : Nat} (pos : Nat) (inside : k + records.length ≤ 12) (read : ∀ b ∈ records, readGuard b ≠ none)
    (fails : ∀ pos, checkGuards pos (k + records.length) (bs :: rest) = .inr (pos, code)) :
    checkGuards pos k (records ++ bs :: rest) = .inr (pos + records.length, code) := by
  induction records generalizing pos k with
  | nil => exact fails pos
  | cons b records ih =>
    rw [List.length_cons] at inside
    obtain ⟨g, hg⟩ := Option.ne_none_iff_exists'.1 (read b List.mem_cons_self)
    have below : ¬ 12 ≤ k := by omega
    have tail := ih (k := k + 1) (pos + 1) (by omega) (fun c hc => read c (List.mem_cons_of_mem b hc))
      (by rw [List.length_cons] at fails; convert fails using 3; omega)
    simp only [List.cons_append, checkGuards, if_neg below, hg, tail, List.length_cons]
    congr 2
    omega

theorem checkGuards_index {pos k : Nat} (out : 12 ≤ k) (bs : List Byte) (rest : List (List Byte)) :
    checkGuards pos k (bs :: rest) = .inr (pos, .index) :=
  if_pos out

theorem checkGuards_value {pos k : Nat} {bs : List Byte} (inside : k < 12) (unread : readGuard bs = none)
    (rest : List (List Byte)) : checkGuards pos k (bs :: rest) = .inr (pos, .value) := by
  simp only [checkGuards, if_neg (not_le.2 inside), unread]

/-- Guard records written at consecutive indexes (R180). -/
theorem putGuards_eq {gs : List GuardRecord} {k : Nat} {s : State} (inside : k + gs.length ≤ s.guards.length) :
    putGuards k gs s = { s with guards := s.guards.take k ++ gs ++ s.guards.drop (k + gs.length) } := by
  induction gs generalizing k s with
  | nil => simp [putGuards]
  | cons g gs ih =>
    rw [List.length_cons] at inside
    have split : s.guards.set k g = (s.guards.take k ++ [g]) ++ s.guards.drop (k + 1) := by
      rw [List.set_eq_take_append_cons_drop, if_pos (by omega), List.append_assoc, List.singleton_append]
    have front : (s.guards.set k g).take (k + 1) = s.guards.take k ++ [g] := by
      rw [split, List.take_left' (by simp; omega)]
    have back : (s.guards.set k g).drop (k + 1 + gs.length) = s.guards.drop (k + (gs.length + 1)) := by
      rw [List.drop_set_of_lt (by omega), Nat.add_assoc, Nat.add_comm 1]
    rw [putGuards, ih (by rw [State.putGuard, List.length_set]; omega)]
    simp only [State.putGuard, List.length_cons, front, back, List.append_assoc, List.cons_append,
      List.nil_append]

/-! ## A complete stream by its table (R180) -/

section
variable {s : State} {h : HeadId} {records : List (List Byte)}

theorem applySegments_full (full : 16 < (s.head h).seq.queue.length + records.length) :
    applySegments s h records = s.refuseWith .full (.number 0) :=
  if_pos full

theorem applySegments_taken {gs : List Segment} (room : (s.head h).seq.queue.length + records.length ≤ 16)
    (read : records.map (readSegment (s.head h).profile.depth.dMax) = gs.map some)
    (order : Ordered (s.head h).seq.reference gs) : applySegments s h records =
      (s.modSeq h fun q => { q with queue := (s.head h).seq.queue ++ gs }).done (.number gs.length) := by
  simp only [applySegments, if_neg (not_lt.2 room), checkSegments_of 0 read order]
  rw [State.modSeq_congr]
  rfl

theorem applySegments_refused {pos : Nat} {code : ReplyCode}
    (room : (s.head h).seq.queue.length + records.length ≤ 16)
    (fails : checkSegments (s.head h).profile.depth.dMax (s.head h).seq.reference 0 records = .inr (pos, code)) :
    applySegments s h records = s.refuseWith code (.number pos) := by
  simp only [applySegments, if_neg (not_lt.2 room), fails]

theorem applyPoints_taken {first : Nat} {points : List MapPoint}
    (run : RunOfWrites (s.head h).map.fence first (s.head h).map.points (records.map readPoint) points) :
    applyPoints s h first records =
      (s.modMap h fun m => { m with points := points }).done (.number records.length) := by
  have checked := checkPoints_run (rest := []) 0 run
  rw [List.append_nil] at checked
  simp only [applyPoints, checked, checkPoints]

theorem applyPoints_refused {first pos : Nat} {code : ReplyCode}
    (fails : checkPoints (s.head h).map.fence (records.map readPoint) 0 first (s.head h).map.points =
      .inr (pos, code)) : applyPoints s h first records =
      (if code = .fence then s.refuseFence h (first + pos) else s).refuseWith code
        (.items [(pos : Int), ((first + pos : Nat) : Int)]) := by
  simp only [applyPoints, fails]

theorem applyGuards_active {first : Nat} (active : s.active = true) :
    applyGuards s first records = s.refuseWith .state (.items [0, first]) :=
  if_pos active

theorem applyGuards_taken {first : Nat} {gs : List GuardRecord} (rest : s.active = false)
    (inside : first + records.length ≤ 12) (twelve : s.guards.length = 12)
    (read : records.map readGuard = gs.map some) : applyGuards s first records =
      ({ s with guards := s.guards.take first ++ gs ++ s.guards.drop (first + gs.length) } : State).done
        (.number gs.length) := by
  have count : records.length = gs.length := by simpa using congrArg List.length read
  simp only [applyGuards, rest, checkGuards_of 0 inside read, putGuards_eq (s := s) (by omega : first + gs.length ≤ _)]
  rfl

theorem applyGuards_refused {first pos : Nat} {code : ReplyCode} (rest : s.active = false)
    (fails : checkGuards 0 first records = .inr (pos, code)) : applyGuards s first records =
      s.refuseWith code (.items [(pos : Int), ((first + pos : Nat) : Int)]) := by
  simp only [applyGuards, rest, fails]
  rfl

end

/-! ## STREAM DATA (R179, R180) -/

section
variable {s : State} {r : Request} {c : Stream} {n : Nat}

theorem State.closeStream_of (hc : s.service.stream = some c) : s.closeStream =
    { s with service := { s.service with stream := none, closed := Config.closedContext c, staging := [] } } := by
  simp only [State.closeStream, ServiceUnit.leftBehind, hc]

theorem answerStreamData_none (hc : s.service.stream = none) : answerStreamData s r = s.refuse .state := by
  simp only [answerStreamData, hc]

/-- A STREAM DATA of `n` records for an open stream (R179). -/
theorem answerStreamData_open (hc : s.service.stream = some c) (hl : r.length.toNat = 16 * n) :
    answerStreamData s r =
      if c.remaining < n then s.refuse .value
      else if c.remaining = n then completeStream s c (s.service.staging ++ streamRecordsOf r n)
      else ({ s with service := { s.service with
          stream := some { c with remaining := c.remaining - n, idle := 0 }
          staging := s.service.staging ++ streamRecordsOf r n } } : State).done
        (.number (c.remaining - n)) := by
  have count : r.length.toNat / 16 = n := by omega
  simp only [answerStreamData, hc, count]

theorem completeStream_check {records : List (List Byte)} (bad : xorHalves records.flatten ≠ c.expected) :
    completeStream s c records = s.closeStream.refuseWith .check (.number (xorHalves records.flatten).toNat) :=
  if_pos bad

theorem completeStream_good {records : List (List Byte)} (good : xorHalves records.flatten = c.expected) :
    completeStream s c records = match c.table with
      | .segment => applySegments s.closeStream c.head records
      | .map => applyPoints s.closeStream c.head c.first records
      | .guard => applyGuards s.closeStream c.first records :=
  if_neg (not_not.2 good)

end

/-- The records of a stream up to one of them, that one, and those behind it. -/
theorem eq_take_getD_drop {α : Type} {l : List α} {n : Nat} (h : n < l.length) (d : α) :
    l = l.take n ++ l.getD n d :: l.drop (n + 1) := by
  rw [List.getD_eq_getElem _ _ h, List.getElem_cons_drop, List.take_append_drop]

theorem take_succ_getD {α : Type} {l : List α} {n : Nat} (h : n < l.length) (d : α) :
    l.take (n + 1) = l.take n ++ [l.getD n d] := by
  rw [List.getD_eq_getElem _ _ h, List.take_append_getElem]

/-- Records in order behind a kind, and one more in order behind them (R28). -/
theorem ordered_concat {k : Option SegKind} {gs : List Segment} {g : Segment} (h : Ordered k gs)
    (hg : mayFollow (kindBehind k gs) g.kind = true) : Ordered k (gs ++ [g]) :=
  ordered_append h ⟨hg, trivial⟩

end Sys2Proof.Machine

namespace Sys2Proof.SegmentQueues

open Sys2Proof.Machine Sys2Proof.Safety

/-- Settles O34: the checks of STREAM DATA, and the records of a complete stream tested in order by its table. -/
theorem streamsApplyWholeOrNotAtAll : Obligations.StreamsApplyWholeOrNotAtAll := by
  intro r n s hs hn hl answers
  have answer ⦃t c d⦄ (ha : answerStreamData s r = ⟨t, c, d⟩) : answers t c d := by
    refine exec_answered rfl hs ?_ rfl ha
    rw [hl]
    rcases hn with rfl | rfl | rfl <;> rfl
  refine ⟨fun closed => answer (answerStreamData_none closed), fun c hc => ?_⟩
  intro records closed dMax q fence record fits
  have opened := answerStreamData_open hc hl
  have closes : s.closeStream = closed := State.closeStream_of hc
  have complete (last : n = c.remaining) : answerStreamData s r = completeStream s c records := by
    rw [opened, if_neg (by omega), if_pos last.symm]
    rfl
  refine ⟨fun above => answer (opened.trans (if_pos above)), fun below => ?_, fun last bad => ?_, fun last good => ?_⟩
  · refine answer (opened.trans ?_)
    rw [if_neg (by omega), if_neg (by omega)]
    rfl
  · exact answer ((complete last).trans (closes ▸ completeStream_check bad))
  · have table := (complete last).trans (completeStream_good good)
    rw [closes] at table
    have parts (pos : Nat) (inside : pos < records.length) :
        records = records.take pos ++ record pos :: records.drop (pos + 1) := eq_take_getD_drop inside []
    have front (pos : Nat) (inside : pos < records.length) : (records.take pos).length = pos :=
      List.length_take_of_le inside.le
    refine ⟨fun segment => ?_, fun map => ?_, fun guard => ?_⟩
    · rw [segment] at table
      refine ⟨fun full => answer (table.trans (applySegments_full (h := c.head) full)),
        fun gs room read order => answer (table.trans (applySegments_taken (h := c.head) room read order)),
        fun pos room inside before failing => ?_⟩
      obtain ⟨gs, read, order⟩ := before
      have fails (g : Segment) (hg : readSegment dMax (record pos) = some g) :
          mayFollow (kindBehind (s.head c.head).seq.reference gs) g.kind = false := by
        refine Bool.eq_false_iff.2 fun follows => failing ⟨gs ++ [g], ?_, ordered_concat order follows⟩
        rw [take_succ_getD inside [], List.map_append, List.map_append, read]
        exact congrArg (gs.map some ++ [·]) hg
      have refused := checkSegments_fails (rest := records.drop (pos + 1)) 0 read order fails
      rw [← parts pos inside, front pos inside, Nat.zero_add] at refused
      exact answer (table.trans (applySegments_refused (h := c.head) room refused))
    · rw [map] at table
      refine ⟨fun points run => answer (table.trans (applyPoints_taken (h := c.head) run)),
        fun pos points inside run => ?_⟩
      intro code failing
      have refused := checkPoints_run (rest := readPoint (record pos) :: (records.drop (pos + 1)).map readPoint) 0 run
      rw [List.length_map, front pos inside, checkPoints_fails failing, ← List.map_cons, ← List.map_append,
        ← parts pos inside, Nat.zero_add] at refused
      refine answer (table.trans ((applyPoints_refused (s := closed) refused).trans ?_))
      rw [State.refuseFence_eq]
      rfl
    · rw [guard] at table
      refine ⟨fun active => answer (table.trans (applyGuards_active active)), fun gs rest inside twelve read =>
        answer (table.trans (applyGuards_taken rest inside twelve read)), fun pos rest inside twelve before => ?_,
        fun rest beyond => ?_⟩
      · have read : ∀ b ∈ records.take pos, readGuard b ≠ none := fun b hb => by
          obtain ⟨j, hj, rfl⟩ := List.mem_take_iff_getElem.1 hb
          have own := before j (by omega)
          rwa [show record j = records[j] from List.getD_eq_getElem ..] at own
        have fails {code : ReplyCode} (hf : ∀ p, checkGuards p (c.first + pos) (record pos :: records.drop (pos + 1)) =
            .inr (p, code)) : answers closed code (.items [(pos : Int), ((c.first + pos : Nat) : Int)]) := by
          have refused := checkGuards_fails (k := c.first) 0 (by rw [front pos inside]; exact twelve) read
            (by rw [front pos inside]; exact hf)
          rw [← parts pos inside, front pos inside, Nat.zero_add] at refused
          exact answer (table.trans (applyGuards_refused rest refused))
        exact ⟨fun out => fails fun _ => checkGuards_index out.ge .., fun below unread =>
          fails fun _ => checkGuards_value below unread _⟩
      · have any : 0 < records.length := by
          simp only [records, List.length_append, List.length_map, List.length_range]
          omega
        have refused : checkGuards 0 c.first records = .inr (0, .index) := by
          rw [parts 0 any]
          exact checkGuards_index beyond.le ..
        exact answer (table.trans (applyGuards_refused rest refused))

end Sys2Proof.SegmentQueues
end

section
/-! SUPPORT. The MARK line and the planner's start: what a filtered edge does, and what the planner's start leaves of the
state (R49 to R55, R67, R68). -/

namespace Sys2Proof.Machine

open Sys2Proof.Safety

/-! ## A filtered MARK edge -/

theorem State.edgeSetsDatum_iff (s : State) : s.edgeSetsDatum = true ↔
    s.pass.state = .approach ∧ s.pass.datumMode = .mark ∧ s.pass.datumValid = false := by
  simp [State.edgeSetsDatum, and_assoc]

/-- An edge is due as the counter reaches the filter value from below (R53). -/
theorem State.markEdgeDue_iff (s : State) : s.markEdgeDue = true ↔
    s.planner.markHeld = false ∧ s.planner.markCount + 1 = s.gantry.markFilter := by
  simp only [State.markEdgeDue, Bool.and_eq_true, Bool.not_eq_true', decide_eq_true_eq, and_assoc]
  refine and_congr_right fun _ => ?_
  omega

/-- The pass record behind a filtered edge (R54). -/
def State.edgePass (s : State) : PassRecord :=
  if s.edgeSetsDatum then
    { s.pass with x0 := s.planner.measuredX - s.gantry.markStation, datumValid := true }
  else s.pass

/-- The planner record behind a filtered edge: the counter at the filter value, and the latch record filled (R53, R55). -/
def State.edgePlanner (s : State) : Planner :=
  { s.planner with
    markCount := s.gantry.markFilter
    markHeld := true
    latchCount := min (s.planner.latchCount + 1) 255
    latch := some ⟨s.planner.measuredX,
      if s.edgePass.datumValid = true then some (s.planner.measuredX - s.edgePass.x0) else none, s.ring.setNumber⟩ }

theorem State.markEdge_of_due {s : State} (due : s.markEdgeDue = true) : s.markEdge =
    ({ s with planner := s.edgePlanner, pass := s.edgePass } : State).raise
      (if s.edgeSetsDatum then .datumSet else .markLatch) (min (s.planner.latchCount + 1) 255) := by
  let held : State := { s with planner := { s.planner with markCount := s.gantry.markFilter, markHeld := true } }
  have datum : held.setDatum = { held with pass := s.edgePass } := by
    have same : held.edgeSetsDatum = s.edgeSetsDatum := rfl
    unfold State.setDatum State.edgePass
    rw [same]
    split <;> rfl
  have count : detailNumber (countUp 255 held.planner.latchCount) = min (s.planner.latchCount + 1) 255 := by
    rw [detailNumber_eq_min, countUp_eq_min]
    exact min_eq_left (by omega)
  rw [State.markEdge, if_pos due]
  change held.takeMarkEdge = _
  unfold State.takeMarkEdge
  dsimp only
  rw [datum, count]
  simp only [countUp_eq_min]
  rfl

theorem State.markEdge_of_not {s : State} (due : ¬ s.markEdgeDue = true) : s.markEdge = s :=
  if_neg due

/-! ## The MARK line on an accepted set -/

section
variable {s : State}

theorem State.sampleMark_negated (hm : s.lines.mark = false) :
    s.sampleMark = { s with planner := { s.planner with markCount := 0, markHeld := false } } := by
  simp [State.sampleMark, hm]

theorem State.sampleMark_held (hm : s.lines.mark = true) (hh : s.planner.markHeld = true) : s.sampleMark = s := by
  simp [State.sampleMark, hm, hh]

theorem State.sampleMark_edge (hm : s.lines.mark = true) (due : s.markEdgeDue = true) :
    s.sampleMark = s.markEdge := by
  have held := ((s.markEdgeDue_iff).1 due).1
  simp [State.sampleMark, hm, held, due]

theorem State.sampleMark_counts (hm : s.lines.mark = true) (hh : s.planner.markHeld = false)
    (due : ¬ s.markEdgeDue = true) : s.sampleMark = { s with planner := { s.planner with
      markCount := min (s.planner.markCount + 1) s.gantry.markFilter } } := by
  simp [State.sampleMark, hm, hh, due, countUp_eq_min]

end

/-- The MARK line changes the counter, its hold, the latch and the datum alone, and raises an event (R53 to R55). -/
theorem State.sampleMark_frame (s : State) : s.sampleMark = { s with
    planner := { s.planner with
      markCount := s.sampleMark.planner.markCount
      markHeld := s.sampleMark.planner.markHeld
      latchCount := s.sampleMark.planner.latchCount
      latch := s.sampleMark.planner.latch }
    pass := s.sampleMark.pass
    events := s.sampleMark.events } := by
  cases hm : s.lines.mark with
  | false => rw [State.sampleMark_negated hm]
  | true =>
    by_cases due : s.markEdgeDue = true
    · rw [State.sampleMark_edge hm due, State.markEdge_of_due due, State.raise_eq]
      rfl
    · cases hh : s.planner.markHeld with
      | true => rw [State.sampleMark_held hm hh]
      | false => rw [State.sampleMark_counts hm hh due]

/-! ## The planner's start -/

/-- The state in which the MARK line is sampled: commanded X, measured X, skew and lag formed (R49, R50, R67, R68). -/
def State.measuredStart (s : State) (accepted : Bool) : State :=
  (s.followX accepted).reseedStart accepted

/-- The state in which the stations are formed (R53, log entry 47). -/
def State.markedStart (s : State) (accepted : Bool) : State :=
  if accepted then (s.measuredStart accepted).sampleMark else s.measuredStart accepted

theorem State.beginPlanner_eq (s : State) (accepted : Bool) :
    s.beginPlanner accepted = ((s.markedStart accepted).formStation .a).formStation .b := rfl

/-- The planner record at the start of a set, before the MARK line is sampled (R49, R50, R67, R68). -/
def State.plannerFollowed (s : State) (accepted : Bool) : Planner :=
  let q := (s.followX accepted).planner
  if s.active = false ∨ accepted = true ∧ s.planner.xMode = .quickstop then
    { q with commandedX := q.measuredX * 1000, lag := 0 }
  else q

theorem State.measuredStart_eq (s : State) (accepted : Bool) :
    s.measuredStart accepted = { s with planner := s.plannerFollowed accepted } := by
  have mode : (s.followX accepted).planner.xMode = s.planner.xMode := by
    unfold State.followX
    cases accepted <;> rfl
  have seeds : (!(s.followX accepted).active || (accepted && decide ((s.followX accepted).planner.xMode = .quickstop)))
      = true ↔ s.active = false ∨ accepted = true ∧ s.planner.xMode = .quickstop := by
    rw [mode, show (s.followX accepted).active = s.active from rfl]
    simp
  unfold State.measuredStart State.reseedStart State.plannerFollowed
  simp only [seeds]
  split <;> rfl

/-- The command of the set before stands while the planner's start works (R56). -/
theorem State.plannerFollowed_xCommand (s : State) (accepted : Bool) :
    (s.plannerFollowed accepted).xCommand = s.planner.xCommand := by
  have followed : (s.followX accepted).planner.xCommand = s.planner.xCommand := by
    unfold State.followX
    cases accepted <;> rfl
  unfold State.plannerFollowed
  dsimp only
  split <;> exact followed

/-- What the MARK line changes at the start of a set. -/
theorem State.markedStart_of_measured (s : State) (accepted : Bool) : s.markedStart accepted =
    { s.measuredStart accepted with
      planner := { (s.measuredStart accepted).planner with
        markCount := (s.markedStart accepted).planner.markCount
        markHeld := (s.markedStart accepted).planner.markHeld
        latchCount := (s.markedStart accepted).planner.latchCount
        latch := (s.markedStart accepted).planner.latch }
      pass := (s.markedStart accepted).pass
      events := (s.markedStart accepted).events } := by
  cases accepted with
  | false => rfl
  | true => exact (s.measuredStart true).sampleMark_frame

/-- What the samples and the MARK line change at the start of a set. -/
theorem State.markedStart_frame (s : State) (accepted : Bool) : s.markedStart accepted = { s with
    planner := { s.plannerFollowed accepted with
      markCount := (s.markedStart accepted).planner.markCount
      markHeld := (s.markedStart accepted).planner.markHeld
      latchCount := (s.markedStart accepted).planner.latchCount
      latch := (s.markedStart accepted).planner.latch }
    pass := (s.markedStart accepted).pass
    events := (s.markedStart accepted).events } := by
  have frame := s.markedStart_of_measured accepted
  rw [s.measuredStart_eq accepted] at frame
  exact frame

/-- The planner's start changes nothing of a head but its station (R51). -/
theorem State.beginPlanner_head (s : State) (accepted : Bool) (h : HeadId) : (s.beginPlanner accepted).head h =
    { s.head h with seq := { (s.head h).seq with station := (s.markedStart accepted).stationNow h } } := by
  have head : (s.markedStart accepted).head h = s.head h := by
    rw [State.markedStart_frame]
    cases h <;> rfl
  rw [State.beginPlanner_eq, ← head]
  cases h <;> rfl

/-- Beside the heads the planner's start changes the planner, the pass record and the events alone. -/
theorem State.beginPlanner_frame (s : State) (accepted : Bool) : s.beginPlanner accepted = { s with
    planner := (s.markedStart accepted).planner
    pass := (s.markedStart accepted).pass
    events := (s.markedStart accepted).events
    headA := (s.beginPlanner accepted).headA
    headB := (s.beginPlanner accepted).headB } := by
  have formed (v : State) : (v.formStation .a).formStation .b = { v with
    headA := ((v.formStation .a).formStation .b).headA, headB := ((v.formStation .a).formStation .b).headB } := rfl
  conv_lhs => rw [State.beginPlanner_eq, formed, s.markedStart_frame]
  rw [State.beginPlanner_eq, s.markedStart_frame]

end Sys2Proof.Machine

namespace Sys2Proof.SharedTraverse

open Sys2Proof.Machine Sys2Proof.Safety

/-- Settles O41: the edge due, and the records it fills with and without a datum. -/
theorem markEdgeSetsDatumOrLatches : Obligations.MarkEdgeSetsDatumOrLatches := by
  intro s hp
  have runs : exec .filteredMarkEdge s = .next s.markEdge := congrArg Host.Outcome.next (State.ifRunning_of hp _)
  refine ⟨fun none => ?_, fun free reached => ?_⟩
  · rw [runs, State.markEdge_of_not fun due => ?_]
    obtain ⟨free, reached⟩ := s.markEdgeDue_iff.1 due
    exact none.elim (by simp [free]) (absurd reached)
  · intro x count latched sets
    have edge := State.markEdge_of_due (s.markEdgeDue_iff.2 ⟨free, reached⟩)
    refine ⟨fun datum => ?_, fun datum => ?_⟩
    · have sets : s.edgeSetsDatum = true := s.edgeSetsDatum_iff.2 datum
      have pass : s.edgePass = { s.pass with x0 := x - s.gantry.markStation, datumValid := true } := if_pos sets
      have planner : s.edgePlanner = latched (some s.gantry.markStation) := by
        have station : s.planner.measuredX - (x - s.gantry.markStation) = s.gantry.markStation := sub_sub_cancel ..
        simp only [State.edgePlanner, pass, if_true, station]
        rfl
      rw [runs, edge, planner, pass, if_pos sets]
    · have keeps : ¬ s.edgeSetsDatum = true := mt s.edgeSetsDatum_iff.1 datum
      have pass : s.edgePass = s.pass := if_neg keeps
      have planner : s.edgePlanner = latched (if s.pass.datumValid = true then some (x - s.pass.x0) else none) := by
        rw [State.edgePlanner, pass]
      rw [runs, edge, planner, pass, if_neg keeps]

end Sys2Proof.SharedTraverse
end

section
/-! SUPPORT. The bridge while the blocks work a set: `Steady s t` says that the work from `s` to `t` leaves measured X,
skew, X0 and the stations, and keeps the bridge at rest where a head stands. Every operation of the blocks between the
planner's start and its end has one lemma here. -/

namespace Sys2Proof.Machine

open Sys2Proof.Safety

/-! ## One head -/

/-- What a head that stands is told by (R59). -/
def Head.restKey (x : Head) : HeadState × Option ExitPhase × Option ExitRecord :=
  (x.seq.state, x.seq.progress.exitPhase, x.reg.exitRecord)

/-- A head in RUNOUT performs an exit of kind RUN_OUT (R85). -/
def Head.RunsOut (x : Head) : Prop :=
  ∀ r, x.exitPhase = some .runout → x.reg.exitRecord = some r → r.kind = .runOut

/-- A head may move from `x` to `y` while the bridge is still or not: `y` stands only where `x` does or the bridge is
still, and runs out only for an exit of kind RUN_OUT. -/
def Head.Eases (still : Prop) (x y : Head) : Prop :=
  x.RunsOut → y.RunsOut ∧ (Standing y → Standing x ∨ still)

theorem Head.Eases.ofKey {still : Prop} {x y : Head} (e : y.restKey = x.restKey) : x.Eases still y := by
  simp only [Head.restKey, Prod.mk.injEq] at e
  obtain ⟨hs, hp, hr⟩ := e
  have phase : y.exitPhase = x.exitPhase := by simp only [Head.exitPhase, hs, hp]
  intro runs
  refine ⟨by simpa only [Head.RunsOut, phase, hr] using runs, fun stands => .inl ?_⟩
  simpa only [Standing, hs, phase, hr] using stands

/-- A head outside EXIT stands in SPINUP, PLUNGE and DWELL alone. -/
theorem Head.Eases.ofState {still : Prop} {x y : Head} (he : y.seq.state ≠ .exit)
    (hs : y.seq.state = .spinup ∨ y.seq.state = .plunge ∨ y.seq.state = .dwell → Standing x ∨ still) :
    x.Eases still y := by
  have phase : ∀ p, y.exitPhase ≠ some p := fun p e => he (Head.exitPhase_iff.1 e).1
  refine fun _ => ⟨fun r e => absurd e (phase _), ?_⟩
  rintro (e | e | e | ⟨e, -⟩)
  · exact hs (.inl e)
  · exact hs (.inr (.inl e))
  · exact hs (.inr (.inr e))
  · exact absurd e (phase _)

/-- The states outside EXIT in which no head stands. -/
def HeadState.free : HeadState → Bool
  | .spinup | .plunge | .dwell | .exit => false
  | _ => true

theorem Head.Eases.ofFree {still : Prop} {x y : Head} (h : y.seq.state.free = true) : x.Eases still y := by
  refine .ofState (fun e => ?_) fun e => ?_
  · simp [e, HeadState.free] at h
  · rcases e with e | e | e <;> simp [e, HeadState.free] at h

/-- An exit that begins in BRAKE, or in RUNOUT as an exit of kind RUN_OUT, lets the bridge move (R60, R85). -/
theorem Head.Eases.ofExiting {still : Prop} {x y : Head} {p : ExitPhase} {r : ExitRecord}
    (hp : y.exitPhase = some p) (hr : y.reg.exitRecord = some r)
    (h : p = .brake ∨ p = .runout ∧ r.kind = .runOut) : x.Eases still y := by
  have moves : p ≠ .retract := by rintro rfl; simp at h
  refine fun _ => ⟨fun r' e e' => ?_, ?_⟩
  · obtain rfl := Option.some.inj (hp.symm.trans e)
    obtain rfl := Option.some.inj (hr.symm.trans e')
    exact (h.resolve_left (by decide)).2
  · have state := (Head.exitPhase_iff.1 hp).1
    rintro (e | e | e | ⟨e, -⟩)
    · simp [state] at e
    · simp [state] at e
    · simp [state] at e
    · exact absurd (Option.some.inj (hp.symm.trans e)) moves

/-- A head that stood may go into RETRACT. -/
theorem Head.Eases.ofRetracting {still : Prop} {x y : Head} (hp : y.exitPhase = some .retract)
    (h : x.RunsOut → Standing y → Standing x ∨ still) : x.Eases still y :=
  fun runs => ⟨fun _ e => (nomatch hp.symm.trans e), h runs⟩

end Sys2Proof.Machine

namespace Sys2Proof.Safety

open Sys2Proof.Machine

/-- The bridge rests on where the heads move as they may, and the X command stands or becomes 0 (R56, R59). -/
theorem BridgeOk.moved {s t : State} (b : BridgeOk s)
    (hc : t.planner.xCommand = s.planner.xCommand ∨ t.planner.xCommand = 0)
    (hv : t.ring.output.xSpeed = s.ring.output.xSpeed)
    (he : ∀ h, (s.head h).Eases (s.ring.output.xSpeed = 0) (t.head h)) : BridgeOk t := by
  obtain ⟨command, stands, runs⟩ := b
  refine ⟨?_, fun h standing => ?_, fun h => (he h (runs h)).1⟩
  · rw [hv]
    rcases hc with e | e
    · exact e ▸ command
    · exact .inr e
  · rw [hv]
    have rest : s.planner.xCommand = 0 ∧ s.ring.output.xSpeed = 0 := by
      rcases (he h (runs h)).2 standing with e | e
      · exact stands h e
      · exact ⟨command.elim (·.trans e) id, e⟩
    exact ⟨hc.elim (·.trans rest.1) id, rest.2⟩

end Sys2Proof.Safety

namespace Sys2Proof.Machine

open Sys2Proof.Safety

/-! ## The relation -/

/-- The work from `s` to `t` leaves where the bridge and the heads are, and keeps the bridge at rest. -/
structure Steady (s t : State) : Prop where
  sound     : Sound s t
  measuredX : t.planner.measuredX = s.planner.measuredX
  skew      : t.planner.skew = s.planner.skew
  x0        : t.pass.x0 = s.pass.x0
  station   : ∀ h, (t.head h).seq.station = (s.head h).seq.station
  bridge    : Agree s → BridgeOk s → BridgeOk t

theorem Steady.refl (s : State) : Steady s s := ⟨.refl s, rfl, rfl, rfl, fun _ => rfl, fun _ => id⟩

theorem Steady.trans {s t u : State} (a : Steady s t) (b : Steady t u) : Steady s u where
  sound := a.sound.trans b.sound
  measuredX := b.measuredX.trans a.measuredX
  skew := b.skew.trans a.skew
  x0 := b.x0.trans a.x0
  station := fun h => (b.station h).trans (a.station h)
  bridge := fun h k => b.bridge (a.sound.agree h) (a.bridge h k)

theorem Steady.ite {s a b : State} {c : Prop} [Decidable c] (ha : c → Steady s a) (hb : Steady s b) :
    Steady s (if c then a else b) := by
  split
  next hc => exact ha hc
  next => exact hb

theorem Steady.foldl {α : Type} {f : State → α → State} (h : ∀ s x, Steady s (f s x)) (l : List α) (s : State) :
    Steady s (l.foldl f s) := by
  induction l generalizing s with
  | nil => exact .refl s
  | cons x xs ih => exact (h s x).trans (ih _)

/-! ## Single updates -/

/-- Of what the bridge is read from, one head alone has moved, and its station stands. -/
structure HeadMoved (s t : State) (h : HeadId) : Prop where
  pass    : t.pass = s.pass
  planner : t.planner = s.planner
  ring    : t.ring = s.ring
  other   : t.head h.other = s.head h.other
  station : (t.head h).seq.station = (s.head h).seq.station

theorem HeadMoved.trans {s t u : State} {h : HeadId} (a : HeadMoved s t h) (b : HeadMoved t u h) : HeadMoved s u h :=
  ⟨b.pass.trans a.pass, b.planner.trans a.planner, b.ring.trans a.ring, b.other.trans a.other,
    b.station.trans a.station⟩

theorem OneHead.moved {s t : State} {h : HeadId} (a : OneHead s t h)
    (hs : (t.head h).seq.station = (s.head h).seq.station) : HeadMoved s t h :=
  ⟨a.pass, a.planner, a.ring, a.other, hs⟩

theorem HeadAndGuards.moved {s t : State} {h : HeadId} (a : HeadAndGuards s t h)
    (hs : (t.head h).seq.station = (s.head h).seq.station) : HeadMoved s t h :=
  ⟨a.pass, by rw [a.frame], by rw [a.frame], a.other, hs⟩

theorem HeadMoved.bridge {s t : State} {h : HeadId} (m : HeadMoved s t h) (b : BridgeOk s)
    (he : (s.head h).Eases (s.ring.output.xSpeed = 0) (t.head h)) : BridgeOk t :=
  b.moved (.inl (by rw [m.planner])) (by rw [m.ring]) fun g => by
    rcases HeadId.eq_or_other g h with rfl | rfl
    · exact he
    · rw [m.other]
      exact .ofKey rfl

theorem HeadMoved.stations {s t : State} {h : HeadId} (m : HeadMoved s t h) (g : HeadId) :
    (t.head g).seq.station = (s.head g).seq.station := by
  rcases HeadId.eq_or_other g h with rfl | rfl
  · exact m.station
  · rw [m.other]

theorem HeadMoved.steady {s t : State} {h : HeadId} (m : HeadMoved s t h) (sound : Sound s t)
    (he : Agree s → (s.head h).Eases (s.ring.output.xSpeed = 0) (t.head h)) : Steady s t :=
  ⟨sound, by rw [m.planner], by rw [m.planner], by rw [m.pass], m.stations, fun a b => m.bridge b (he a)⟩

theorem Steady.modHead (s : State) (h : HeadId) (f : Head → Head) (sound : Sound s (s.modHead h f))
    (hs : (f (s.head h)).seq.station = (s.head h).seq.station)
    (he : (s.head h).Eases (s.ring.output.xSpeed = 0) (f (s.head h))) : Steady s (s.modHead h f) :=
  ((OneHead.modHead s h f).moved (by simpa using hs)).steady sound fun _ => by simpa using he

/-- An update of a head within its state, its place and what it stands by. -/
theorem Steady.still (s : State) (h : HeadId) (f : Head → Head)
    (hc : (f (s.head h)).seq.core = (s.head h).seq.core) (hk : (f (s.head h)).restKey = (s.head h).restKey)
    (hs : (f (s.head h)).seq.station = (s.head h).seq.station) : Steady s (s.modHead h f) :=
  .modHead s h f (.still s h f hc) hs (.ofKey hk)

theorem Steady.modSeq (s : State) (h : HeadId) (f : Sequencer → Sequencer)
    (hc : (f (s.head h).seq).core = (s.head h).seq.core)
    (hs : (f (s.head h).seq).station = (s.head h).seq.station)
    (hp : (f (s.head h).seq).progress.exitPhase = (s.head h).seq.progress.exitPhase) : Steady s (s.modSeq h f) := by
  refine .still s h _ hc ?_ hs
  have hst : (f (s.head h).seq).state = (s.head h).seq.state := congrArg Prod.fst hc
  simp only [Head.restKey, hp, hst]

theorem Steady.modProgress (s : State) (h : HeadId) (f : Progress → Progress)
    (hp : (f (s.head h).seq.progress).exitPhase = (s.head h).seq.progress.exitPhase) :
    Steady s (s.modProgress h f) :=
  .modSeq s h _ rfl rfl hp

theorem Steady.modReg (s : State) (h : HeadId) (f : Regulator → Regulator)
    (hr : (f (s.head h).reg).exitRecord = (s.head h).reg.exitRecord) : Steady s (s.modReg h f) :=
  .still s h _ rfl (by simp only [Head.restKey, hr]) rfl

theorem Steady.modTrim (s : State) (h : HeadId) (f : Trim → Trim) : Steady s (s.modTrim h f) :=
  .still s h _ rfl rfl rfl

theorem Steady.modFired (s : State) (h : HeadId) (f : HeadFired → HeadFired) : Steady s (s.modFired h f) :=
  .still s h _ rfl rfl rfl

/-- The heads stay as they are, and so do X0, measured X and the skew, while the X command stands or becomes 0. -/
theorem Steady.headsStand {s t : State} (sound : Sound s t)
    (hh : ∀ h, (t.head h).restKey = (s.head h).restKey ∧ (t.head h).seq.station = (s.head h).seq.station)
    (hx : t.pass.x0 = s.pass.x0) (hm : t.planner.measuredX = s.planner.measuredX)
    (hk : t.planner.skew = s.planner.skew)
    (hc : t.planner.xCommand = s.planner.xCommand ∨ t.planner.xCommand = 0)
    (hv : t.ring.output.xSpeed = s.ring.output.xSpeed) : Steady s t where
  sound := sound
  measuredX := hm
  skew := hk
  x0 := hx
  station := fun h => (hh h).2
  bridge := fun _ b => b.moved hc hv fun h => .ofKey (hh h).1

theorem Steady.setGuards (s : State) (l : List GuardRecord) : Steady s { s with guards := l } :=
  .headsStand (.setGuards s l) (fun _ => ⟨rfl, rfl⟩) rfl rfl rfl (.inl rfl) rfl

theorem Steady.events (s : State) (u : EventUnit) : Steady s { s with events := u } :=
  .headsStand (.events s u) (fun _ => ⟨rfl, rfl⟩) rfl rfl rfl (.inl rfl) rfl

theorem Steady.gantryFired (s : State) (f : GantryFired) : Steady s { s with gantryFired := f } :=
  .headsStand (.gantryFired s f) (fun _ => ⟨rfl, rfl⟩) rfl rfl rfl (.inl rfl) rfl

/-! ## Events, faults and guards -/

theorem State.raise_steady (s : State) (k : EventKind) (d : Nat) : Steady s (s.raise k d) := by
  rw [State.raise_eq]
  exact .events s _

theorem State.takeFault_steady (s : State) (k : FaultKind) (o : Option HeadId) (station v : Int) :
    Steady s (s.takeFault k o station v) := by
  rw [State.takeFault_eq]
  exact .events s _

theorem State.faultOf_steady (s : State) (k : FaultKind) (o : Owner) (v : Int) : Steady s (s.faultOf k o v) :=
  s.takeFault_steady ..

theorem State.disarmGuards_steady (s : State) : Steady s s.disarmGuards := .setGuards s _

theorem State.judgeGuards_steady (s : State) : Steady s s.judgeGuards := .setGuards s _

theorem State.setFired_steady (s : State) (c : Cause) : Steady s (s.setFired c) := by
  unfold State.setFired
  split
  case h_1 | h_2 | h_3 | h_4 => exact .modFired s _ _
  case h_5 | h_6 | h_7 | h_8 => exact .gantryFired s _
  all_goals exact .refl s

theorem State.dropFired_steady (s : State) : Steady s s.dropFired := by
  have head : ∀ (t : State) h, Steady t (t.dropHeadFired h) := fun t h => by
    unfold State.dropHeadFired
    exact .modFired t h _
  exact ((head s .a).trans (head _ .b)).trans (.ite (fun _ => .refl _) (.gantryFired _ _))

theorem State.handCaps_steady (s : State) (accepted : Bool) : Steady s (s.handCaps accepted) :=
  .ite (fun _ => (Steady.modTrim s ..).trans (Steady.modTrim ..)) (.refl s)

/-! ## Leaving the pass -/

theorem State.stopHead_moved (s : State) (h : HeadId) : HeadMoved s (s.stopHead h) h :=
  (HeadAndGuards.stopHead s h).moved (by rw [State.stopHead_head]; rfl)

theorem State.stopHead_steady (s : State) (h : HeadId) : Steady s (s.stopHead h) :=
  (s.stopHead_moved h).steady (s.stopHead_sound h) fun _ => by
    rw [State.stopHead_head]
    exact .ofFree rfl

/-- The end of a pass leaves the place and the command of the bridge (R12). -/
theorem State.testPassEnd_place (s : State) : s.testPassEnd.pass.x0 = s.pass.x0 ∧
    s.testPassEnd.planner.measuredX = s.planner.measuredX ∧ s.testPassEnd.planner.skew = s.planner.skew ∧
    s.testPassEnd.planner.xCommand = s.planner.xCommand := by
  unfold State.testPassEnd
  split
  · rw [State.endPass_pass, State.endPass_planner]
    exact ⟨rfl, rfl, rfl, rfl⟩
  · exact ⟨rfl, rfl, rfl, rfl⟩

theorem State.testPassEnd_restKey (s : State) (h : HeadId) : (s.testPassEnd.head h).restKey = (s.head h).restKey := by
  simp only [Head.restKey, State.testPassEnd_seq, State.testPassEnd_reg]

theorem State.testPassEnd_steady (s : State) : Steady s s.testPassEnd :=
  have ⟨x0, measuredX, skew, command⟩ := s.testPassEnd_place
  .headsStand s.testPassEnd_sound (fun h => ⟨s.testPassEnd_restKey h, by rw [State.testPassEnd_seq]⟩) x0 measuredX skew
    (.inl command) (by rw [State.testPassEnd_ring])

/-! ## Orders -/

theorem State.holdOrder_steady (s : State) (c : HoldCause) : Steady s (s.holdOrder c) := by
  have x0 : (s.holdOrder c).pass.x0 = s.pass.x0 := by
    unfold State.holdOrder
    dsimp only
    split <;> rfl
  obtain ⟨frame, -⟩ := s.holdOrder_frame c
  refine .headsStand (s.holdOrder_sound c) (fun h => ?_) x0 ?_ ?_ (.inl ?_) ?_ <;> rw [frame]
  exact ⟨rfl, rfl⟩

/-- An EXIT order takes a standing head into RETRACT, and a traversing one into BRAKE or RUNOUT (R20, R85). -/
theorem State.exitOrder_eases (s : State) (h : HeadId) (k : ExitKind) :
    ((s.exitOrder h k).head h).seq.station = (s.head h).seq.station ∧
      (s.head h).Eases (s.ring.output.xSpeed = 0) ((s.exitOrder h k).head h) := by
  by_cases hn : (s.head h).seq.state.working = false ∨ (s.head h).seq.state = .withdraw ∨ (s.head h).seq.order ≠ .none
  · rw [State.exitOrder_refused k hn]
    exact ⟨rfl, .ofKey rfl⟩
  simp only [not_or, Bool.not_eq_false, not_not] at hn
  obtain ⟨hw, hnw, ho⟩ := hn
  have stops (e : (s.head h).seq.state = .waiting ∨ (s.head h).seq.state = .spinup) :
      (s.exitOrder h k).head h = (s.head h).ordered.stopped := by
    rw [State.exitOrder_stops k e ho, State.stopHead_head, State.modHead_head]
  have retracts (e : (s.head h).seq.state = .plunge ∨ (s.head h).seq.state = .dwell) :
      (s.exitOrder h k).head h =
        (s.head h).ordered.exiting .retract (inPlaceExit (s.head h).profile.depth.retractRate) := by
    rw [State.exitOrder_retracts k e ho, State.modHead_head]
  have carriesOn (e : (s.head h).seq.state = .exit ∨ (s.head h).seq.state = .spindown) :
      (s.exitOrder h k).head h = (s.head h).ordered := by
    rw [State.exitOrder_carriesOn k e ho, State.modHead_head]
  cases e : (s.head h).seq.state <;> simp only [e, HeadState.working, Bool.false_eq_true, not_true] at hw hnw
  case waiting => rw [stops (.inl e)]; exact ⟨rfl, .ofFree rfl⟩
  case spinup => rw [stops (.inr e)]; exact ⟨rfl, .ofFree rfl⟩
  case plunge =>
    rw [retracts (.inl e)]
    exact ⟨rfl, .ofRetracting rfl fun _ _ => .inl (.inr (.inl e))⟩
  case dwell =>
    rw [retracts (.inr e)]
    exact ⟨rfl, .ofRetracting rfl fun _ _ => .inl (.inr (.inr (.inl e)))⟩
  case traverse =>
    rw [State.exitOrder_leavesTraverse k e ho, State.modHead_head]
    cases k with
    | inPlace => exact ⟨rfl, .ofExiting rfl rfl (.inl rfl)⟩
    | runOut => exact ⟨rfl, .ofExiting rfl rfl (.inr ⟨rfl, rfl⟩)⟩
  case exit => rw [carriesOn (.inl e)]; exact ⟨rfl, .ofKey rfl⟩
  case spindown => rw [carriesOn (.inr e)]; exact ⟨rfl, .ofKey rfl⟩

theorem State.exitOrder_steady (s : State) (h : HeadId) (k : ExitKind) : Steady s (s.exitOrder h k) :=
  ((s.exitOrder_frame h k).moved (s.exitOrder_eases h k).1).steady (s.exitOrder_sound h k) fun _ =>
    (s.exitOrder_eases h k).2

theorem State.carryExit_steady (s : State) (h : HeadId) : Steady s (s.carryExit h) :=
  .ite (fun _ => s.exitOrder_steady ..) (.refl s)

theorem State.exitAndCarry_steady (s : State) (h : HeadId) (k : ExitKind) : Steady s (s.exitAndCarry h k) :=
  .ite (fun _ => (s.exitOrder_steady ..).trans (State.carryExit_steady ..)) (.refl s)

theorem State.exitEach_steady (s : State) : Steady s s.exitEach :=
  .ite (fun _ => (Steady.foldl (fun s h => State.exitOrder_steady s h _) _ s).trans
    (Steady.foldl (fun s h => State.carryExit_steady s h) _ _)) (.refl s)

/-- A HALT stops the bridge where it is (R66). -/
theorem State.quickStop_steady (s : State) : Steady s s.quickStop := by
  have stopped : s.planner.quickStopped.measuredX = s.planner.measuredX ∧
      s.planner.quickStopped.skew = s.planner.skew ∧
      (s.planner.quickStopped.xCommand = s.planner.xCommand ∨ s.planner.quickStopped.xCommand = 0) := by
    unfold Planner.quickStopped
    split
    · exact ⟨rfl, rfl, .inl rfl⟩
    · exact ⟨rfl, rfl, .inr rfl⟩
  obtain ⟨measured, skew, command⟩ := stopped
  refine .headsStand s.quickStop_sound (fun h => by simp only [State.quickStop_head, and_self]) ?_ ?_ ?_ ?_ ?_ <;>
    rw [State.quickStop_eq]
  · exact measured
  · exact skew
  · exact command

/-- A HALT takes a head to WITHDRAW or STOPPED, or leaves it (R22). -/
theorem State.haltHead_steady (s : State) (h : HeadId) : Steady s (s.haltHead h) := by
  have halted : (s.head h).halted.seq.station = (s.head h).seq.station ∧
      (s.head h).Eases (s.ring.output.xSpeed = 0) (s.head h).halted := by
    unfold Head.halted
    split
    · exact ⟨rfl, .ofKey rfl⟩
    · split
      · exact ⟨rfl, .ofFree rfl⟩
      · split
        · exact ⟨rfl, .ofFree rfl⟩
        · exact ⟨rfl, .ofKey rfl⟩
  rw [← State.haltHead_head] at halted
  exact ((s.haltHead_frame h).moved halted.1).steady (s.haltHead_sound h) fun _ => halted.2

theorem State.headHalt_steady (s : State) (h : HeadId) : Steady s (s.headHalt h) := by
  refine .ite (fun _ => ?_) (.refl s)
  have a := s.quickStop_steady.trans (State.haltHead_steady _ h)
  dsimp only
  split
  · exact a.trans (.ite (fun _ => State.haltHead_steady ..) (.refl _))
  · exact a.trans (.ite (fun _ => State.holdOrder_steady ..) (.refl _))

theorem State.haltAll_steady (s : State) : Steady s s.haltAll :=
  .ite (fun _ => s.quickStop_steady.trans (Steady.foldl (fun s h => s.haltHead_steady h) _ _)) (.refl s)

theorem State.guardOrder_steady (s : State) (g : GuardRecord) (v : Int) : Steady s (s.guardOrder g v) := by
  unfold State.guardOrder
  split
  · exact .refl s
  · exact .refl s
  · exact s.holdOrder_steady _
  · exact (s.faultOf_steady ..).trans (State.exitAndCarry_steady ..)
  · exact (s.faultOf_steady ..).trans (State.exitEach_steady _)
  · exact (s.faultOf_steady ..).trans (State.headHalt_steady ..)
  · exact (s.faultOf_steady ..).trans (State.haltAll_steady _)

theorem State.takeGuardTrip_steady (s : State) (i : Nat) (v : Int) : Steady s (s.takeGuardTrip i v) := by
  unfold State.takeGuardTrip
  split
  · exact (s.raise_steady ..).trans (State.guardOrder_steady ..)
  · exact .refl s

theorem State.takeCause_steady (s : State) (c : Cause) : Steady s (s.takeCause c) := by
  have a := s.setFired_steady c
  unfold State.takeCause
  cases c <;> refine a.trans ?_
  case guard => exact State.takeGuardTrip_steady ..
  case headStale => exact (State.faultOf_steady ..).trans (State.headHalt_steady ..)
  case saturation | holdLimit | spinupTimeout | startMissed | noContact =>
    exact (State.faultOf_steady ..).trans (State.exitAndCarry_steady ..)
  all_goals exact (State.faultOf_steady ..).trans (State.haltAll_steady _)

theorem State.takeCauses_steady (s : State) (cs : List Cause) : Steady s (s.takeCauses cs) :=
  (Steady.foldl State.takeCause_steady _ s).trans (State.testPassEnd_steady _)

end Sys2Proof.Machine
end

section
/-! SUPPORT. The head sequencer and the events of its records leave the bridge where the planner's start has placed it, and
at rest where a head stands (O11). -/

namespace Sys2Proof.Machine

open Sys2Proof.Safety

/-! ## The station of a head whose records move -/

theorem State.completeRecord_moved (s : State) (h : HeadId) : HeadMoved s (s.completeRecord h) h := by
  refine (s.completeRecord_oneHead h).moved ?_
  unfold State.completeRecord
  split
  · rfl
  · rw [State.raise_head, State.modSeq_head]

theorem State.countRepetition_steady (s : State) (h : HeadId) : Steady s (s.countRepetition h) := by
  refine .modSeq s h _ ?_ ?_ ?_ <;> split <;> rfl

theorem repetitionLoop_steady (n : Nat) (h : HeadId) (s : State) : Steady s (repetitionLoop n h s) := by
  induction n generalizing s with
  | zero => exact .refl s
  | succ n ih => exact .ite (fun _ => (s.countRepetition_steady h).trans (ih _)) (.refl s)

theorem State.countRepetitions_steady (s : State) (h : HeadId) : Steady s (s.countRepetitions h) := by
  unfold State.countRepetitions
  split
  · exact repetitionLoop_steady ..
  · exact .refl s

theorem State.startTraverse_station (s : State) (h : HeadId) (s0 : Int) (reps : Nat) (length : Int) (v : SegValues) :
    ((s.startTraverse h s0 reps length v).head h).seq.station = (s.head h).seq.station := by
  have filled : ((s.fillTraverse h s0 v).head h).seq.station = (s.head h).seq.station := by
    rw [State.fillTraverse, State.modSeq_head]
  unfold State.startTraverse State.endShort
  dsimp only
  split
  · rw [State.raise_head, State.modSeq_head]
    exact filled
  · rw [(State.countRepetitions_steady ..).station, filled]

theorem State.startRecord_station (s : State) (h : HeadId) (e : Int) :
    ((s.startRecord h e).head h).seq.station = (s.head h).seq.station := by
  unfold State.startRecord
  split
  · rfl
  next r _ _ =>
    rw [State.raiseQueueLow_head]
    cases r with
    | start => dsimp only [State.startStart]; rw [State.modSeq_head]
    | dwell => dsimp only [State.startDwell]; rw [State.modSeq_head]
    | traverse => exact s.startTraverse_station ..
    | exit =>
      unfold State.enterExitRecord State.enterExit
      dsimp only
      split <;> rw [State.modHead_head, State.modSeq_head]

theorem State.startRecord_moved (s : State) (h : HeadId) (e : Int) : HeadMoved s (s.startRecord h e) h :=
  (s.startRecord_oneHead h e).moved (s.startRecord_station h e)

/-- A record that becomes executing lets a head move as it may: an EXIT begins in BRAKE, or in RUNOUT as an exit of kind
RUN_OUT; a DWELL stands; and a START keeps the state (R16, R34, R85). -/
theorem State.startRecord_eases {s : State} {h : HeadId} {r : Segment} {rest : List Segment} {x : Head} {still : Prop}
    (e : Int) (hq : (s.head h).seq.queue = r :: rest) (dwell : r.kind = .dwell → Standing x ∨ still)
    (start : r.kind = .start → s.headState h ≠ .exit ∧
      (s.headState h = .spinup ∨ s.headState h = .plunge ∨ s.headState h = .dwell → Standing x ∨ still)) :
    x.Eases still ((s.startRecord h e).head h) := by
  have state : ((s.startRecord h e).head h).seq.state = r.worksIn (s.headState h) :=
    congrArg Prod.fst (State.startRecord_core e hq)
  cases hr : r with
  | start =>
    rw [hr] at state start
    exact .ofState (state ▸ (start rfl).1) (state ▸ (start rfl).2)
  | dwell =>
    rw [hr] at state dwell
    exact .ofState (by rw [state]; exact fun e => nomatch e) fun _ => dwell rfl
  | traverse =>
    rw [hr] at state
    exact .ofFree (by rw [state]; rfl)
  | exit last kind rate runOut =>
    unfold State.startRecord
    simp only [hq, hr]
    rw [State.raiseQueueLow_head]
    unfold State.enterExitRecord State.enterExit
    dsimp only
    split <;> rw [State.modHead_head]
    · exact .ofExiting rfl rfl (.inr ⟨rfl, rfl⟩)
    · exact .ofExiting rfl rfl (.inl rfl)

/-! ## The run through the queue -/

/-- A running head stands, but for one in TRAVERSE. -/
theorem Standing.ofRuns {x : Head} (h : x.seq.state.runs = true) : Standing x ∨ x.seq.state = .traverse := by
  cases e : x.seq.state <;> simp only [e, HeadState.runs, Bool.false_eq_true] at h
  · exact .inl (.inr (.inl e))
  · exact .inl (.inr (.inr (.inl e)))
  · exact .inr rfl

/-- A DWELL behind a TRAVERSE becomes executing only with the bridge at rest (R41, R56). -/
theorem State.handOver_eases {s : State} {h : HeadId} {next : Segment} (a : Agree s)
    (hr : (s.headState h).runs = true) (hn : (s.head h).seq.successor = some next)
    (hw : s.waitsForRest h next = false) :
    (s.head h).Eases (s.ring.output.xSpeed = 0) ((s.handOver h).head h) := by
  obtain ⟨r, rest, hq, -⟩ := State.handOver_core (s.head h).seq.endStation hn
  have completed := State.completeRecord_core hq
  have queue : ((s.completeRecord h).head h).seq.queue = next :: rest := congrArg (·.2.2.1) completed
  have state : (s.completeRecord h).headState h = s.headState h := congrArg Prod.fst completed
  refine State.startRecord_eases _ queue (fun dwell => ?_) fun _ => ⟨fun e => ?_, fun e => ?_⟩
  · refine (Standing.ofRuns hr).imp_right fun traverse => ?_
    have kind := (a.seqs h).2.2.2.2.1 traverse
    obtain ⟨g, executing, hg⟩ := Option.map_eq_some_iff.1 kind
    obtain ⟨hx, -⟩ := Sequencer.queue_of_executing executing
    rw [Sequencer.executingRecord_cons hx hq] at executing
    by_contra moving
    exact absurd ((State.waitsForRest_iff hx hq).2 ⟨Option.some.inj executing ▸ hg, dwell, moving⟩) (by simp [hw])
  · rw [state] at e
    simp [e, HeadState.runs] at hr
  · rw [state] at e
    refine .inl ((Standing.ofRuns hr).resolve_right fun traverse => ?_)
    have : s.headState h = .traverse := traverse
    simp [this] at e

theorem State.handOver_steady {s : State} {h : HeadId} {next : Segment} (hr : (s.headState h).runs = true)
    (hn : (s.head h).seq.successor = some next) (hw : s.waitsForRest h next = false) : Steady s (s.handOver h) := by
  have moved := (s.completeRecord_moved h).trans (State.startRecord_moved _ h (s.head h).seq.endStation)
  exact moved.steady (State.handOver_sound _ hr hn) fun a => State.handOver_eases a hr hn hw

theorem State.starve_steady (s : State) (h : HeadId) : Steady s (s.starve h) :=
  (Steady.modProgress s h _ rfl).trans (State.raise_steady ..)

theorem finishRecord_steady (n : Nat) (h : HeadId) (s : State) (hr : (s.headState h).runs = true) :
    Steady s (finishRecord n h s) := by
  induction n generalizing s with
  | zero => exact .refl s
  | succ n ih =>
    unfold finishRecord
    split
    · exact s.starve_steady h
    next next hn =>
      split
      · exact .refl s
      next hw =>
        have a := State.handOver_steady hr hn (by simpa using hw)
        dsimp only
        split
        next he => exact a.trans (ih _ (State.handOver_runs _ hr hn he))
        next => exact a

theorem State.finishExecuting_steady (s : State) (h : HeadId) (hr : (s.headState h).runs = true) :
    Steady s (s.finishExecuting h) :=
  finishRecord_steady _ h s hr

/-! ## The events of the records -/

theorem State.dwellEnd_steady (s : State) (h : HeadId) : Steady s (s.dwellEnd h) := by
  refine .ite (fun hd => ?_) (.refl s)
  refine (Steady.modProgress s h _ rfl).trans (State.finishExecuting_steady _ h ?_)
  rw [State.modProgress, State.modSeq_headState]
  exact congrArg HeadState.runs (State.dwellEndDue_state hd)

theorem State.repetitionEnd_steady (s : State) (h : HeadId) : Steady s (s.repetitionEnd h) := by
  refine .ite (fun hd => ?_) (.refl s)
  have hr : ((s.countRepetition h).headState h).runs = true := by
    rw [s.countRepetition_state, State.repetitionEndDue_state hd]
    rfl
  exact (s.countRepetition_steady h).trans (.ite (fun _ => State.finishExecuting_steady _ h hr) (.refl _))

theorem State.completeAtRest_steady (s : State) (h : HeadId) : Steady s (s.completeAtRest h) :=
  .ite (fun hd => s.finishExecuting_steady h (by rw [State.atRestDue_state hd]; rfl)) (.refl s)

theorem State.starvationEnd_steady (s : State) (h : HeadId) : Steady s (s.starvationEnd h) := by
  refine .ite (fun hd => ?_) (.refl s)
  refine (Steady.modProgress s h _ rfl).trans (State.finishExecuting_steady _ h ?_)
  rw [State.modProgress, State.modSeq_headState]
  exact State.starvationEndDue_runs hd

theorem State.takeAppendedStart_steady (s : State) (h : HeadId) : Steady s (s.takeAppendedStart h) := by
  have sound := s.takeAppendedStart_sound h
  unfold State.takeAppendedStart at sound ⊢
  split
  next hd =>
    rw [if_pos hd] at sound
    refine (s.startRecord_moved h 0).steady sound fun _ => ?_
    unfold State.appendedStartDue at hd
    dsimp only at hd
    split at hd
    next hq =>
      obtain ⟨rest, hq⟩ := List.head?_eq_some_iff.1 hq
      have waiting : s.headState h = .waiting := by
        simp only [Bool.and_eq_true, decide_eq_true_eq] at hd
        exact hd.1
      refine State.startRecord_eases 0 hq (fun e => by cases e) fun _ => ?_
      simp [waiting]
    next => cases hd
  next => exact .refl s

/-! ## Spin-up and spin-down -/

/-- A spin-up begins with the bridge at rest (R14). -/
theorem State.startSpinup_steady (s : State) (h : HeadId) : Steady s (s.startSpinup h) := by
  have sound := s.startSpinup_sound h
  unfold State.startSpinup at sound ⊢
  split
  next hd =>
    rw [if_pos hd] at sound
    have rest : s.ring.output.xSpeed = 0 := by
      unfold State.spinupStartDue at hd
      split at hd
      · simp only [Bool.and_eq_true, decide_eq_true_eq] at hd
        exact hd.2
      · cases hd
    have frame : ((s.park h .spinup).modSeq h fun q => { q with atSpeedCount := 0, spinupTimer := 0 }) =
        s.modHead h fun x => { x with
          seq := { x.seq with state := .spinup, atSpeedCount := 0, spinupTimer := 0 }, reg := x.reg.cleared } :=
      State.modHead_modHead ..
    dsimp only at sound ⊢
    rw [frame, State.modHead_modHead] at sound ⊢
    exact .modHead s h _ sound rfl (.ofState (fun e => nomatch e) fun _ => .inr rest)
  next => exact .refl s

theorem State.atSpeed_steady (s : State) (h : HeadId) : Steady s (s.atSpeed h) := by
  have sound := s.atSpeed_sound h
  unfold State.atSpeed at sound ⊢
  split
  next hd =>
    rw [if_pos hd] at sound
    refine .modHead s h _ sound rfl (.ofState (fun e => nomatch e) fun _ => .inl (.inl ?_))
    simp only [State.atSpeedDue, Bool.and_eq_true, decide_eq_true_eq] at hd
    exact hd.1
  next => exact .refl s

theorem State.finishHead_moved (s : State) (h : HeadId) : HeadMoved s (s.finishHead h) h where
  pass := s.finishHead_pass h
  planner := by simp [State.finishHead_eq]
  ring := by simp [State.finishHead_eq]
  other := s.finishHead_other h
  station := by rw [State.finishHead_head]; rfl

theorem State.waitAgain_moved (s : State) (h : HeadId) : HeadMoved s (s.waitAgain h) h := by
  refine (s.waitAgain_oneHead h).moved ?_
  rw [State.waitAgain_eq]
  split
  · rw [State.raise_head, State.modHead_head]
    rfl
  · rw [State.startRecord_station, State.modHead_head]
    rfl

/-- A spin-down ends in STOPPED, FINISHED or WAITING, and the pass-end test follows (R12, R17). -/
theorem State.spindownEnd_moved {s : State} {h : HeadId} (hd : s.spindownEndDue h = true) :
    ∃ t, s.spindownEnd h = t.testPassEnd ∧ HeadMoved s t h ∧ (Agree s → (t.headState h).free = true) := by
  have spindown : (s.head h).seq.state = .spindown := by
    simp only [State.spindownEndDue, Bool.and_eq_true, decide_eq_true_eq] at hd
    exact hd.1
  have stopped : ∀ t : State, ((t.stopHead h).headState h).free = true := fun t => by
    rw [State.headState, State.stopHead_head]
    rfl
  rw [State.spindownEnd, if_pos hd]
  dsimp only
  split
  next last kind rate runOut hr =>
    obtain ⟨-, rest, hq⟩ := Sequencer.queue_of_executing hr
    have completed := State.completeRecord_core hq
    have lastKind : ((s.completeRecord h).head h).seq.lastKind = some .exit := congrArg (·.2.2.2.1) completed
    have queue : ((s.completeRecord h).head h).seq.queue = rest := congrArg (·.2.2.1) completed
    have moved := s.completeRecord_moved h
    refine ⟨_, rfl, ?_, fun a => ?_⟩
    · split
      · exact moved.trans (State.stopHead_moved ..)
      · split
        · exact moved.trans (State.finishHead_moved ..)
        · exact moved.trans (State.waitAgain_moved ..)
    · have ordered := (a.seqs h).1
      rw [hq] at ordered
      split
      · exact stopped _
      · split
        · rw [State.headState, State.finishHead_head]
          rfl
        · rw [(State.waitAgain_seqOk _ h lastKind (by rw [lastKind, queue]; exact ordered.2)).2]
          rfl
  next hr =>
    refine ⟨_, rfl, ?_, fun a => ?_⟩
    · split
      · exact s.stopHead_moved h
      · exact s.waitAgain_moved h
    · split
      · exact stopped s
      next hf =>
        have kind := (a.seqs h).2.2.2.2.2 (.inr spindown) (by simpa using hf)
        obtain ⟨g, hg, hk⟩ := Option.map_eq_some_iff.1 kind
        cases g <;> simp only [Segment.kind, reduceCtorEq] at hk
        exact (hr _ _ _ _ hg).elim

theorem State.spindownEnd_steady (s : State) (h : HeadId) : Steady s (s.spindownEnd h) := by
  by_cases hd : s.spindownEndDue h = true
  · have sound := s.spindownEnd_sound h
    obtain ⟨t, e, moved, free⟩ := State.spindownEnd_moved hd
    rw [e] at sound ⊢
    obtain ⟨x0, measuredX, skew, command⟩ := t.testPassEnd_place
    refine ⟨sound, by rw [measuredX, moved.planner], by rw [skew, moved.planner], by rw [x0, moved.pass], fun g => ?_,
      fun a b => ?_⟩
    · rw [State.testPassEnd_seq, moved.stations]
    · exact (moved.bridge b (.ofFree (free a))).moved (.inl command) (by rw [State.testPassEnd_ring]) fun g =>
        .ofKey (t.testPassEnd_restKey g)
  · rw [State.spindownEnd, if_neg hd]
    exact .refl s

/-! ## The head sequencer's set -/

theorem State.workSpinup_steady (s : State) (accepted : Bool) (h : HeadId) : Steady s (s.workSpinup accepted h) := by
  have a : Steady s (s.modSeq h fun q => { q with spinupTimer := q.spinupTimer + 1 }) := .modSeq s h _ rfl rfl rfl
  exact a.trans (.ite (fun _ => (Steady.modSeq _ h _ rfl rfl rfl).trans (State.atSpeed_steady ..)) (.refl _))

theorem State.workDwell_steady (s : State) (accepted : Bool) (h : HeadId) : Steady s (s.workDwell accepted h) :=
  .ite (fun _ => .ite (fun _ => s.starvationEnd_steady h) (.refl s))
    ((Steady.modProgress s h _ rfl).trans (State.dwellEnd_steady ..))

theorem State.workTraverse_steady (s : State) (accepted : Bool) (h : HeadId) (hs : s.headState h = .traverse) :
    Steady s (s.workTraverse accepted h) := by
  have runs : ∀ t : State, t.headState h = .traverse → (t.headState h).runs = true := fun t e => by rw [e]; rfl
  have counted := s.countRepetitions_steady h
  refine .ite (fun _ => ?_) (.ite (fun _ => .ite (fun _ => s.starvationEnd_steady h) (.refl s)) ?_)
  · exact counted.trans (.ite (fun _ => State.finishExecuting_steady _ h
      (runs _ ((s.countRepetitions_state h).trans hs))) (.refl _))
  · split
    · exact s.starve_steady h
    · exact s.completeAtRest_steady h
    · exact .ite (fun _ => s.finishExecuting_steady h (runs s hs)) (.refl s)

theorem State.workState_steady (s : State) (accepted : Bool) (h : HeadId) : Steady s (s.workState accepted h) := by
  cases e : s.headState h <;> simp only [State.workState, e]
  case waiting => exact s.startSpinup_steady h
  case spinup => exact s.workSpinup_steady ..
  case plunge => exact .ite (fun _ => s.starvationEnd_steady h) (.refl s)
  case dwell => exact s.workDwell_steady ..
  case traverse => exact s.workTraverse_steady accepted h e
  case spindown => exact .ite (fun _ => s.spindownEnd_steady h) (.refl s)
  all_goals exact .refl s

theorem State.workHoldTimer_steady (s : State) (h : HeadId) : Steady s (s.workHoldTimer h) := by
  unfold State.workHoldTimer
  exact .modSeq s h _ rfl rfl rfl

theorem State.workSequencer_steady (s : State) (accepted : Bool) (h : HeadId) :
    Steady s (s.workSequencer accepted h) :=
  ((Steady.ite (fun _ => s.takeAppendedStart_steady h) (.refl s)).trans (State.workState_steady ..)).trans
    (State.workHoldTimer_steady ..)

end Sys2Proof.Machine
end

section
/-! SUPPORT. The regulator, the guard unit and a whole set leave the bridge where the planner's start has placed it, and at
rest where a head stands (O11). -/

namespace Sys2Proof.Machine

open Sys2Proof.Safety

/-! ## The regulator's set -/

theorem State.setDemand_steady (s : State) (h : HeadId) (d : Int) : Steady s (s.setDemand h d) := .modReg s h _ rfl

theorem State.formTargets_steady (s : State) (h : HeadId) : Steady s (s.formTargets h) := .still s h _ rfl rfl rfl

theorem State.regulate_steady (s : State) (h : HeadId) : Steady s (s.regulate h) := by
  unfold State.regulate
  exact (s.formTargets_steady h).trans (Steady.modReg _ h _ rfl)

theorem State.coastTargets_steady (s : State) (h : HeadId) : Steady s (s.coastTargets h) :=
  (s.formTargets_steady h).trans (State.setDemand_steady ..)

theorem State.workRegulated_steady (s : State) (accepted : Bool) (h : HeadId) :
    Steady s (s.workRegulated accepted h) :=
  .ite (fun _ => s.regulate_steady h) (s.coastTargets_steady h)

theorem State.takeContact_steady (s : State) (h : HeadId) : Steady s (s.takeContact h) :=
  .ite (fun _ => .modReg s h _ rfl) (.refl s)

theorem State.seatComplete_steady (s : State) (h : HeadId) : Steady s (s.seatComplete h) := by
  refine .ite (fun hd => s.finishExecuting_steady h ?_) (.refl s)
  rw [State.headState, ((s.seatCompleteDue_iff h).1 hd).1]
  rfl

theorem State.judgeSeat_steady (s : State) (h : HeadId) : Steady s (s.judgeSeat h) := by
  rw [State.judgeSeat_eq]
  exact .modReg s h _ rfl

/-- A head in EXIT goes on into RETRACT, in which it stands for an exit in place alone (R59). -/
theorem State.enterRetract_steady {s : State} {h : HeadId} (exit : (s.head h).seq.state = .exit)
    (rest : (s.head h).RunsOut → (∃ r, (s.head h).reg.exitRecord = some r ∧ r.kind = .inPlace) →
      s.ring.output.xSpeed = 0) : Steady s (s.enterRetract h) := by
  have head : (s.enterRetract h).head h = { s.head h with seq := { (s.head h).seq with
      progress := { (s.head h).seq.progress with exitPhase := some .retract } } } := State.modProgress_head ..
  have one : OneHead s (s.enterRetract h) h := by
    unfold State.enterRetract State.modProgress
    exact .modSeq s h _
  refine (one.moved (by rw [head])).steady (.modProgress s h _) fun _ => ?_
  rw [head]
  refine .ofRetracting (Head.exitPhase_iff.2 ⟨exit, rfl⟩) fun runs standing => .inr (rest runs ?_)
  rcases standing with e | e | e | ⟨-, inPlace⟩
  · cases exit.symm.trans e
  · cases exit.symm.trans e
  · cases exit.symm.trans e
  · exact inPlace

/-- A BRAKE ends with the bridge at rest (R86). -/
theorem State.brakeEnd_steady (s : State) (h : HeadId) : Steady s (s.brakeEnd h) := by
  refine .ite (fun hd => ?_) (.refl s)
  simp only [State.brakeEndDue, Bool.and_eq_true, decide_eq_true_eq] at hd
  exact State.enterRetract_steady (Head.exitPhase_iff.1 hd.1).1 fun _ _ => hd.2

/-- A run-out goes on into the RETRACT of an exit that is not in place (R59, R85, R87). -/
theorem State.runoutEnd_steady (s : State) (h : HeadId) : Steady s (s.runoutEnd h) := by
  refine .ite (fun hd => ?_) (.refl s)
  simp only [State.runoutEndDue, Bool.and_eq_true, decide_eq_true_eq] at hd
  refine State.enterRetract_steady (Head.exitPhase_iff.1 hd.1).1 fun runs ⟨r, hr, inPlace⟩ => ?_
  cases (runs r hd.1 hr).symm.trans inPlace

theorem State.workRunout_steady (s : State) (h : HeadId) : Steady s (s.workRunout h) :=
  (s.setDemand_steady ..).trans (State.runoutEnd_steady ..)

theorem State.retractStep_steady (s : State) (h : HeadId) : Steady s (s.retractStep h) :=
  s.setDemand_steady ..

theorem State.retractEnd_steady (s : State) (h : HeadId) : Steady s (s.retractEnd h) := by
  have sound := s.retractEnd_sound h
  unfold State.retractEnd at sound ⊢
  split
  next hd =>
    rw [if_pos hd] at sound
    exact .modHead s h _ sound rfl (.ofFree rfl)
  next => exact .refl s

theorem State.enterSpinstop_steady (s : State) (h : HeadId) : Steady s (s.enterSpinstop h) :=
  .ite (fun _ => .still s h _ rfl rfl rfl) (.refl s)

theorem State.withdrawalEnd_steady (s : State) (h : HeadId) : Steady s (s.withdrawalEnd h) :=
  .ite (fun _ => (s.stopHead_steady h).trans (State.testPassEnd_steady _)) (.refl s)

theorem State.formRamp_steady (s : State) (accepted : Bool) (h : HeadId) : Steady s (s.formRamp accepted h) := by
  cases hs : (s.head h).seq.state <;> simp only [State.formRamp, hs]
  case exit =>
    split
    · exact .ite (fun _ => s.workRunout_steady h) (s.setDemand_steady ..)
    · exact s.retractStep_steady h
    · exact .ite (fun _ => (s.brakeEnd_steady h).trans (State.retractStep_steady ..)) (.refl s)
  case withdraw =>
    split
    · exact (s.setDemand_steady ..).trans (State.enterSpinstop_steady ..)
    · exact s.setDemand_steady ..
  case plunge | dwell | traverse => exact .refl s
  all_goals exact s.setDemand_steady ..

theorem State.workSeat_steady (s : State) (h : HeadId) : Steady s (s.workSeat h) := by
  have a := ((s.regulate_steady h).trans (State.judgeSeat_steady _ h)).trans (State.seatComplete_steady _ h)
  exact a.trans (.ite (fun _ => State.formRamp_steady ..) (.refl _))

theorem State.workDescent_steady (s : State) (h : HeadId) : Steady s (s.workDescent h) :=
  .ite (fun _ => (s.takeContact_steady h).trans (State.workSeat_steady ..))
    (.ite (fun _ => s.setDemand_steady ..) (s.setDemand_steady ..))

theorem State.workExit_steady (s : State) (accepted : Bool) (h : HeadId) : Steady s (s.workExit accepted h) := by
  unfold State.workExit
  split
  · exact s.formRamp_steady ..
  · exact .ite (fun _ => s.retractEnd_steady h) (s.formRamp_steady ..)
  · exact .ite (fun _ => s.formRamp_steady ..) (s.workRegulated_steady ..)

theorem State.workPhase_steady (s : State) (accepted : Bool) (h : HeadId) : Steady s (s.workPhase accepted h) := by
  cases hs : s.headState h <;> simp only [State.workPhase, hs]
  case plunge =>
    split
    · exact .ite (fun _ => s.workDescent_steady h) (s.setDemand_steady ..)
    · exact .ite (fun _ => s.workSeat_steady h) (s.coastTargets_steady h)
  case dwell | traverse => exact s.workRegulated_steady ..
  case exit => exact s.workExit_steady ..
  case withdraw =>
    split
    · exact s.formRamp_steady ..
    · exact .ite (fun _ => (s.formRamp_steady accepted h).trans (State.withdrawalEnd_steady ..)) (s.formRamp_steady ..)
  all_goals exact s.formRamp_steady ..

theorem State.workRegulator_steady (s : State) (accepted : Bool) (h : HeadId) :
    Steady s (s.workRegulator accepted h) :=
  (Steady.modReg s h _ rfl).trans (State.workPhase_steady ..)

theorem State.reformDemand_steady (s : State) (accepted : Bool) (before : State) (h : HeadId) :
    Steady s (s.reformDemand accepted before h) :=
  .ite (fun _ => .refl s) (s.formRamp_steady ..)

theorem State.workNoContact_steady (s : State) (accepted : Bool) : Steady s (s.workNoContact accepted) :=
  .ite (fun _ => ((s.takeCauses_steady _).trans (State.reformDemand_steady ..)).trans (State.reformDemand_steady ..))
    (.refl s)

theorem State.workHeads_steady (s : State) (accepted : Bool) : Steady s (s.workHeads accepted) :=
  ((((s.workSequencer_steady ..).trans (State.workSequencer_steady ..)).trans
    (State.workRegulator_steady ..)).trans (State.workRegulator_steady ..)).trans (State.workNoContact_steady ..)

theorem State.workGuards_steady (s : State) (accepted : Bool) : Steady s (s.workGuards accepted) := by
  unfold State.workGuards
  dsimp only
  have a := s.disarmGuards_steady
  generalize s.disarmGuards = t at a ⊢
  have b : Steady s (if accepted = true then t.judgeGuards else t) :=
    a.trans (.ite (fun _ => t.judgeGuards_steady) (.refl t))
  generalize (if accepted = true then t.judgeGuards else t) = u at b ⊢
  exact ((((b.trans (State.takeCauses_steady ..)).trans (State.reformDemand_steady ..)).trans
    (State.reformDemand_steady ..)).trans (State.disarmGuards_steady _)).trans (State.dropFired_steady _)

/-! ## Arrival and the trim units -/

theorem State.stopEvery_steady (s : State) : Steady s s.stopEvery :=
  (Steady.foldl (fun s h => s.stopHead_steady h) _ s).trans (State.testPassEnd_steady _)

theorem State.toRunning_steady (s : State) (h : s.pass.state = .approach) : Steady s s.toRunning :=
  .headsStand (s.toRunning_sound h) (fun _ => ⟨rfl, rfl⟩) rfl rfl rfl (.inl rfl) rfl

theorem State.arrival_steady (s : State) : Steady s s.arrival :=
  .ite (fun hd => .ite (fun _ => (s.faultOf_steady ..).trans (State.stopEvery_steady _))
    (.ite (fun _ => (s.takeFault_steady ..).trans (State.stopEvery_steady _))
      (.ite (fun _ => (s.takeFault_steady ..).trans (State.stopEvery_steady _))
        (s.toRunning_steady (State.arrivalDue_state hd))))) (.refl s)

theorem State.abortPass_steady (s : State) : Steady s s.abortPass :=
  (Steady.foldl (fun s h => s.exitOrder_steady h _) _ s).trans (State.testPassEnd_steady _)

theorem State.openSet_steady (s : State) (accepted loss : Bool) : Steady s (s.openSet accepted loss) :=
  (s.takeCauses_steady _).trans (State.arrival_steady _)

theorem State.workTrim_steady (s : State) (accepted : Bool) (h : HeadId) : Steady s (s.workTrim accepted h) := by
  unfold State.workTrim
  exact .still s h _ rfl rfl rfl

theorem State.settleDemand_steady (s : State) (h : HeadId) : Steady s (s.settleDemand h) := .still s h _ rfl rfl rfl

theorem State.formFence_steady (s : State) (h : HeadId) : Steady s (s.formFence h) := by
  unfold State.formFence
  exact .still s h _ rfl rfl rfl

/-- A set before the planner's end: the blocks have worked it, and the demands and fences are formed (log entry 6). -/
def State.fencedSet (s : State) (accepted loss : Bool) : State :=
  let t := (((s.openSet accepted loss).workHeads accepted).workGuards accepted).handCaps accepted
  let t := ((t.workTrim accepted .a).workTrim accepted .b)
  (((t.settleDemand .a).settleDemand .b).formFence .a).formFence .b

theorem State.workSet_eq (s : State) (accepted loss : Bool) :
    s.workSet accepted loss = (s.fencedSet accepted loss).endPlanner.disarmGuards.formOutputs := rfl

theorem State.fencedSet_worked (s : State) (accepted loss : Bool) : Worked s (s.fencedSet accepted loss) :=
  have guarded := (((s.openSet_worked accepted loss).trans (State.workHeads_worked _ accepted)).trans
    (State.workGuards_worked _ accepted)).trans (State.handCaps_worked _ accepted)
  have trimmed := (guarded.trans (State.workTrim_worked _ accepted .a)).trans (State.workTrim_worked _ accepted .b)
  (((trimmed.trans (State.settleDemand_worked ..)).trans (State.settleDemand_worked ..)).trans
    (State.formFence_worked ..)).trans (State.formFence_worked ..)

theorem State.fencedSet_steady (s : State) (accepted loss : Bool) : Steady s (s.fencedSet accepted loss) :=
  have guarded := (((s.openSet_steady accepted loss).trans (State.workHeads_steady _ accepted)).trans
    (State.workGuards_steady _ accepted)).trans (State.handCaps_steady _ accepted)
  have trimmed := (guarded.trans (State.workTrim_steady _ accepted .a)).trans (State.workTrim_steady _ accepted .b)
  (((trimmed.trans (State.settleDemand_steady ..)).trans (State.settleDemand_steady ..)).trans
    (State.formFence_steady ..)).trans (State.formFence_steady ..)

end Sys2Proof.Machine
end

section
/-! SUPPORT. The X command that the planner's end forms while a head stands, and every command and every step keep the
bridge at rest (O11). -/

namespace Sys2Proof.Machine

open Sys2Proof.Safety

/-! ## The planner's end -/

/-- The X command that the planner forms on the state as it stands (R61 to R66). -/
def State.nextCommand (s : State) : Int :=
  s.formCommand s.formStopPoints (s.formDemand s.formStopPoints)

/-- The planner record at the end of a set, before the pass-end test (R56 to R66). -/
def State.plannerFormed (s : State) : Planner :=
  { s.planner with
    stopPoints := s.formStopPoints
    xDemand := s.formDemand s.formStopPoints
    xCommand := s.nextCommand
    xMode := s.planner.xMode.after s.nextCommand }

theorem State.endPlanner_eq (s : State) : s.endPlanner =
    if s.planner.xCommand ≠ 0 ∧ s.nextCommand = 0 then
      State.testPassEnd { s with planner := s.plannerFormed }
    else { s with planner := s.plannerFormed } := rfl

/-- What the planner's end leaves, and the command it forms. -/
theorem State.endPlanner_place (s : State) : s.endPlanner.pass.x0 = s.pass.x0 ∧
    s.endPlanner.planner.measuredX = s.planner.measuredX ∧ s.endPlanner.planner.skew = s.planner.skew ∧
    s.endPlanner.planner.xCommand = s.nextCommand := by
  rw [State.endPlanner_eq]
  split
  · exact State.testPassEnd_place _
  · exact ⟨rfl, rfl, rfl, rfl⟩

theorem State.endPlanner_restKey (s : State) (h : HeadId) :
    (s.endPlanner.head h).restKey = (s.head h).restKey ∧ (s.endPlanner.head h).seq = (s.head h).seq := by
  rw [State.endPlanner_eq]
  split
  · exact ⟨State.testPassEnd_restKey .., State.testPassEnd_seq ..⟩
  · exact ⟨rfl, rfl⟩

theorem brakingSpeed_nonneg (dec d : Int) : 0 ≤ brakingSpeed dec d := by
  unfold brakingSpeed
  split
  · exact le_rfl
  · exact Int.natCast_nonneg _

/-- A head that stands works, past its wait, and holds the X demand at 0 (R13, R59). -/
theorem Head.holdsX_of_standing {x : Head} (h : Standing x) :
    x.holdsX = true ∧ x.seq.state.working = true ∧ x.seq.state ≠ .waiting ∧ x.seq.state ≠ .stopped := by
  rcases h with e | e | e | ⟨phase, r, record, inPlace⟩
  · simp [Head.holdsX, e, HeadState.working]
  · simp [Head.holdsX, e, HeadState.working]
  · simp [Head.holdsX, e, HeadState.working]
  · obtain ⟨e, phase⟩ := Head.exitPhase_iff.1 phase
    simp [Head.holdsX, e, HeadState.working, phase, record, inPlace]

/-- With a head that stands, the target of the set is 0 (R59, R61, R62). -/
theorem State.formTarget_of_standing {s : State} {h : HeadId} (a : Agree s) (xMax : 0 ≤ s.gantry.xMax)
    (stands : Standing (s.head h)) (points : List StopPoint) : s.formTarget points (s.formDemand points) = 0 := by
  obtain ⟨holds, working, waits, stopped⟩ := Head.holdsX_of_standing stands
  obtain ⟨active, named⟩ := a.named h working
  have braked : s.brakedTarget points 0 = 0 := by
    unfold State.brakedTarget
    dsimp only
    rw [min_eq_left xMax]
    split
    · rfl
    · exact min_eq_left (brakingSpeed_nonneg ..)
  rcases (PassState.active_iff _).1 active with running | held | approach
  · have held : (s.pass.heads.members.any fun g => (s.head g).holdsX) = true :=
      List.any_eq_true.2 ⟨h, (HeadSet.mem_members ..).2 named, holds⟩
    simp only [State.formTarget, State.formDemand, running, held, if_true, braked]
  · simp only [State.formTarget, State.formDemand, held, braked]
  · exact (a.approach approach h named).elim (absurd · waits) (absurd · stopped)

/-- A bridge at rest stays at rest while a head stands (R56, R59, R64). -/
theorem State.nextCommand_of_standing {s : State} {h : HeadId} (a : Agree s) (xMax : 0 ≤ s.gantry.xMax)
    (stands : Standing (s.head h)) (rest : s.planner.xCommand = 0) : s.nextCommand = 0 := by
  unfold State.nextCommand State.formCommand
  split
  · rfl
  · rw [State.formTarget_of_standing a xMax stands, rest]
    rfl

end Sys2Proof.Machine

namespace Sys2Proof.Safety

open Sys2Proof.Machine

theorem HeadsOk.agree {s : State} (h : HeadsOk s) : Agree s :=
  ((headsOk_iff s).1 h).2.2.2

theorem HeadsOk.xMax_nonneg {s : State} (h : HeadsOk s) : 0 ≤ s.gantry.xMax := by
  obtain ⟨-, -, ⟨⟨-, low, -⟩, -⟩, -⟩ := h
  omega

/-! ## Sets -/

/-- The planner's end and the output set keep the bridge at rest. -/
theorem BridgeOk.endSet {s : State} (heads : HeadsOk s) (b : BridgeOk s) :
    BridgeOk s.endPlanner.disarmGuards.formOutputs := by
  obtain ⟨-, -, -, command⟩ := s.endPlanner_place
  obtain ⟨-, still, runs⟩ := b
  have eases (h : HeadId) : (s.head h).Eases False (s.endPlanner.head h) := .ofKey (s.endPlanner_restKey h).1
  refine ⟨.inl rfl, fun h stands => ?_, fun h => (eases h (runs h)).1⟩
  have stood : Standing (s.head h) := ((eases h (runs h)).2 stands).resolve_right id
  have rest := command.trans (State.nextCommand_of_standing heads.agree heads.xMax_nonneg stood (still h stood).1)
  exact ⟨rest, rest⟩

theorem BridgeOk.workSet {s : State} (heads : HeadsOk s) (b : BridgeOk s) (accepted loss : Bool) :
    BridgeOk (s.workSet accepted loss) := by
  have steady := s.fencedSet_steady accepted loss
  rw [State.workSet_eq]
  exact BridgeOk.endSet (heads.moved (s.fencedSet_worked ..) steady.sound) (steady.bridge heads.agree b)

/-- Nothing that the bridge is read from has changed. -/
theorem BridgeOk.same {s t : State} (b : BridgeOk s) (hc : t.planner.xCommand = s.planner.xCommand)
    (hr : t.ring.output = s.ring.output) (hh : ∀ h, (t.head h).restKey = (s.head h).restKey) : BridgeOk t :=
  b.moved (.inl hc) (by rw [hr]) fun h => .ofKey (hh h)

/-- The planner's start leaves the X command and the states of the heads (R56). -/
theorem BridgeOk.beginPlanner {s : State} (b : BridgeOk s) (accepted : Bool) : BridgeOk (s.beginPlanner accepted) := by
  refine b.same ?_ ?_ fun h => ?_
  · rw [State.beginPlanner_frame, State.markedStart_frame]
    exact s.plannerFollowed_xCommand accepted
  · rw [State.beginPlanner_frame]
  · rw [State.beginPlanner_head]
    rfl

end Sys2Proof.Safety
end

section
/-! SUPPORT. Every request, every command and every step keep the bridge at rest (O11). -/

namespace Sys2Proof.Safety

open Sys2Proof.Machine

/-! ## Requests on the tables and the queues -/

/-- A request that changes of one head neither its state nor its exit. -/
theorem BridgeOk.modHead {s : State} (b : BridgeOk s) (x : HeadId) {f : Head → Head}
    (hf : (f (s.head x)).restKey = (s.head x).restKey) : BridgeOk (s.modHead x f) := by
  refine b.same (by rw [State.modHead_planner]) (by rw [State.modHead_ring]) fun h => ?_
  rcases HeadId.eq_or_other h x with rfl | rfl
  · rw [State.modHead_head, hf]
  · rw [State.modHead_other]

theorem BridgeOk.modMap {s : State} (b : BridgeOk s) (x : HeadId) (f : CompMap → CompMap) : BridgeOk (s.modMap x f) :=
  b.modHead x rfl

theorem BridgeOk.modSeq {s : State} (b : BridgeOk s) (x : HeadId) {f : Sequencer → Sequencer}
    (hs : (f (s.head x).seq).state = (s.head x).seq.state)
    (hp : (f (s.head x).seq).progress = (s.head x).seq.progress) : BridgeOk (s.modSeq x f) :=
  b.modHead x (by simp only [Head.restKey, hs, hp])

theorem BridgeOk.raise {s : State} (b : BridgeOk s) (k : EventKind) (d : Nat) : BridgeOk (s.raise k d) :=
  b.same (by rw [State.raise_planner]) (by rw [State.raise_ring]) fun h => by rw [State.raise_head]

theorem BridgeOk.refuseFence {s : State} (b : BridgeOk s) (x : HeadId) (k : Nat) : BridgeOk (s.refuseFence x k) :=
  (b.modMap x _).raise ..

theorem BridgeOk.putGuards {s : State} (b : BridgeOk s) (k : Nat) (gs : List GuardRecord) :
    BridgeOk (Machine.putGuards k gs s) := by
  induction gs generalizing k s with
  | nil => exact b
  | cons g gs ih =>
    have put : BridgeOk (s.putGuard k g) := b
    exact ih put (k + 1)

theorem BridgeOk.onHead {s : State} (b : BridgeOk s) (r : Request) {f : HeadId → Answer}
    (hf : ∀ x, BridgeOk (f x).state) : BridgeOk (s.onHead r f).state := by
  unfold State.onHead
  split
  · exact hf _
  · exact b

theorem BridgeOk.ofLength {s : State} (b : BridgeOk s) (r : Request) (n : Nat) {a : Answer} (ha : BridgeOk a.state) :
    BridgeOk (s.ofLength r n a).state := by
  unfold State.ofLength
  split
  · exact ha
  · exact b

theorem BridgeOk.writePoint {s : State} (b : BridgeOk s) (x : HeadId) (k : Nat) (p : MapPoint) :
    BridgeOk (Machine.writePoint s x k p).state := by
  unfold Machine.writePoint
  dsimp only
  split
  · exact b.modMap ..
  · exact b.refuseFence ..
  · exact b

theorem BridgeOk.writeHeader {s : State} (b : BridgeOk s) (x : HeadId) (n : Nat) :
    BridgeOk (Machine.writeHeader s x n).state := by
  unfold Machine.writeHeader
  dsimp only
  repeat' split
  case isFalse.isFalse.isFalse.isTrue => exact b.refuseFence ..
  case isFalse.isFalse.isFalse.isFalse => exact b.modMap ..
  all_goals exact b

theorem BridgeOk.writePage {s : State} (b : BridgeOk s) (x : HeadId) (page : Nat) (bs : List Byte) :
    BridgeOk (Machine.writePage s x page bs).state := by
  unfold Machine.writePage
  dsimp only
  split
  · exact b
  · split
    · exact b
    · split
      · exact b.modHead x rfl
      · exact b.modHead x rfl
      · exact b

theorem BridgeOk.writeRecord {s : State} (b : BridgeOk s) (r : Request) : BridgeOk (answerWriteRecord s r).state := by
  unfold answerWriteRecord
  split
  case h_1 => exact b
  case h_2 => exact b.onHead r fun _ => b
  case h_3 =>
    unfold answerWriteMap
    split
    · exact b.onHead r fun x => b.ofLength r 10 (b.writeHeader x _)
    · exact b.onHead r fun x => b.ofLength r 8 (b.writePoint x _ _)
  case h_4 =>
    refine b.ofLength r 16 ?_
    unfold writeGuard
    repeat' split
    all_goals exact b
  case h_5 =>
    refine b.ofLength r 42 ?_
    unfold writeGantry
    repeat' split
    all_goals exact b
  case h_6 =>
    refine b.onHead r fun x => ?_
    split
    · exact b
    · exact b.ofLength r _ (b.writePage x _ _)
  case h_7 =>
    refine b.ofLength r 3 ?_
    unfold writeSlot
    repeat' split
    all_goals exact b

theorem BridgeOk.appendRecord {s : State} (b : BridgeOk s) (x : HeadId) (bs : List Byte) :
    BridgeOk (Machine.appendRecord s x bs).state := by
  unfold Machine.appendRecord
  dsimp only
  split
  · exact b
  · split
    · exact b
    · split
      · exact b.modSeq x rfl rfl
      · exact b

theorem BridgeOk.cancel {s : State} (b : BridgeOk s) (x : HeadId) : BridgeOk (s.cancel x) := by
  unfold State.cancel
  split
  · exact b.modSeq x rfl rfl
  · exact b.modSeq x rfl rfl

theorem BridgeOk.completeStream {s : State} (b : BridgeOk s) (c : Stream) (records : List (List Byte)) :
    BridgeOk (Machine.completeStream s c records).state := by
  have closed : BridgeOk s.closeStream := b
  unfold Machine.completeStream
  dsimp only
  split
  · exact closed
  · split
    · unfold applySegments
      dsimp only
      split
      · exact closed
      · split
        · exact closed.modSeq _ rfl rfl
        · exact closed
    · unfold applyPoints
      dsimp only
      split
      · exact closed.modMap ..
      · split
        · exact closed.refuseFence ..
        · exact closed
    · unfold applyGuards
      split
      · exact closed
      · split
        · exact closed.putGuards ..
        · exact closed

theorem BridgeOk.streamData {s : State} (b : BridgeOk s) (r : Request) : BridgeOk (answerStreamData s r).state := by
  unfold answerStreamData
  dsimp only
  split
  · exact b
  · split
    · exact b
    · split
      · exact b.completeStream ..
      · exact b

/-! ## Passes -/

/-- PASS START leaves each head WAITING or IDLE, in which no head stands (R4, R13). -/
theorem BridgeOk.startPass {s : State} (b : BridgeOk s) {o : PassOrder}
    (starts : ∀ h, o.heads.has h = true → s.startsWithStart h = true) : BridgeOk (s.startPass o) := by
  have frame := s.startPass_frame o
  refine b.moved (.inl (by rw [frame])) (by rw [frame]) fun h => .ofFree ?_
  rw [State.startPass_head]
  cases named : o.heads.has h with
  | true =>
    obtain ⟨st, rpm, force, depth, rest, queue⟩ := (s.startsWithStart_iff h).1 (starts h named)
    rw [State.headsStarted_named named queue]
    rfl
  | false =>
    rw [State.headsStarted_unnamed named]
    rfl

theorem BridgeOk.passStart {s : State} (b : BridgeOk s) (r : Request) : BridgeOk (answerPassStart s r).state := by
  unfold answerPassStart
  repeat' split
  case h_2 none =>
    refine b.startPass fun h named => ?_
    simpa using List.find?_eq_none.1 none h ((HeadSet.mem_members _ _).2 named)
  all_goals exact b

/-- Every request keeps the bridge at rest. -/
theorem BridgeOk.answer {s : State} (heads : HeadsOk s) (b : BridgeOk s) (k : RequestKind) (r : Request) :
    BridgeOk (k.answer s r).state := by
  cases k <;> simp only [RequestKind.answer]
  case readRecord => exact (answerReadRecord_state s r).symm ▸ b
  case writeRecord => exact b.writeRecord r
  case appendSegment => exact b.onHead r fun x => b.appendRecord x _
  case cancelPending => exact b.onHead r fun x => b.cancel x
  case streamData => exact b.streamData r
  case passStart => exact b.passStart r
  case passHold =>
    unfold answerPassHold
    repeat' split
    case isFalse.isFalse => exact (s.holdOrder_steady _).bridge heads.agree b
    all_goals exact b
  case passAbort =>
    unfold answerPassAbort
    repeat' split
    case isFalse.isFalse => exact s.abortPass_steady.bridge heads.agree b
    all_goals exact b
  case takeEvent => exact b
  all_goals
    dsimp only [answerReadStatus, answerStreamOpen, answerStreamCancel, answerPassResume, answerEnterReady,
      answerEnterConfig, answerSetEventMask, answerClearFault, answerResetNode]
    repeat' split
    all_goals exact b

/-- A request is answered or refused on the state it meets, and the reply area is filled behind it. -/
theorem BridgeOk.answerRequest {s : State} (heads : HeadsOk s) (b : BridgeOk s) (k : RequestKind) (r : Request) :
    BridgeOk (s.answerRequest k r).state := by
  have answered : BridgeOk (s.checkedAnswer k r).state := by
    unfold State.checkedAnswer
    split
    · exact b.answer heads k r
    · exact b
  unfold State.checkedAnswer at answered
  unfold State.answerRequest
  dsimp only
  split
  · exact answered
  · exact answered

theorem BridgeOk.request {s : State} (heads : HeadsOk s) (b : BridgeOk s) (k : RequestKind) (r : Request) :
    BridgeOk (s.request k r) := by
  unfold State.request
  split
  · exact b.answerRequest heads k r
  · exact b

theorem BridgeOk.carryFrame {s : State} (heads : HeadsOk s) (b : BridgeOk s) (f : Frame) :
    BridgeOk (s.carryFrame f) := by
  change BridgeOk (s.serveArea f.payload)
  unfold State.serveArea
  dsimp only
  split
  · unfold State.serveCode
    split
    · exact b.answerRequest heads ..
    · exact b
  · exact b

/-! ## Resets, frames and sets -/

theorem BridgeOk.afterReset (s : State) (straps : BitVec 6) (p : Power) : BridgeOk (s.afterReset straps p) :=
  .ofIdle (fun h => by cases h <;> rfl) rfl

theorem BridgeOk.powerOn (straps : BitVec 6) : BridgeOk (State.powerOn straps) :=
  .ofIdle (fun h => by cases h <;> rfl) rfl

theorem BridgeOk.countIdle {s : State} (b : BridgeOk s) : BridgeOk s.countIdle := by
  obtain ⟨frame, -⟩ := s.countIdle_frame
  rw [frame]
  exact b

theorem BridgeOk.expireStream {s : State} (b : BridgeOk s) : BridgeOk s.expireStream := by
  have closed : BridgeOk s.closeStream := b
  unfold State.expireStream
  split
  · exact closed.raise ..
  · exact b

/-- Every block works a set on the bridge at rest. -/
theorem BridgeOk.sampleSet {s : State} (heads : HeadsOk s) (b : BridgeOk s) : BridgeOk s.sampleSet :=
  BridgeOk.workSet (heads.beginPlanner true) (b.beginPlanner true) true false

theorem BridgeOk.acceptFrame {s : State} (heads : HeadsOk s) (b : BridgeOk s) (payload : List Byte) (now : Nat)
    (pins : Pins) : BridgeOk (s.acceptFrame payload now pins) := by
  let sampled : State := { s.countAccepted now pins with
    ring := (s.countAccepted now pins).ring.takeSamples (captureInputs s.inForce payload) }
  have headsSampled : HeadsOk sampled := heads
  have bridgeSampled : BridgeOk sampled := b
  unfold State.acceptFrame
  dsimp only
  refine BridgeOk.sampleSet (HeadsOk.countIdle ?_) (BridgeOk.countIdle ?_)
  · split
    · exact headsSampled.raise ..
    · exact headsSampled
  · split
    · exact bridgeSampled.raise ..
    · exact bridgeSampled

theorem BridgeOk.testFrame {s : State} (heads : HeadsOk s) (b : BridgeOk s) (f : PassingFrame) (now : Nat)
    (pins : Pins) : BridgeOk (s.testFrame f now pins) := by
  unfold State.testFrame
  split
  · exact b
  · split
    · exact b
    · split
      · have early : BridgeOk ({ s with ring := { s.ring with early := countUp 65535 s.ring.early } } : State) := b
        exact early.raise ..
      · exact b.acceptFrame heads ..

theorem BridgeOk.completeFrame {s : State} (heads : HeadsOk s) (b : BridgeOk s) (now : Nat) (pins : Pins) :
    BridgeOk (s.completeFrame now pins) := by
  unfold State.completeFrame
  split
  · exact .afterReset ..
  · split
    next f _ =>
      have taken : HeadsOk ({ s with port := { s.port with passing := none } } : State) := heads
      exact BridgeOk.testFrame taken b ..
    next => exact b

theorem BridgeOk.countLossHold {s : State} (b : BridgeOk s) : BridgeOk s.countLossHold.1 := by
  unfold State.countLossHold
  split <;> exact b

theorem BridgeOk.loseRing {s : State} (heads : HeadsOk s) (b : BridgeOk s) : BridgeOk s.loseRing.1 := by
  unfold State.loseRing
  split
  · split
    · exact b
    · exact (s.holdOrder_steady _).bridge heads.agree b
  · exact b

theorem BridgeOk.markLost {s : State} (b : BridgeOk s) : BridgeOk s.markLost := by
  have lost : BridgeOk ({ s with ring := { s.ring with state := .lost } } : State) := b
  exact lost.raise ..

theorem BridgeOk.coastSet {s : State} (heads : HeadsOk s) (b : BridgeOk s) (lost : Bool) :
    BridgeOk (s.coastSet lost) := by
  have heads := (heads.beginPlanner false).countLossHold
  have bridge := (b.beginPlanner false).countLossHold
  unfold State.coastSet
  cases lost with
  | false => exact bridge.workSet heads ..
  | true => exact (bridge.loseRing heads).workSet heads.loseRing ..

theorem BridgeOk.expireWindow {s : State} (heads : HeadsOk s) (b : BridgeOk s) (stop : Bool) :
    BridgeOk (s.expireWindow stop) := by
  unfold State.expireWindow
  split
  next due t _ _ =>
    have headsMissed : HeadsOk (s.countMiss due t.tc stop) := heads
    have bridgeMissed : BridgeOk (s.countMiss due t.tc stop) := b
    refine BridgeOk.coastSet (HeadsOk.countIdle ?_) (BridgeOk.countIdle ?_) _
    · split
      · exact headsMissed.markLost
      · exact headsMissed
    · split
      · exact bridgeMissed.markLost
      · exact bridgeMissed
  next => exact b

theorem BridgeOk.takeCause {s : State} (heads : HeadsOk s) (b : BridgeOk s) (c : Cause) :
    BridgeOk (s.takeCause c).testPassEnd :=
  ((s.takeCause_steady c).trans (State.testPassEnd_steady _)).bridge heads.agree b

theorem BridgeOk.ringLoss {s : State} (heads : HeadsOk s) (b : BridgeOk s) : BridgeOk s.ringLoss := by
  unfold State.ringLoss
  split
  · have bridge := b.markLost.loseRing heads.markLost
    dsimp only
    split
    · exact bridge.takeCause heads.markLost.loseRing _
    · exact bridge
  · exact b

/-- A filtered MARK edge leaves the command and the heads (R53 to R55). -/
theorem BridgeOk.markEdge {s : State} (b : BridgeOk s) : BridgeOk s.markEdge := by
  by_cases due : s.markEdgeDue = true
  · rw [State.markEdge_of_due due]
    have filled : BridgeOk ({ s with planner := s.edgePlanner, pass := s.edgePass } : State) := b
    exact filled.raise ..
  · rwa [State.markEdge_of_not due]

/-! ## Every command and every step -/

theorem BridgeOk.ifRunning {s t : State} (b : BridgeOk s) (worked : BridgeOk t) : BridgeOk (s.ifRunning t) := by
  unfold State.ifRunning
  split
  · exact worked
  · exact b

theorem BridgeOk.takeIf {s : State} (heads : HeadsOk s) (b : BridgeOk s) (due : Bool) (c : Cause) :
    BridgeOk (s.takeIf due c) := by
  unfold State.takeIf
  split
  · exact b.takeCause heads c
  · exact b

theorem BridgeOk.exec {c : Instr} {s t : State} (heads : HeadsOk s) (b : BridgeOk s)
    (e : Machine.exec c s = .next t) : BridgeOk t := by
  cases hc : asked c with
  | some kr =>
    rw [exec_asked hc] at e
    cases e
    exact b.request heads _ _
  | none =>
    have blocks {u : State} (steady : Steady s u) : BridgeOk u := steady.bridge heads.agree b
    cases c <;> simp only [asked, reduceCtorEq] at hc <;> obtain rfl := Host.Outcome.next.inj e
    case powerOn straps => exact BridgeOk.powerOn straps
    case supplyLoss => exact b
    case resetLine => split <;> exact b
    case resetNegated =>
      split
      · exact .afterReset ..
      · exact b
    case startTime => split <;> exact b
    case cycleFrame =>
      split
      · exact b.carryFrame heads _
      · exact b
    case unknownRequest =>
      unfold State.requestUnknown
      split <;> exact b
    all_goals refine b.ifRunning ?_
    case frameCompletion => exact b.completeFrame heads ..
    case cycleWindowExpiry => exact b.expireWindow heads _
    case ringLost => exact b.ringLoss heads
    case streamExpired => exact b.expireStream
    case holdWindowReached =>
      unfold State.holdWindowReached
      split
      · exact b.takeCause heads _
      · exact b
    case filteredMarkEdge => exact b.markEdge
    case arrival => exact blocks s.arrival_steady
    case spinupStart => exact blocks (s.startSpinup_steady _)
    case atSpeed => exact blocks (s.atSpeed_steady _)
    case contact => exact blocks (s.takeContact_steady _)
    case seatComplete => exact blocks (s.seatComplete_steady _)
    case dwellEnd => exact blocks (s.dwellEnd_steady _)
    case repetitionEnd => exact blocks (s.repetitionEnd_steady _)
    case traverseCompletesAtRest => exact blocks (s.completeAtRest_steady _)
    case starvationEnd => exact blocks (s.starvationEnd_steady _)
    case appendedStartTaken => exact blocks (s.takeAppendedStart_steady _)
    case brakeEnd => exact blocks (s.brakeEnd_steady _)
    case runoutEnd => exact blocks (s.runoutEnd_steady _)
    case retractEnd => exact blocks (s.retractEnd_steady _)
    case spindownEnd => exact blocks (s.spindownEnd_steady _)
    case spinstop => exact blocks (s.enterSpinstop_steady _)
    case withdrawalEnd => exact blocks (s.withdrawalEnd_steady _)
    case passEnd => exact blocks s.testPassEnd_steady
    all_goals exact b.takeIf heads _ _

theorem BridgeOk.step {s t : State} (heads : HeadsOk s) (b : BridgeOk s) (e : Machine.step s = .next t) :
    BridgeOk t := by
  unfold Machine.step at e
  split at e
  · cases e
    exact b
  next c rest _ =>
    have front : HeadsOk (s.afterFront rest) := heads
    exact BridgeOk.exec front b e

end Sys2Proof.Safety

namespace Sys2Proof.SharedTraverse

open Sys2Proof.Safety

/-- Settles O11: between the planner's start and its end the blocks let a head stand only where the bridge rests
(`Steady`), the planner's end forms a command of 0 while a head stands (`State.nextCommand_of_standing`), and every
command is made of these and of requests, which move no head that works. -/
theorem stepKeepsTheBridgeAtRest : Obligations.StepKeepsTheBridgeAtRest :=
  fun _ _ heads bridge e => bridge.step heads e

end Sys2Proof.SharedTraverse
end

section
/-! SUPPORT. Where the planner's start puts the bridge and the heads, and that nothing behind it in a set moves them
(O59). -/

namespace Sys2Proof.Machine

open Sys2Proof.Safety

/-! ## The samples of a set -/

/-- Commanded X is reseeded at the start of a set (R68). -/
def State.Seeds (s : State) (accepted : Bool) : Prop :=
  s.active = false ∨ accepted = true ∧ s.planner.xMode = .quickstop

/-- Commanded X with the travel of the latest output set's command (R67). -/
def State.risenX (s : State) : Int :=
  s.planner.commandedX + Int.tdiv (s.ring.output.xSpeed * s.gantry.tc) 1000

theorem State.plannerFollowed_seeded {s : State} {accepted : Bool} (h : s.Seeds accepted) :
    (s.plannerFollowed accepted).commandedX = (s.plannerFollowed accepted).measuredX * 1000 ∧
      (s.plannerFollowed accepted).lag = 0 := by
  have h : s.active = false ∨ accepted = true ∧ s.planner.xMode = .quickstop := h
  simp only [State.plannerFollowed, if_pos h, and_self]

theorem State.plannerFollowed_unseeded {s : State} {accepted : Bool} (h : ¬ s.Seeds accepted) :
    (s.plannerFollowed accepted).commandedX = s.risenX ∧ (s.plannerFollowed accepted).lag =
      if accepted = true then Int.tdiv s.risenX 1000 - (s.plannerFollowed accepted).measuredX else s.planner.lag := by
  have h : ¬ (s.active = false ∨ accepted = true ∧ s.planner.xMode = .quickstop) := h
  simp only [State.plannerFollowed, if_neg h]
  cases accepted <;> exact ⟨rfl, rfl⟩

/-- On an accepted set measured X and skew are those of the samples handed over (R49). -/
theorem State.plannerFollowed_accepted (s : State) : s.plannerFollowed true = { s.planner with
    xLeft := s.ring.handed.getD 14 0
    xRight := s.ring.handed.getD 15 0
    skew := s.ring.handed.getD 14 0 - s.ring.handed.getD 15 0
    measuredX := Int.tdiv (s.ring.handed.getD 14 0 + s.ring.handed.getD 15 0) 2
    commandedX := (s.plannerFollowed true).commandedX
    lag := (s.plannerFollowed true).lag } := by
  unfold State.plannerFollowed
  dsimp only
  split <;> rfl

/-- On a coast set measured X is extrapolated (R50). -/
theorem State.plannerFollowed_coast (s : State) : s.plannerFollowed false = { s.planner with
    measuredX := s.planner.measuredX + Int.tdiv (s.ring.output.xSpeed * s.gantry.tc) 1000000
    commandedX := (s.plannerFollowed false).commandedX
    lag := (s.plannerFollowed false).lag } := by
  unfold State.plannerFollowed
  dsimp only
  split <;> rfl

/-! ## The MARK line at the start of an accepted set -/

section
variable {s : State}

theorem State.markedStart_accepted (s : State) :
    s.markedStart true = ({ s with planner := s.plannerFollowed true } : State).sampleMark := by
  rw [← State.measuredStart_eq]
  rfl

theorem State.markedStart_coast (s : State) : s.markedStart false = { s with planner := s.plannerFollowed false } :=
  s.measuredStart_eq false

/-- What an edge leaves of the planner and of the pass record (R53 to R55). -/
theorem State.sampleMark_filled (hm : s.lines.mark = true) (due : s.markEdgeDue = true) :
    s.sampleMark.planner = s.edgePlanner ∧ s.sampleMark.pass = s.edgePass := by
  rw [State.sampleMark_edge hm due, State.markEdge_of_due due, State.raise_eq]
  exact ⟨rfl, rfl⟩

/-- Without an edge the MARK line moves the counter alone (R53). -/
theorem State.sampleMark_unfilled (none : s.lines.mark = true → ¬ s.markEdgeDue = true) :
    (s.lines.mark = true → s.sampleMark.planner.markHeld = s.planner.markHeld) ∧ s.sampleMark.pass = s.pass ∧
      s.sampleMark.planner.latch = s.planner.latch ∧ s.sampleMark.planner.latchCount = s.planner.latchCount ∧
      s.sampleMark.events = s.events := by
  cases hm : s.lines.mark with
  | false =>
    rw [State.sampleMark_negated hm]
    exact ⟨(nomatch ·), rfl, rfl, rfl, rfl⟩
  | true =>
    cases hh : s.planner.markHeld with
    | true =>
      rw [State.sampleMark_held hm hh]
      exact ⟨fun _ => hh, rfl, rfl, rfl, rfl⟩
    | false =>
      rw [State.sampleMark_counts hm hh (none hm)]
      exact ⟨fun _ => hh, rfl, rfl, rfl, rfl⟩

/-- Below the filter value the counter counts each set of the line, the set of the edge included (R53). -/
theorem State.sampleMark_below (hm : s.lines.mark = true) (hh : s.planner.markHeld = false)
    (below : s.planner.markCount < s.gantry.markFilter) :
    s.sampleMark.planner.markCount = s.planner.markCount + 1 := by
  by_cases due : s.markEdgeDue = true
  · rw [(State.sampleMark_filled hm due).1]
    exact (s.markEdgeDue_iff.1 due).2.symm
  · rw [State.sampleMark_counts hm hh due]
    exact min_eq_left below

/-- A counter at the filter value or above it is put there, and gives no edge (R53). -/
theorem State.sampleMark_above (hm : s.lines.mark = true) (hh : s.planner.markHeld = false)
    (above : s.gantry.markFilter ≤ s.planner.markCount) :
    s.sampleMark.planner.markCount = s.gantry.markFilter ∧ s.sampleMark.planner.markHeld = false := by
  have none : ¬ s.markEdgeDue = true := fun due => by
    have := (s.markEdgeDue_iff.1 due).2
    omega
  rw [State.sampleMark_counts hm hh none]
  exact ⟨min_eq_right (by omega), hh⟩

end

/-! ## The place of the bridge and of the heads -/

/-- What a set forms at its start and leaves behind it: measured X, the skew, X0 and the stations (R49 to R51). -/
structure SamePlace (s t : State) : Prop where
  measuredX : t.planner.measuredX = s.planner.measuredX
  skew      : t.planner.skew = s.planner.skew
  x0        : t.pass.x0 = s.pass.x0
  station   : ∀ h, (t.head h).seq.station = (s.head h).seq.station

theorem Steady.place {s t : State} (a : Steady s t) : SamePlace s t :=
  ⟨a.measuredX, a.skew, a.x0, a.station⟩

theorem SamePlace.trans {s t u : State} (a : SamePlace s t) (b : SamePlace t u) : SamePlace s u :=
  ⟨b.measuredX.trans a.measuredX, b.skew.trans a.skew, b.x0.trans a.x0,
    fun h => (b.station h).trans (a.station h)⟩

/-- The planner's end forms a command and moves nothing (R56). -/
theorem State.endSet_place (s : State) : SamePlace s s.endPlanner.disarmGuards.formOutputs :=
  have ⟨x0, measuredX, skew, _⟩ := s.endPlanner_place
  ⟨measuredX, skew, x0, fun h => congrArg Sequencer.station (s.endPlanner_restKey h).2⟩

theorem State.workSet_place (s : State) (accepted loss : Bool) : SamePlace s (s.workSet accepted loss) :=
  s.workSet_eq accepted loss ▸ (s.fencedSet_steady accepted loss).place.trans (State.endSet_place _)

/-- The loss of the ring and its counter leave the place (R10, R164, R165). -/
theorem State.coastSet_place (s : State) (lost : Bool) : SamePlace (s.beginPlanner false) (s.coastSet lost) := by
  rw [State.coastSet_eq, State.countLossHold_fst, State.lossEffects_fst]
  have counted (u : State) (n : Nat) : SamePlace u { u with pass := { u.pass with lossHold := n } } :=
    ⟨rfl, rfl, rfl, fun _ => rfl⟩
  have held (u : State) : SamePlace u (u.lossHeld lost) := by
    unfold State.lossHeld
    split
    · exact (u.holdOrder_steady _).place
    · exact (Steady.refl u).place
  exact ((counted _ _).trans (held _)).trans (State.workSet_place ..)

/-- The planner's start leaves the records that the MARK line leaves (R53 to R55). -/
theorem State.beginPlanner_marked (s : State) (accepted : Bool) :
    (s.beginPlanner accepted).planner = (s.markedStart accepted).planner ∧
    (s.beginPlanner accepted).pass = (s.markedStart accepted).pass ∧
    (s.beginPlanner accepted).events = (s.markedStart accepted).events := by
  rw [State.beginPlanner_frame]
  exact ⟨rfl, rfl, rfl⟩

/-- The stations that the planner's start forms (R51). -/
theorem State.beginPlanner_station (s : State) (accepted : Bool) (h : HeadId) :
    ((s.beginPlanner accepted).head h).seq.station = max (-2147483648) (min 2147483647
      ((s.beginPlanner accepted).planner.measuredX - (s.beginPlanner accepted).pass.x0 +
        (s.head h).profile.trim.xOffset)) := by
  have marked : (s.markedStart accepted).head h = s.head h := by
    rw [State.markedStart_frame]
    cases h <;> rfl
  obtain ⟨planner, pass, -⟩ := s.beginPlanner_marked accepted
  rw [planner, pass, State.beginPlanner_head, ← marked]
  exact limit_eq_max_min (by decide) _

/-- What a set leaves of its start (R49 to R51). -/
theorem SamePlace.began {s t : State} {accepted : Bool} (p : SamePlace (s.beginPlanner accepted) t) :
    t.planner.measuredX = (s.plannerFollowed accepted).measuredX ∧
    t.planner.skew = (s.plannerFollowed accepted).skew ∧
    ∀ h, (t.head h).seq.station = max (-2147483648)
      (min 2147483647 (t.planner.measuredX - t.pass.x0 + (s.head h).profile.trim.xOffset)) := by
  have formed : (s.beginPlanner accepted).planner.measuredX = (s.plannerFollowed accepted).measuredX ∧
      (s.beginPlanner accepted).planner.skew = (s.plannerFollowed accepted).skew := by
    rw [State.beginPlanner_frame, State.markedStart_frame]
    exact ⟨rfl, rfl⟩
  refine ⟨p.measuredX.trans formed.1, p.skew.trans formed.2, fun h => ?_⟩
  rw [p.station, State.beginPlanner_station, p.measuredX, p.x0]

/-- An expiry of the window is a coast set on a state whose bridge has not moved (R161). -/
theorem State.expireWindow_coasts {s : State} {due : Nat} {time : FrameTiming} (hw : s.ring.window = some due)
    (ht : s.ring.timing = some time) (stop : Bool) : ∃ (v : State) (lost : Bool),
      s.expireWindow stop = v.coastSet lost ∧ v.planner = s.planner ∧ v.ring.output = s.ring.output ∧
      v.gantry = s.gantry ∧ ∀ h, (v.head h).profile = (s.head h).profile := by
  let missed := s.countMiss due time.tc stop
  let told := if missed.lossDue = true then missed.markLost else missed
  have stood : told.planner = s.planner ∧ told.ring.output = s.ring.output ∧ told.gantry = s.gantry ∧
      ∀ h, (told.head h).profile = (s.head h).profile := by
    simp only [told]
    split
    · rw [State.markLost_eq, State.raise_eq]
      exact ⟨rfl, rfl, rfl, fun h => by cases h <;> rfl⟩
    · exact ⟨rfl, rfl, rfl, fun h => by cases h <;> rfl⟩
  refine ⟨told.countIdle, missed.lossDue, by rw [State.expireWindow, hw, ht], ?_⟩
  rw [told.countIdle_frame.1]
  exact stood

end Sys2Proof.Machine

namespace Sys2Proof.SharedTraverse

open Sys2Proof.Machine Sys2Proof.Safety

/-- The start of an accepted set (R49, R53 to R55, R67, R68). -/
theorem acceptedStart (s : State) :
    let p := s.planner
    let t := s.beginPlanner true
    let left := s.ring.handed.getD 14 0
    let right := s.ring.handed.getD 15 0
    let edge := s.lines.mark = true ∧ p.markHeld = false ∧ p.markCount + 1 = s.gantry.markFilter
    t.planner.xLeft = left ∧ t.planner.xRight = right ∧ t.planner.skew = left - right ∧
    t.planner.measuredX = Int.tdiv (left + right) 2 ∧
    (¬ s.Seeds true → t.planner.lag = Int.tdiv s.risenX 1000 - t.planner.measuredX) ∧
    (s.lines.mark = false → t.planner.markCount = 0 ∧ t.planner.markHeld = false) ∧
    (s.lines.mark = true → p.markHeld = true → t.planner.markCount = p.markCount ∧ t.planner.markHeld = true) ∧
    (s.lines.mark = true → p.markHeld = false → p.markCount < s.gantry.markFilter →
      t.planner.markCount = p.markCount + 1) ∧
    (s.lines.mark = true → p.markHeld = false → s.gantry.markFilter ≤ p.markCount →
      t.planner.markCount = s.gantry.markFilter ∧ t.planner.markHeld = false) ∧
    (edge → t.planner.markHeld = true ∧ t.planner.latch = some ⟨t.planner.measuredX, if t.pass.datumValid = true then
        some (t.planner.measuredX - t.pass.x0) else none, s.ring.setNumber⟩) ∧
    (¬ edge → (s.lines.mark = true → t.planner.markHeld = p.markHeld) ∧
      t.pass = s.pass ∧ t.planner.latch = p.latch ∧ t.planner.latchCount = p.latchCount ∧ t.events = s.events) := by
  intro p t left right edge
  obtain ⟨planner, pass, events⟩ := s.beginPlanner_marked true
  let u : State := { s with planner := s.plannerFollowed true }
  rw [s.markedStart_accepted] at planner pass events
  have followed := s.plannerFollowed_accepted
  have held : u.planner.markHeld = p.markHeld :=
    (congrArg Planner.markHeld followed :)
  have count : u.planner.markCount = p.markCount :=
    (congrArg Planner.markCount followed :)
  have latch : u.planner.latch = p.latch ∧ u.planner.latchCount = p.latchCount :=
    ⟨(congrArg Planner.latch followed :), (congrArg Planner.latchCount followed :)⟩
  have due : u.markEdgeDue = true ↔ p.markHeld = false ∧ p.markCount + 1 = s.gantry.markFilter := by
    rw [u.markEdgeDue_iff, held, count]
  have samples : t.planner.xLeft = left ∧ t.planner.xRight = right ∧ t.planner.skew = left - right ∧
      t.planner.measuredX = Int.tdiv (left + right) 2 ∧ t.planner.lag = (s.plannerFollowed true).lag := by
    rw [planner, State.sampleMark_frame]
    exact ⟨congrArg Planner.xLeft followed, congrArg Planner.xRight followed, congrArg Planner.skew followed,
      congrArg Planner.measuredX followed, rfl⟩
  obtain ⟨xLeft, xRight, skew, measuredX, lag⟩ := samples
  have measured : (s.plannerFollowed true).measuredX = t.planner.measuredX := by rw [measuredX, followed]
  refine ⟨xLeft, xRight, skew, measuredX, fun h => ?_, fun hm => ?_, fun hm hh => ?_, fun hm hh below => ?_,
    fun hm hh above => ?_, fun ⟨hm, filtered⟩ => ?_, fun none => ?_⟩
  · rw [lag, (State.plannerFollowed_unseeded h).2, if_pos rfl, measured]
  · rw [planner, State.sampleMark_negated (s := u) hm]
    exact ⟨rfl, rfl⟩
  · rw [planner, State.sampleMark_held (s := u) hm (held.trans hh)]
    exact ⟨count, held.trans hh⟩
  · rw [planner, State.sampleMark_below (s := u) hm (held.trans hh) (count.trans_lt below), count]
  · rw [planner]
    exact State.sampleMark_above (s := u) hm (held.trans hh) (above.trans_eq count.symm)
  · obtain ⟨edgePlanner, edgePass⟩ := State.sampleMark_filled (s := u) hm (due.2 filtered)
    rw [planner, pass, edgePlanner, edgePass]
    exact ⟨rfl, rfl⟩
  · obtain ⟨held', pass', latch', latchCount', events'⟩ :=
      State.sampleMark_unfilled (s := u) fun hm filtered => none ⟨hm, due.1 filtered⟩
    rw [planner, pass, events]
    exact ⟨fun hm => (held' hm).trans held, pass', latch'.trans latch.1, latchCount'.trans latch.2, events'⟩

/-- Settles O59: the samples and the MARK line form the planner (`State.markedStart`), the stations follow, and the blocks
(`Steady`), the planner's end and the output set leave the place that they form (`SamePlace`). -/
theorem setsBeginWithMeasuredX : Obligations.SetsBeginWithMeasuredX := by
  refine ⟨fun s accepted => ?_, fun s t accepted loss e => ?_, fun s hp => ⟨?_, ?_⟩⟩
  · intro p travel t reseeds risen edge
    obtain ⟨planner, pass, events⟩ := s.beginPlanner_marked accepted
    have followed : t.planner.commandedX = (s.plannerFollowed accepted).commandedX ∧
        t.planner.lag = (s.plannerFollowed accepted).lag ∧
        t.planner.measuredX = (s.plannerFollowed accepted).measuredX := by
      rw [planner, State.markedStart_frame]
      exact ⟨rfl, rfl, rfl⟩
    obtain ⟨commandedX, lag, measuredX⟩ := followed
    refine ⟨?_, ?_, fun h => ?_, fun h => ?_, fun h => ?_, ?_⟩
    · rintro rfl
      exact acceptedStart s
    · rintro rfl
      rw [planner, pass, events, s.markedStart_coast]
      exact ⟨s.plannerFollowed_coast, fun h => (State.plannerFollowed_unseeded h).2, rfl, rfl⟩
    · exact commandedX.trans (State.plannerFollowed_unseeded h).1
    · rw [commandedX, lag, measuredX]
      exact State.plannerFollowed_seeded h
    · rw [← s.beginPlanner_station accepted h]
      rw [State.beginPlanner_head]
    · simp only [t, planner, pass, events]
      exact s.beginPlanner_frame accepted
  · subst e
    obtain ⟨measuredX, skew, x0, station⟩ := s.workSet_place accepted loss
    exact ⟨measuredX, skew, x0, (s.workSet_sound accepted loss).lossHold, station⟩
  · intro now pins f hd hpass hg hc he
    obtain ⟨t, runs, works, -, -, -, -, -, -, -, -, -, -, -, -, -, -, -, -, kept, -⟩ :=
      WeldPass.acceptedFrameNumbersTheSet now pins f s hp hd hpass hg hc he
    generalize State.countIdle _ = v at works
    have worked : Worked v t := by
      rw [works]
      exact (v.beginPlanner_worked true).trans (State.workSet_worked ..)
    have profile (h : HeadId) : (v.head h).profile = (s.head h).profile :=
      (worked.profile h).symm.trans (kept h).1
    have place : SamePlace (v.beginPlanner true) t := by
      rw [works]
      exact State.workSet_place ..
    obtain ⟨measuredX, skew, stations⟩ := place.began
    rw [v.plannerFollowed_accepted] at measuredX skew
    refine ⟨t, runs, ?_, ?_, fun h => ?_⟩
    · rw [worked.ring]
      exact measuredX
    · rw [worked.ring]
      exact skew
    · rw [stations, profile]
  · intro stop due time hw ht
    obtain ⟨v, lost, runs, planner, output, gantry, profile⟩ := State.expireWindow_coasts hw ht stop
    obtain ⟨measuredX, skew, stations⟩ := (v.coastSet_place lost).began
    rw [v.plannerFollowed_coast, planner, output, gantry] at measuredX
    rw [v.plannerFollowed_coast, planner] at skew
    refine ⟨s.expireWindow stop, exec_cycleWindowExpiry hp stop, ?_⟩
    rw [runs]
    exact ⟨skew, measuredX, fun h => (stations h).trans (by rw [profile])⟩

end Sys2Proof.SharedTraverse
end

section
/-! SUPPORT. The arithmetic of the planner's end: the ramp, the integer square root and the least of a list (R60, R62,
R64). -/

namespace Sys2Proof.Machine

open Sys2Proof.Safety

/-! ## Magnitudes and limits -/

theorem mag_nonneg (x : Int) : 0 ≤ mag x := by
  unfold mag
  split <;> omega

theorem mag_le_iff {x m : Int} : mag x ≤ m ↔ -m ≤ x ∧ x ≤ m := by
  unfold mag
  split <;> omega

/-! ## The ramp -/

section
variable {acc dec prev target : Int}

/-- A command that is not negative, toward a target that is not (R64). -/
theorem ramp_forward (ha : 0 < acc) (hd : 0 < dec) (hp : 0 ≤ prev) (ht : 0 ≤ target) :
    ramp acc dec prev target = prev + max (-dec) (min acc (target - prev)) := by
  unfold ramp
  split
  · omega
  · rw [if_pos ⟨hp, ht⟩, limit_eq_max_min (by omega)]

/-- A command that is not positive, toward a target that is not (R64). -/
theorem ramp_backward (ha : 0 < acc) (hd : 0 < dec) (hp : prev < 0) (ht : target ≤ 0) :
    ramp acc dec prev target = prev + max (-acc) (min dec (target - prev)) := by
  unfold ramp
  split
  · omega
  · rw [if_neg (by omega), if_pos ⟨hp.le, ht⟩, limit_eq_max_min (by omega)]

/-- A reversal of the command ends at 0 first (R64). -/
theorem ramp_falls_to_zero (hp : 0 < prev) (ht : target < 0) : ramp acc dec prev target = max (prev - dec) 0 := by
  unfold ramp
  rw [if_neg (by omega), if_neg (by omega), if_neg (by omega), if_pos hp]

theorem ramp_rises_to_zero (hp : prev < 0) (ht : 0 < target) : ramp acc dec prev target = min (prev + dec) 0 := by
  unfold ramp
  rw [if_neg (by omega), if_neg (by omega), if_neg (by omega), if_neg (by omega)]

/-- From rest the command moves backward by at most an acceleration step (R64). -/
theorem ramp_from_rest (ha : 0 < acc) (hd : 0 < dec) (ht : target < 0) :
    ramp acc dec 0 target = max (-acc) target := by
  unfold ramp
  rw [if_neg (by omega), if_neg (by omega), if_pos ⟨le_rfl, ht.le⟩, limit_eq_max_min (by omega)]
  omega

/-- The laws of the ramp (R64): a step at most, toward the target, and never through 0. -/
theorem ramp_laws (ha : 0 < acc) (hd : 0 < dec) :
    let v := ramp acc dec prev target
    mag (v - prev) ≤ max acc dec ∧ min prev target ≤ v ∧ v ≤ max prev target ∧
    (0 < prev → 0 ≤ v) ∧ (prev < 0 → v ≤ 0) ∧ (v = prev → prev = target) ∧
    (0 ≤ target → target < prev → prev - v ≤ dec) ∧ (0 ≤ prev → prev < target → v - prev ≤ acc) ∧
    (0 ≤ prev → 0 ≤ target → v = prev + max (-dec) (min acc (target - prev))) := by
  intro v
  rw [mag_le_iff]
  rcases lt_trichotomy prev 0 with hp | rfl | hp
  · rcases le_or_gt target 0 with ht | ht
    · have := ramp_backward ha hd hp ht
      omega
    · have := ramp_rises_to_zero (acc := acc) (dec := dec) hp ht
      omega
  · rcases le_or_gt 0 target with ht | ht
    · have := ramp_forward ha hd le_rfl ht
      omega
    · have := ramp_from_rest ha hd ht
      omega
  · rcases le_or_gt 0 target with ht | ht
    · have := ramp_forward ha hd hp.le ht
      omega
    · have := ramp_falls_to_zero (acc := acc) (dec := dec) hp ht
      omega

end

/-- The step of the ramp at a positive rate (R64). -/
theorem rampStep_eq {rate : Int} (h : 0 < rate) (tc : Nat) :
    rampStep rate tc = max 1 (Int.tdiv (rate * tc) 1000000) := by
  have nonneg : 0 ≤ Int.tdiv (rate * tc) 1000000 :=
    Int.tdiv_nonneg (mul_nonneg h.le (Int.natCast_nonneg tc)) (by decide)
  unfold rampStep divZero
  dsimp only
  split <;> omega

/-! ## The square root -/

/-- The bits tried below `k` keep the root between the root so far and the next one (R62). -/
theorem isqrtFrom_spec (k n r : Nat) (lower : r * r ≤ n) (upper : n < (r + 2 ^ k) * (r + 2 ^ k)) :
    isqrtFrom k n r * isqrtFrom k n r ≤ n ∧ n < (isqrtFrom k n r + 1) * (isqrtFrom k n r + 1) := by
  induction k generalizing r with
  | zero => exact ⟨lower, upper⟩
  | succ k ih =>
    unfold isqrtFrom
    dsimp only
    split
    next taken =>
      refine ih _ taken ?_
      rwa [add_assoc, ← two_mul, ← pow_succ']
    next left => exact ih r lower (not_le.1 left)

theorem isqrt_spec (n : Nat) : isqrt n * isqrt n ≤ n ∧ n < (isqrt n + 1) * (isqrt n + 1) := by
  refine isqrtFrom_spec _ n 0 (Nat.zero_le n) ?_
  rw [zero_add, ← pow_add]
  exact Nat.lt_log2_self.trans_le (Nat.pow_le_pow_right (by decide) (by omega))

/-- The braking speed at a distance ahead is the root of R62. -/
theorem brakingSpeed_spec {dec d : Int} (hdec : 0 ≤ dec) (hd : 0 ≤ d) :
    brakingSpeed dec d * brakingSpeed dec d ≤ 2 * dec * d ∧
      2 * dec * d < (brakingSpeed dec d + 1) * (brakingSpeed dec d + 1) := by
  have nonneg : 0 ≤ 2 * dec * d := mul_nonneg (by omega) hd
  unfold brakingSpeed
  split
  next small =>
    obtain rfl : d = 0 := le_antisymm small hd
    simp
  next =>
    obtain ⟨lower, upper⟩ := isqrt_spec (2 * dec * d).toNat
    have cast : ((2 * dec * d).toNat : Int) = 2 * dec * d := Int.toNat_of_nonneg nonneg
    refine ⟨?_, ?_⟩
    · rw [← cast]
      exact_mod_cast lower
    · rw [← cast]
      exact_mod_cast upper

theorem brakingSpeed_reached {dec d : Int} (h : d ≤ 0) : brakingSpeed dec d = 0 :=
  if_pos h

/-! ## The least of a list -/

/-- An entry that no other lies below is the least. -/
theorem least_of_lowest {l : List Int} {m : Int} (hm : m ∈ l) (lowest : ∀ x ∈ l, m ≤ x) : least l = some m := by
  obtain ⟨k, e⟩ := least_isSome (List.ne_nil_of_mem hm)
  obtain ⟨hk, below⟩ := least_eq_some e
  rw [e, le_antisymm (below m hm) (lowest k hk)]

end Sys2Proof.Machine
end

section
/-! SUPPORT. The planner's end and the output set: stop points, X demand and target of a set, and what the end of a pass
leaves of them (O60). -/

namespace Sys2Proof.Machine

open Sys2Proof.Safety

/-! ## The heads that the planner reads -/

/-- A head holds the X demand at 0 in the states and exit phases of R59. -/
theorem Head.holdsX_iff (x : Head) : x.holdsX = true ↔ x.seq.state = .spinup ∨ x.seq.state = .plunge ∨
    x.seq.state = .dwell ∨ x.seq.state = .withdraw ∨ x.exitPhase = some .brake ∨
    x.exitPhase = some .retract ∧ ∃ r, x.reg.exitRecord = some r ∧ r.kind = .inPlace := by
  simp only [Head.exitPhase_iff]
  unfold Head.holdsX
  cases state : x.seq.state with
  | exit =>
    cases phase : x.seq.progress.exitPhase with
    | none => simp
    | some p =>
      cases p with
      | retract => cases x.reg.exitRecord <;> simp
      | _ => simp
  | _ => simp

/-- The speed that a head asks of the bridge (R60). -/
theorem Head.askedSpeed_iff (x : Head) (v : Int) : x.askedSpeed = some v ↔
    x.seq.state = .traverse ∧ x.trim.vh = some v ∨
      x.exitPhase = some .runout ∧ 0 < x.reg.demand ∧ v = x.seq.carried.speed := by
  simp only [Head.exitPhase_iff]
  unfold Head.askedSpeed
  cases state : x.seq.state with
  | exit => simp [and_assoc, eq_comm]
  | _ => simp

/-- A head that has left the pass asks nothing of the bridge and holds nothing (R58 to R60). -/
theorem State.left_asks_nothing {s : State} {h : HeadId} (left : (s.headState h).left = true) :
    s.stopPoint h = none ∧ (s.head h).holdsX = false ∧ (s.head h).askedSpeed = none := by
  have state : (s.head h).seq.state = .finished ∨ (s.head h).seq.state = .stopped := (HeadState.left_iff _).1 left
  unfold State.stopPoint Head.holdsX Head.askedSpeed
  rcases state with e | e <;> simp [e]

/-! ## Stop points -/

/-- The stop point of a WAITING head (R58). -/
theorem State.stopPoint_waiting {s : State} {h : HeadId} (state : s.headState h = .waiting) (e : StopPoint) :
    s.stopPoint h = some e ↔ e.head = h ∧ e.cause = .plunge ∧ s.plungeX h = some e.x := by
  have state : (s.head h).seq.state = .waiting := state
  unfold State.stopPoint
  simp only [state]
  obtain ⟨head, cause, x⟩ := e
  cases plunge : s.plungeX h with
  | none => simp
  | some y =>
    simp only [Option.some.injEq, StopPoint.mk.injEq]
    exact ⟨fun ⟨a, b, c⟩ => ⟨a.symm, b.symm, c⟩, fun ⟨a, b, c⟩ => ⟨a.symm, b.symm, c⟩⟩

/-- The successors at which a TRAVERSE ends with the bridge at rest (R58). -/
def Sequencer.EndsAtRest (q : Sequencer) : Prop :=
  q.successor = none ∨ (∃ ms f, q.successor = some (.dwell ms f)) ∨
    ∃ last rate runOut, q.successor = some (.exit last .inPlace rate runOut)

/-- The stop point of a head in TRAVERSE (R58). -/
theorem State.stopPoint_traverse {s : State} {h : HeadId} (state : s.headState h = .traverse) (e : StopPoint) :
    s.stopPoint h = some e ↔ ∃ reps length force speed rpm depth,
      (s.head h).seq.executingRecord = some (.traverse reps length force speed rpm depth) ∧
      (s.head h).seq.EndsAtRest ∧ e = ⟨h, .endOfRecord, s.xOfStation h ((s.head h).seq.progress.s0 + reps * length)⟩ := by
  have state : (s.head h).seq.state = .traverse := state
  unfold State.stopPoint Sequencer.EndsAtRest
  simp only [state]
  cases record : (s.head h).seq.executingRecord with
  | none => simp
  | some g =>
    cases g with
    | traverse reps length force speed rpm depth =>
      have station : (s.head h).seq.endStation = (s.head h).seq.progress.s0 + reps * length := by
        simp only [Sequencer.endStation, record]
      cases next : (s.head h).seq.successor with
      | none => simp [station, eq_comm]
      | some k =>
        cases k with
        | exit last kind rate runOut => cases kind <;> simp [station, eq_comm]
        | _ => simp [station, eq_comm]
    | _ => simp

theorem State.stopPoint_elsewhere {s : State} {h : HeadId} (waits : s.headState h ≠ .waiting)
    (traverses : s.headState h ≠ .traverse) : s.stopPoint h = none := by
  have waits : (s.head h).seq.state ≠ .waiting := waits
  have traverses : (s.head h).seq.state ≠ .traverse := traverses
  unfold State.stopPoint
  dsimp only
  split
  next e => exact absurd e waits
  next e => exact absurd e traverses
  next => rfl

/-- The stop points are rebuilt while a pass runs or is held (R58). -/
theorem State.formStopPoints_moving {s : State} (h : s.pass.state = .running ∨ s.pass.state = .held) :
    s.formStopPoints = s.pass.heads.members.filterMap s.stopPoint := by
  unfold State.formStopPoints
  rcases h with e | e <;> rw [e]

theorem State.formStopPoints_resting {s : State} (h : ¬ (s.pass.state = .running ∨ s.pass.state = .held)) :
    s.formStopPoints = [] := by
  unfold State.formStopPoints
  split
  next e => exact absurd (.inl e) h
  next e => exact absurd (.inr e) h
  next => rfl

theorem State.mem_formStopPoints {s : State} (h : s.pass.state = .running ∨ s.pass.state = .held) (e : StopPoint) :
    e ∈ s.formStopPoints ↔ ∃ g, s.isPassHead g = true ∧ s.stopPoint g = some e := by
  rw [State.formStopPoints_moving h, List.mem_filterMap]
  exact exists_congr fun g => and_congr_left fun _ => HeadSet.mem_members _ g

/-! ## The X demand -/

theorem State.formDemand_running_held {s : State} (run : s.pass.state = .running) (points : List StopPoint)
    (h : ∃ g, s.isPassHead g = true ∧ (s.head g).holdsX = true) : s.formDemand points = 0 := by
  obtain ⟨g, named, holds⟩ := h
  have any : (s.pass.heads.members.any fun g => (s.head g).holdsX) = true :=
    List.any_eq_true.2 ⟨g, (HeadSet.mem_members ..).2 named, holds⟩
  simp only [State.formDemand, run, any, if_true]

/-- Without a head that holds it, the X demand of a running pass is the least speed asked for (R60). -/
theorem State.formDemand_running {s : State} (run : s.pass.state = .running) (points : List StopPoint)
    (h : ¬ ∃ g, s.isPassHead g = true ∧ (s.head g).holdsX = true) : s.formDemand points =
      (least (s.pass.heads.members.filterMap fun g => (s.head g).askedSpeed)).getD
        (if s.plungeAhead points = true then s.gantry.approachSpeed else 0) := by
  have any : ¬ (s.pass.heads.members.any fun g => (s.head g).holdsX) = true := fun holds => by
    obtain ⟨g, named, holds⟩ := List.any_eq_true.1 holds
    exact h ⟨g, (HeadSet.mem_members ..).1 named, holds⟩
  simp only [State.formDemand, run, if_neg any]
  cases least (s.pass.heads.members.filterMap fun g => (s.head g).askedSpeed) <;> rfl

theorem State.mem_askedSpeeds (s : State) (v : Int) :
    v ∈ (s.pass.heads.members.filterMap fun g => (s.head g).askedSpeed) ↔
      ∃ g, s.isPassHead g = true ∧ (s.head g).askedSpeed = some v := by
  rw [List.mem_filterMap]
  exact exists_congr fun g => and_congr_left fun _ => HeadSet.mem_members _ g

theorem State.plungeAhead_iff (s : State) (points : List StopPoint) : s.plungeAhead points = true ↔
    ∃ e ∈ points, e.cause = .plunge ∧ s.planner.measuredX + s.gantry.arrivalTol < e.x := by
  simp [State.plungeAhead]

theorem State.all_stopped_iff (s : State) :
    (s.pass.heads.members.all fun g => decide (s.headState g = .stopped)) = true ↔
      ∀ g, s.isPassHead g = true → s.headState g = .stopped := by
  simp [State.isPassHead, HeadSet.mem_members]

/-- An approach moves while no hold stands and a pass head is left to move for (R61). -/
theorem State.formDemand_approach {s : State} (app : s.pass.state = .approach) (points : List StopPoint)
    (free : s.pass.holdCause = .none) (h : ¬ ∀ g, s.isPassHead g = true → s.headState g = .stopped) :
    s.formDemand points = s.gantry.approachSpeed := by
  simp only [State.formDemand, app]
  exact if_pos ⟨free, mt s.all_stopped_iff.1 h⟩

theorem State.formDemand_approach_stopped {s : State} (app : s.pass.state = .approach) (points : List StopPoint)
    (h : s.pass.holdCause ≠ .none ∨ ∀ g, s.isPassHead g = true → s.headState g = .stopped) :
    s.formDemand points = 0 := by
  simp only [State.formDemand, app]
  exact if_neg fun ⟨free, moves⟩ => h.elim (· free) fun stopped => moves (s.all_stopped_iff.2 stopped)

theorem State.formDemand_resting {s : State} (run : s.pass.state ≠ .running) (app : s.pass.state ≠ .approach)
    (points : List StopPoint) : s.formDemand points = 0 := by
  unfold State.formDemand
  dsimp only
  split
  next e => exact absurd e run
  next e => exact absurd e app
  next => rfl

/-! ## The target -/

theorem State.formTarget_moving {s : State} (h : s.pass.state = .running ∨ s.pass.state = .held)
    (points : List StopPoint) (demand : Int) : s.formTarget points demand = s.brakedTarget points demand := by
  unfold State.formTarget
  rcases h with e | e <;> rw [e]

/-- The nearest stop point bounds the target by its braking speed (R62). -/
theorem State.brakedTarget_nearest {s : State} {points : List StopPoint} {e : StopPoint} (he : e ∈ points)
    (nearest : ∀ k ∈ points, e.x ≤ k.x) (demand : Int) : s.brakedTarget points demand =
      min (min demand s.gantry.xMax) (brakingSpeed s.gantry.dec (e.x - s.planner.measuredX)) := by
  have first : least (points.map fun p => p.x - s.planner.measuredX) = some (e.x - s.planner.measuredX) := by
    refine least_of_lowest (List.mem_map.2 ⟨e, he, rfl⟩) fun d hd => ?_
    obtain ⟨k, hk, rfl⟩ := List.mem_map.1 hd
    have := nearest k hk
    omega
  simp only [State.brakedTarget, first]

/-- An approach brakes toward the approach X from either side of it (R63). -/
theorem State.formTarget_approach {s : State} (app : s.pass.state = .approach) (points : List StopPoint)
    (demand : Int) : s.formTarget points demand = s.approachTarget demand := by
  unfold State.formTarget
  rw [app]

theorem State.formTarget_inactive {s : State} (h : s.active = false) (points : List StopPoint) (demand : Int) :
    s.formTarget points demand = 0 := by
  have inactive : s.pass.state.active = false := h
  unfold State.formTarget
  split
  next e => simp [e, PassState.active] at inactive
  next e => simp [e, PassState.active] at inactive
  next e => simp [e, PassState.active] at inactive
  next => rfl

/-! ## The end of a pass at the planner's end -/

/-- Where every pass head has left the pass, no stop point and no X demand is formed (R58 to R61). -/
theorem State.formed_of_left {s : State} (ok : PassHeadsOk s)
    (left : ∀ h, s.isPassHead h = true → (s.headState h).left = true) :
    s.formStopPoints = [] ∧ s.formDemand s.formStopPoints = 0 := by
  have points : s.formStopPoints = [] := by
    by_cases moves : s.pass.state = .running ∨ s.pass.state = .held
    · rw [State.formStopPoints_moving moves, List.filterMap_eq_nil_iff]
      exact fun h member => (State.left_asks_nothing (left h ((HeadSet.mem_members ..).1 member))).1
    · exact State.formStopPoints_resting moves
  refine ⟨points, ?_⟩
  rw [points]
  by_cases run : s.pass.state = .running
  · have none : ¬ ∃ g, s.isPassHead g = true ∧ (s.head g).holdsX = true := fun ⟨g, named, holds⟩ => by
      rw [(State.left_asks_nothing (left g named)).2.1] at holds
      cases holds
    have asked : (s.pass.heads.members.filterMap fun g => (s.head g).askedSpeed) = [] :=
      List.filterMap_eq_nil_iff.2 fun g member =>
        (State.left_asks_nothing (left g ((HeadSet.mem_members ..).1 member))).2.2
    rw [State.formDemand_running run _ none, asked]
    rfl
  · by_cases app : s.pass.state = .approach
    · have stopped (g : HeadId) (named : s.isPassHead g = true) : s.headState g = .stopped := by
        refine (ok.2.2 app g named).resolve_left fun waits => ?_
        have := left g named
        rw [waits] at this
        cases this
      exact State.formDemand_approach_stopped app _ (.inr stopped)
    · exact State.formDemand_resting run app _

/-- The planner's end forms the planner record, and a pass that ends with it gives up a QUICKSTOP alone (R12, R66). -/
theorem State.endPlanner_planner {s : State} (ok : PassHeadsOk s) :
    s.endPlanner.planner = s.plannerFormed ∧ s.endPlanner.active = s.active ∨
    s.endPlanner.planner = { s.plannerFormed with
        xMode := if s.plannerFormed.xMode = .quickstop then .still else s.plannerFormed.xMode } ∧
      s.active = true ∧ s.endPlanner.active = false := by
  rw [State.endPlanner_eq]
  split
  · let t : State := { s with planner := s.plannerFormed }
    change t.testPassEnd.planner = _ ∧ _ ∨ t.testPassEnd.planner = _ ∧ _ ∧ t.testPassEnd.active = _
    by_cases due : t.passEndDue = true
    · obtain ⟨active, left, -⟩ := t.passEndDue_iff.1 due
      obtain ⟨points, demand⟩ := State.formed_of_left ok left
      refine .inr ⟨?_, active, ?_⟩
      · rw [State.testPassEnd_of_due due, State.endPass_planner]
        simp only [Planner.ended, t, State.plannerFormed, points] at demand ⊢
        rw [demand]
      · rw [State.testPassEnd_of_due due, State.active, State.endPass_pass, State.endedPass_active]
    · rw [State.testPassEnd_of_not due]
      exact .inl ⟨rfl, rfl⟩
  · exact .inl ⟨rfl, rfl⟩

end Sys2Proof.Machine
end

section
/-! SUPPORT. The planner's end and the output set of a set, part by part (O60). -/

namespace Sys2Proof.Machine

open Sys2Proof.Safety

/-- What the planner's end forms, whether the pass ends with it or not (R58 to R66). -/
theorem State.endPlanner_forms {s : State} (ok : PassHeadsOk s) :
    s.endPlanner.planner.stopPoints = s.formStopPoints ∧
    s.endPlanner.planner.xDemand = s.formDemand s.formStopPoints ∧
    s.endPlanner.planner.xCommand = s.nextCommand ∧
    s.endPlanner.planner = { s.planner with
      stopPoints := s.endPlanner.planner.stopPoints
      xDemand := s.endPlanner.planner.xDemand
      xCommand := s.endPlanner.planner.xCommand
      xMode := s.endPlanner.planner.xMode } := by
  rcases s.endPlanner_planner ok with ⟨planner, -⟩ | ⟨planner, -, -⟩ <;> rw [planner] <;> exact ⟨rfl, rfl, rfl, rfl⟩

/-- The X mode of a set without QUICKSTOP (R65). -/
theorem State.endPlanner_xMode {s : State} (ok : PassHeadsOk s) (h : s.planner.xMode ≠ .quickstop) :
    s.endPlanner.planner.xMode = if s.endPlanner.planner.xCommand = 0 then .still else .move := by
  have formed : s.plannerFormed.xMode = if s.nextCommand = 0 then .still else .move := if_neg h
  have moving : s.plannerFormed.xMode ≠ .quickstop := by
    rw [formed]
    split <;> decide
  rcases s.endPlanner_planner ok with ⟨planner, -⟩ | ⟨planner, -, -⟩
  · rw [planner]
    exact formed
  · rw [planner]
    exact (if_neg moving).trans formed

/-- A QUICKSTOP stands until the pass ends (R12, R66). -/
theorem State.endPlanner_quickstop {s : State} (ok : PassHeadsOk s) (h : s.planner.xMode = .quickstop) :
    s.endPlanner.planner.xMode = if s.endPlanner.active = s.active then .quickstop else .still := by
  have formed : s.plannerFormed.xMode = .quickstop := if_pos h
  rcases s.endPlanner_planner ok with ⟨planner, active⟩ | ⟨planner, before, ended⟩
  · rw [planner, if_pos active]
    exact formed
  · rw [planner, ended, before]
    exact if_pos formed

/-- A set without QUICKSTOP ramps the X command toward its target (R64). -/
theorem State.nextCommand_ramps {s : State} (h : s.planner.xMode ≠ .quickstop) (acc : 0 < s.gantry.acc)
    (dec : 0 < s.gantry.dec) : s.nextCommand =
      ramp (max 1 (Int.tdiv (s.gantry.acc * s.gantry.tc) 1000000)) (max 1 (Int.tdiv (s.gantry.dec * s.gantry.tc) 1000000))
        s.planner.xCommand (s.formTarget s.formStopPoints (s.formDemand s.formStopPoints)) := by
  rw [← rampStep_eq acc, ← rampStep_eq dec]
  exact if_neg h

end Sys2Proof.Machine

namespace Sys2Proof.SharedTraverse

open Sys2Proof.Machine Sys2Proof.Safety

/-- The demand and the Z mode of the states that a set leaves (R71). -/
theorem settled_eq (t : State) (h : HeadId) : (t.modHead h fun x => { x with reg := { x.reg with
      demand := if x.seq.state.parked = true then x.profile.depth.clear else x.reg.demand
      zMode := if x.seq.state.parked = true then .park else .position } }) = t.settleDemand h := rfl

theorem fenced_iff (q : HeadState) : q.fenced = true ↔
    q = .spinup ∨ q = .plunge ∨ q = .dwell ∨ q = .traverse ∨ q = .exit := by
  cases q <;> simp [HeadState.fenced]

/-- The fence of the states that a set leaves (R106). -/
theorem fenced_eq (t : State) (h : HeadId) : (t.modHead h fun x => { x with map := { x.map with
      fence := if x.seq.state = .spinup ∨ x.seq.state = .plunge ∨ x.seq.state = .dwell ∨ x.seq.state = .traverse ∨
          x.seq.state = .exit then
        some (max (-2147483648) (min 2147483647 (x.seq.station + t.gantry.fenceMargin))) else none } }) =
      t.formFence h := by
  unfold State.formFence State.modMap State.modHead limit32
  simp only [fenced_iff, limit_eq_max_min (show (-2147483648 : Int) ≤ 2147483647 by decide)]

theorem endPlanner_reg (s : State) (h : HeadId) : (s.endPlanner.head h).reg = (s.head h).reg := by
  rw [State.endPlanner_eq]
  split
  · exact State.testPassEnd_reg ..
  · rfl

/-- Where the blocks leave the tool, the Z mode is that of the state (R71). -/
theorem fencedSet_zMode (s : State) (accepted loss : Bool) (h : HeadId) :
    ((s.fencedSet accepted loss).head h).reg.zMode =
      if ((s.fencedSet accepted loss).head h).seq.state.parked = true then .park else .position := by
  unfold State.fencedSet
  cases h <;> rfl

/-- The output set of a set, read from the heads that it leaves (R71, R166). -/
theorem workSet_output (s : State) (accepted loss : Bool) :
    let t := s.workSet accepted loss
    let outputs := fun (x : Head) =>
      HeadOutput.mk x.reg.demand (if x.seq.state.parked = true then .park else .position) x.trim.spindle x.trim.lateral
    t.ring.output.a = outputs t.headA ∧ t.ring.output.b = outputs t.headB := by
  let u := s.fencedSet accepted loss
  have zMode (h : HeadId) : (u.endPlanner.head h).reg.zMode =
      if (u.endPlanner.head h).seq.state.parked = true then .park else .position := by
    rw [endPlanner_reg, (u.endPlanner_restKey h).2]
    exact fencedSet_zMode s accepted loss h
  have outputs (x : Head) (h : x.reg.zMode = if x.seq.state.parked = true then .park else .position) : x.outputs =
      HeadOutput.mk x.reg.demand (if x.seq.state.parked = true then .park else .position) x.trim.spindle
        x.trim.lateral := by
    rw [← h]
    rfl
  exact ⟨outputs _ (zMode .a), outputs _ (zMode .b)⟩

/-- The stop points at the end of a set (R58). -/
theorem formStopPoints_entries {s : State} (moves : s.pass.state = .running ∨ s.pass.state = .held) (e : StopPoint) :
    e ∈ s.formStopPoints ↔ s.isPassHead e.head = true ∧ match e.cause with
      | .plunge => s.headState e.head = .waiting ∧ s.plungeX e.head = some e.x
      | .endOfRecord => ∃ reps length force speed rpm depth, s.headState e.head = .traverse ∧
          (s.head e.head).seq.executingRecord = some (.traverse reps length force speed rpm depth) ∧
          ((s.head e.head).seq.successor = none ∨ (∃ ms f, (s.head e.head).seq.successor = some (.dwell ms f)) ∨
            ∃ last rate runOut, (s.head e.head).seq.successor = some (.exit last .inPlace rate runOut)) ∧
          e.x = s.pass.x0 + ((s.head e.head).seq.progress.s0 + reps * length) -
            (s.head e.head).profile.trim.xOffset := by
  obtain ⟨head, cause, x⟩ := e
  rw [State.mem_formStopPoints moves]
  constructor
  · rintro ⟨h, named, point⟩
    by_cases waits : s.headState h = .waiting
    · obtain ⟨rfl, rfl, plunge⟩ := (State.stopPoint_waiting waits _).1 point
      exact ⟨named, waits, plunge⟩
    · by_cases traverses : s.headState h = .traverse
      · obtain ⟨reps, length, force, speed, rpm, depth, record, ends, e⟩ :=
          (State.stopPoint_traverse traverses _).1 point
        cases e
        exact ⟨named, reps, length, force, speed, rpm, depth, traverses, record, ends, rfl⟩
      · rw [State.stopPoint_elsewhere waits traverses] at point
        cases point
  · rintro ⟨named, entry⟩
    refine ⟨head, named, ?_⟩
    cases cause with
    | plunge => exact (State.stopPoint_waiting entry.1 _).2 ⟨rfl, rfl, entry.2⟩
    | endOfRecord =>
      obtain ⟨reps, length, force, speed, rpm, depth, traverses, record, ends, station⟩ := entry
      exact (State.stopPoint_traverse traverses _).2 ⟨reps, length, force, speed, rpm, depth, record, ends,
        congrArg (StopPoint.mk head .endOfRecord) station⟩

/-- The X demand of a running pass (R59, R60). -/
theorem formDemand_running {s : State} (run : s.pass.state = .running) (points : List StopPoint) :
    let holds := ∃ h, s.isPassHead h = true ∧ (s.headState h = .spinup ∨ s.headState h = .plunge ∨
      s.headState h = .dwell ∨ s.headState h = .withdraw ∨ (s.head h).exitPhase = some .brake ∨
      (s.head h).exitPhase = some .retract ∧ ∃ r, (s.head h).reg.exitRecord = some r ∧ r.kind = .inPlace)
    let asks := fun (h : HeadId) (v : Int) => s.isPassHead h = true ∧
      (s.headState h = .traverse ∧ (s.head h).trim.vh = some v ∨
        (s.head h).exitPhase = some .runout ∧ 0 < (s.head h).reg.demand ∧ v = (s.head h).seq.carried.speed)
    (holds → s.formDemand points = 0) ∧
    (∀ h v, ¬ holds → asks h v → (∀ k w, asks k w → v ≤ w) → s.formDemand points = v) ∧
    (¬ holds → (¬ ∃ h v, asks h v) → s.formDemand points = if (∃ e ∈ points, e.cause = .plunge ∧
        s.planner.measuredX + s.gantry.arrivalTol < e.x) then s.gantry.approachSpeed else 0) := by
  intro holds asks
  have held : holds ↔ ∃ h, s.isPassHead h = true ∧ (s.head h).holdsX = true :=
    exists_congr fun h => and_congr_right fun _ => (Head.holdsX_iff _).symm
  have asked (v : Int) : v ∈ (s.pass.heads.members.filterMap fun g => (s.head g).askedSpeed) ↔ ∃ h, asks h v := by
    rw [State.mem_askedSpeeds]
    exact exists_congr fun h => and_congr_right fun _ => Head.askedSpeed_iff ..
  refine ⟨fun h => State.formDemand_running_held run points (held.1 h), fun h v free asks lowest => ?_,
    fun free none => ?_⟩
  · have least := least_of_lowest ((asked v).2 ⟨h, asks⟩) fun w hw => by
      obtain ⟨k, asks⟩ := (asked w).1 hw
      exact lowest k w asks
    rw [State.formDemand_running run points (mt held.2 free), least, Option.getD_some]
  · have empty : (s.pass.heads.members.filterMap fun g => (s.head g).askedSpeed) = [] :=
      List.eq_nil_iff_forall_not_mem.2 fun v hv => by
        obtain ⟨h, asks⟩ := (asked v).1 hv
        exact none ⟨h, v, asks⟩
    rw [State.formDemand_running run points (mt held.2 free), empty]
    simp only [least, Option.getD_none, State.plungeAhead_iff]

/-- The root that R62 takes of a distance ahead. -/
theorem brakingSpeed_root {dec d : Int} (hdec : 0 < dec) (hd : 0 ≤ d) : 0 ≤ brakingSpeed dec d ∧
    brakingSpeed dec d * brakingSpeed dec d ≤ 2 * dec * d ∧
    2 * dec * d < (brakingSpeed dec d + 1) * (brakingSpeed dec d + 1) :=
  ⟨brakingSpeed_nonneg .., brakingSpeed_spec hdec.le hd⟩

/-- Settles O60: the blocks stand in the order that `State.workSet` gives them; the planner's end forms the records of
`State.plannerFormed`, which a pass that ends with it leaves but for a QUICKSTOP (`State.endPlanner_planner`); and the
output set is read from the heads that the set leaves. -/
theorem setsEndWithTheRamp : Obligations.SetsEndWithTheRamp := by
  refine ⟨fun acc dec prev target ha hd => ramp_laws ha hd, fun s accepted loss => ?_, fun s => rfl,
    fun s t accepted loss e => ?_, fun s ok => ?_⟩
  · intro sequenced regulated guarded trimmed settled fenced
    simp only [fenced, settled, fenced_eq, settled_eq]
    rfl
  · subst e
    intro outputs
    have ring := (s.workSet_worked accepted loss).ring
    obtain ⟨outputA, outputB⟩ := workSet_output s accepted loss
    refine ⟨rfl, outputA, outputB, rfl, ?_, ?_⟩
    · rw [State.workSet_number, ring]
    · by_cases halted : (s.fencedSet accepted loss).endPlanner.disarmGuards.halted = true
      · exact .inr (if_pos halted)
      · exact .inl (if_neg halted)
  · intro p entry moves holds asks step root distance stopped
    obtain ⟨points, demand, command, frame⟩ := State.endPlanner_forms ok
    have demand : p.xDemand = s.formDemand p.stopPoints := by rw [demand, points]
    refine ⟨fun moves e => ?_, fun rests => ?_, fun run => ?_, fun app => ⟨fun free some => ?_, fun none => ?_⟩,
      fun run app => ?_, fun quick => ?_, fun moving acc dec => ?_, State.endPlanner_quickstop ok, frame⟩
    · rw [points]
      exact formStopPoints_entries moves e
    · exact points.trans (State.formStopPoints_resting rests)
    · rw [demand]
      exact formDemand_running run p.stopPoints
    · exact demand.trans (State.formDemand_approach app _ free some)
    · exact demand.trans (State.formDemand_approach_stopped app _ none)
    · exact demand.trans (State.formDemand_resting run app _)
    · exact command.trans (if_pos quick)
    · refine ⟨s.formTarget p.stopPoints p.xDemand, ?_, fun moves none => ?_, fun e moves he nearest => ?_,
        fun app near => ?_, fun app far => ?_, fun inactive => ?_, State.endPlanner_xMode ok moving⟩
      · rw [command, State.nextCommand_ramps moving acc dec, demand, points]
      · rw [State.formTarget_moving moves, none]
        rfl
      · refine ⟨brakingSpeed s.gantry.dec (e.x - s.planner.measuredX), fun reached => ?_, fun ahead => ?_, ?_⟩
        · exact brakingSpeed_reached (by omega)
        · exact brakingSpeed_root dec (by omega)
        · rw [State.formTarget_moving moves, State.brakedTarget_nearest he nearest]
      · rw [State.formTarget_approach app]
        exact if_pos near
      · refine ⟨brakingSpeed s.gantry.dec (mag distance), brakingSpeed_root dec (mag_nonneg _), ?_⟩
        rw [State.formTarget_approach app]
        refine (if_neg (not_le.2 far)).trans ?_
        split
        · exact (neg_one_mul _).symm
        · exact (one_mul _).symm
      · exact State.formTarget_inactive inactive _ _

end Sys2Proof.SharedTraverse
end

section
/-! SUPPORT. The laws of the tool on one head, by its state, and how a head may move under them: `Head.Tends` says that
a move keeps them (O12). -/

namespace Sys2Proof.Machine

open Sys2Proof.Safety

/-! ## The laws by head state -/

/-- The most by which a demand goes deeper on one set (R80, R81, R84). -/
def Head.deepest (x : Head) : Int :=
  max x.profile.depth.plungeRate x.profile.depth.rMax

/-- A demand that a set may form behind the demand `prev` of the output set before (R84). -/
def Head.MayDemand (x : Head) (prev d : Int) : Prop :=
  DepthInBounds x d ∧ d ≤ prev + x.deepest

/-- A head off the parked states: its demand and the one before it lie in their bounds, and its spindle turns (R84,
R100). -/
structure Head.Lowered (x : Head) (prev : Int) : Prop where
  before : DepthInBounds x prev
  demand : x.MayDemand prev x.reg.demand
  rpm : 100 ≤ x.seq.carried.rpm

/-- What an exit works toward lies in bounds (R85, R87, R88). -/
def Head.ExitsInBounds (x : Head) : Prop :=
  ∀ e, x.reg.exitRecord = some e → 0 ≤ e.rate ∧ 0 ≤ e.runOut ∧ ∀ d, e.startDepth = some d → x.profile.depth.clear ≤ d

/-- The laws of the tool on a head behind an output set with the demand `prev`, by the head's state. A spin-up stands at
the clear height once `sets` sets have counted it at speed (R15, R71). -/
def Head.Tooled (x : Head) (sets : Nat) (prev : Int) : Prop :=
  match x.seq.state with
  | .idle | .spindown | .finished | .stopped => True
  | .waiting => x.seq.executing = true →
      100 ≤ x.seq.carried.rpm ∧ 1 ≤ x.seq.carried.depth ∧ x.seq.progress.starved = false
  | .spinup => (100 ≤ x.seq.carried.rpm ∧ 1 ≤ x.seq.carried.depth ∧ x.seq.progress.starved = false) ∧
      x.reg.seatCount = 0 ∧
      (sets ≤ x.seq.atSpeedCount → prev = x.profile.depth.clear ∧ x.reg.demand = x.profile.depth.clear)
  | .plunge => x.Lowered prev ∧ 1 ≤ x.seq.carried.depth ∧
      (1 ≤ x.reg.seatCount ∨ x.seq.progress.starved = true → 100 ≤ x.reg.segment.rpm)
  | .dwell => x.Lowered prev ∧ 100 ≤ x.reg.segment.rpm
  | .traverse => x.Lowered prev ∧ 100 ≤ x.reg.segment.rpm ∧
      100 ≤ x.seq.progress.v0.rpm ∧ 100 ≤ x.seq.progress.v1.rpm
  | .exit => x.Lowered prev ∧ x.ExitsInBounds
  | .withdraw => x.Lowered prev ∧ (x.reg.withdraw = .spinstop → x.reg.demand = x.profile.depth.clear)

section
variable {x y z : Head} {sets : Nat} {prev : Int} {still : Prop}

theorem Head.tooled_waiting (hs : x.seq.state = .waiting) : x.Tooled sets prev ↔ (x.seq.executing = true →
    100 ≤ x.seq.carried.rpm ∧ 1 ≤ x.seq.carried.depth ∧ x.seq.progress.starved = false) := by
  simp only [Head.Tooled, hs]

theorem Head.tooled_spinup (hs : x.seq.state = .spinup) : x.Tooled sets prev ↔
    (100 ≤ x.seq.carried.rpm ∧ 1 ≤ x.seq.carried.depth ∧ x.seq.progress.starved = false) ∧ x.reg.seatCount = 0 ∧
      (sets ≤ x.seq.atSpeedCount → prev = x.profile.depth.clear ∧ x.reg.demand = x.profile.depth.clear) := by
  simp only [Head.Tooled, hs]

theorem Head.tooled_plunge (hs : x.seq.state = .plunge) : x.Tooled sets prev ↔ x.Lowered prev ∧
    1 ≤ x.seq.carried.depth ∧ (1 ≤ x.reg.seatCount ∨ x.seq.progress.starved = true → 100 ≤ x.reg.segment.rpm) := by
  simp only [Head.Tooled, hs]

theorem Head.tooled_dwell (hs : x.seq.state = .dwell) : x.Tooled sets prev ↔
    x.Lowered prev ∧ 100 ≤ x.reg.segment.rpm := by
  simp only [Head.Tooled, hs]

theorem Head.tooled_traverse (hs : x.seq.state = .traverse) : x.Tooled sets prev ↔ x.Lowered prev ∧
    100 ≤ x.reg.segment.rpm ∧ 100 ≤ x.seq.progress.v0.rpm ∧ 100 ≤ x.seq.progress.v1.rpm := by
  simp only [Head.Tooled, hs]

theorem Head.tooled_exit (hs : x.seq.state = .exit) : x.Tooled sets prev ↔ x.Lowered prev ∧ x.ExitsInBounds := by
  simp only [Head.Tooled, hs]

theorem Head.tooled_withdraw (hs : x.seq.state = .withdraw) : x.Tooled sets prev ↔ x.Lowered prev ∧
    (x.reg.withdraw = .spinstop → x.reg.demand = x.profile.depth.clear) := by
  simp only [Head.Tooled, hs]

/-- The states in which nothing is asked of the tool but its place in the output set. -/
def HeadState.idles : HeadState → Bool
  | .idle | .spindown | .finished | .stopped => true
  | _ => false

theorem Head.tooled_idles (hs : x.seq.state.idles = true) : x.Tooled sets prev := by
  cases e : x.seq.state <;> simp only [e, HeadState.idles, Bool.false_eq_true] at hs <;>
    simp only [Head.Tooled, e]

/-- Off the parked states the tool is lowered, or on its way. -/
theorem Head.Tooled.lowered (t : x.Tooled sets prev) (hs : x.seq.state.parked = false) : x.Lowered prev := by
  cases e : x.seq.state <;> simp only [e, HeadState.parked, Bool.true_eq_false] at hs
  case plunge => exact ((Head.tooled_plunge e).1 t).1
  case dwell => exact ((Head.tooled_dwell e).1 t).1
  case traverse => exact ((Head.tooled_traverse e).1 t).1
  case exit => exact ((Head.tooled_exit e).1 t).1
  case withdraw => exact ((Head.tooled_withdraw e).1 t).1

/-- What the laws read of a head beside its state's own terms. -/
def Head.toolKey (x : Head) : HeadState × Bool × SegValues × (Bool × SegValues × SegValues) × Nat × Int ×
    WithdrawPhase × Nat × SegValues × Option ExitRecord × HeadProfile :=
  (x.seq.state, x.seq.executing, x.seq.carried, (x.seq.progress.starved, x.seq.progress.v0, x.seq.progress.v1),
    x.seq.atSpeedCount, x.reg.demand, x.reg.withdraw, x.reg.seatCount, x.reg.segment, x.reg.exitRecord, x.profile)

theorem Head.lowered_iff : x.Lowered prev ↔
    DepthInBounds x prev ∧ x.MayDemand prev x.reg.demand ∧ 100 ≤ x.seq.carried.rpm :=
  ⟨fun ⟨before, demand, rpm⟩ => ⟨before, demand, rpm⟩, fun ⟨before, demand, rpm⟩ => ⟨before, demand, rpm⟩⟩

theorem Head.tooled_congr (e : y.toolKey = x.toolKey) : y.Tooled sets prev ↔ x.Tooled sets prev := by
  simp only [Head.toolKey, Prod.mk.injEq] at e
  obtain ⟨hs, hx, hc, ⟨hf, h0, h1⟩, hn, hd, hw, ht, hg, hr, hp⟩ := e
  simp only [Head.Tooled, Head.ExitsInBounds, Head.lowered_iff, Head.MayDemand, DepthInBounds, Head.deepest, hs, hx, hc,
    hf, h0, h1, hn, hd, hw, ht, hg, hr, hp]

/-! ## Demands that a lowered head may be given -/

theorem Head.deepest_nonneg (h : ProfileInRange x.profile) : 0 ≤ x.deepest := by
  obtain ⟨⟨-, -, -, -, -, -, rate, -⟩, -⟩ := h
  unfold Head.deepest
  omega

/-- A lowered head with another record of its own, within the same profile. -/
theorem Head.Lowered.next (l : x.Lowered prev) (hp : y.profile = x.profile) (hd : x.MayDemand prev y.reg.demand)
    (hr : 100 ≤ y.seq.carried.rpm) : y.Lowered prev := by
  obtain ⟨before, -, -⟩ := l
  constructor
  · simpa only [DepthInBounds, hp] using before
  · simpa only [Head.MayDemand, DepthInBounds, Head.deepest, hp] using hd
  · exact hr

theorem Head.Lowered.kept (l : x.Lowered prev) (hp : y.profile = x.profile) (hd : y.reg.demand = x.reg.demand)
    (hr : 100 ≤ y.seq.carried.rpm) : y.Lowered prev :=
  l.next hp (hd ▸ l.demand) hr

/-- A lowered head may hold its demand or rise, as far as the clear height (R84). -/
theorem Head.Lowered.rise (l : x.Lowered prev) (h : ProfileInRange x.profile) {d : Int}
    (hc : x.profile.depth.clear ≤ d) (hd : d ≤ prev) : x.MayDemand prev d := by
  have := Head.deepest_nonneg h
  have ⟨_, _⟩ := l.before
  exact ⟨⟨hc, by omega⟩, by omega⟩

/-! ## Moves of one head -/

/-- The way from `x` to `y` keeps the laws of the tool behind an output set with the demand `prev`, and where the tool
is to stand still the demand. -/
def Head.Tends (still : Prop) (prev : Int) (x y : Head) : Prop :=
  ∀ sets, 1 ≤ sets → sets ≤ 3 → x.Tooled sets prev → y.Tooled sets prev ∧ (still → y.reg.demand = x.reg.demand)

theorem Head.Tends.trans (a : x.Tends still prev y) (b : y.Tends still prev z) : x.Tends still prev z := by
  intro sets low high t
  obtain ⟨ty, dy⟩ := a sets low high t
  obtain ⟨tz, dz⟩ := b sets low high ty
  exact ⟨tz, fun h => (dz h).trans (dy h)⟩

theorem Head.Tends.ofKey (e : y.toolKey = x.toolKey) : x.Tends still prev y := by
  refine fun sets _ _ t => ⟨(Head.tooled_congr e).2 t, fun _ => ?_⟩
  simp only [Head.toolKey, Prod.mk.injEq] at e
  exact e.2.2.2.2.2.1

theorem Head.Tends.refl : x.Tends still prev x :=
  .ofKey rfl

/-- A head that leaves the tool's laws behind with its demand as it stands. -/
theorem Head.Tends.ofIdles (hs : y.seq.state.idles = true) (hd : y.reg.demand = x.reg.demand) :
    x.Tends still prev y :=
  fun _ _ _ _ => ⟨Head.tooled_idles hs, fun _ => hd⟩

/-- A lowered head that enters EXIT with a record in bounds (R20, R85). -/
theorem Head.Tends.toExit (hs : x.seq.state.parked = false) (hy : y.seq.state = .exit) (hp : y.profile = x.profile)
    (hd : y.reg.demand = x.reg.demand) (hr : ∀ sets, x.Tooled sets prev → 100 ≤ y.seq.carried.rpm)
    (he : x.Lowered prev → y.ExitsInBounds) : x.Tends still prev y := fun sets _ _ t =>
  ⟨(Head.tooled_exit hy).2 ⟨(t.lowered hs).kept hp hd (hr sets t), he (t.lowered hs)⟩, fun _ => hd⟩

/-- The head with the depth demand `d`. -/
def Head.withDemand (x : Head) (d : Int) : Head :=
  { x with reg := { x.reg with demand := d } }

/-- A demand formed anew: a lowered head's in its bounds, and the clear height in SPINUP and SPINSTOP (R71, R84,
R90). -/
theorem Head.Tends.demand {d : Int} (low : x.seq.state.parked = false → ∀ sets, x.Tooled sets prev → x.MayDemand prev d)
    (clear : x.seq.state = .spinup ∨ x.seq.state = .withdraw ∧ x.reg.withdraw = .spinstop →
      ∀ sets, x.Tooled sets prev → d = x.profile.depth.clear) : x.Tends False prev (x.withDemand d) := by
  intro sets _ _ t
  refine ⟨?_, False.elim⟩
  have lowered (hs : x.seq.state.parked = false) : (x.withDemand d).Lowered prev :=
    (t.lowered hs).next rfl (low hs sets t) (t.lowered hs).rpm
  cases e : x.seq.state with
  | idle | spindown | finished | stopped => exact Head.tooled_idles (by simp only [Head.withDemand, e, HeadState.idles])
  | waiting => exact (Head.tooled_waiting (x := x.withDemand d) e).2 ((Head.tooled_waiting e).1 t)
  | spinup =>
    obtain ⟨started, seat, stands⟩ := (Head.tooled_spinup e).1 t
    exact (Head.tooled_spinup (x := x.withDemand d) e).2
      ⟨started, seat, fun h => ⟨(stands h).1, clear (.inl e) sets t⟩⟩
  | plunge =>
    obtain ⟨-, depth, seated⟩ := (Head.tooled_plunge e).1 t
    exact (Head.tooled_plunge (x := x.withDemand d) e).2 ⟨lowered (by rw [e]; rfl), depth, seated⟩
  | dwell =>
    exact (Head.tooled_dwell (x := x.withDemand d) e).2 ⟨lowered (by rw [e]; rfl), ((Head.tooled_dwell e).1 t).2⟩
  | traverse =>
    exact (Head.tooled_traverse (x := x.withDemand d) e).2
      ⟨lowered (by rw [e]; rfl), ((Head.tooled_traverse e).1 t).2⟩
  | exit =>
    exact (Head.tooled_exit (x := x.withDemand d) e).2 ⟨lowered (by rw [e]; rfl), ((Head.tooled_exit e).1 t).2⟩
  | withdraw =>
    exact (Head.tooled_withdraw (x := x.withDemand d) e).2
      ⟨lowered (by rw [e]; rfl), fun h => clear (.inr ⟨e, h⟩) sets t⟩

end

/-! ## The demand on one head's profile -/

/-- A part of a quotient: a share of `v` lies no further from 0 than `v`. -/
theorem min_le_tdiv_part {v k n : Int} (hk : 0 ≤ k) (hkn : k ≤ n) (hn : 0 < n) : min v 0 ≤ Int.tdiv (v * k) n := by
  rcases le_total 0 v with hv | hv
  · exact (min_le_right v 0).trans (Int.tdiv_nonneg (mul_nonneg hv hk) hn.le)
  · have share : -v * k ≤ -v * n := mul_le_mul_of_nonneg_left hkn (by omega)
    have part : Int.tdiv (-v * k) n ≤ -v := by
      rw [Int.tdiv_eq_ediv_of_nonneg (mul_nonneg (by omega) hk)]
      exact Int.ediv_le_of_le_mul hn share
    have : Int.tdiv (v * k) n = -Int.tdiv (-v * k) n := by rw [neg_mul, Int.neg_tdiv, neg_neg]
    omega

/-- A value interpolated along a repetition lies between its ends (R73). -/
theorem min_le_alongRepetition {v0 v1 offset length : Int} (h0 : 0 ≤ offset) (h1 : offset ≤ length) (hl : 0 < length) :
    min v0 v1 ≤ alongRepetition v0 v1 offset length := by
  have := min_le_tdiv_part (v := v1 - v0) h0 h1 hl
  unfold alongRepetition divZero
  omega

end Sys2Proof.Machine
end

section
/-! SUPPORT. How the work of the blocks moves the tools: `Tended still s t` says that the way from `s` to `t` keeps the
laws of the tool on both heads, and where the tool is to stand still its demands. The orders have one lemma each here
(O12). -/

namespace Sys2Proof.Machine

open Sys2Proof.Safety

/-! ## The relation -/

theorem State.prevDemand_output {s t : State} (e : t.ring.output = s.ring.output) (h : HeadId) :
    t.prevDemand h = s.prevDemand h := by
  cases h <;> simp only [State.prevDemand, e]

/-- The work from `s` to `t` keeps the laws of the tool on both heads, and the output set stands. -/
structure Tended (still : Prop) (s t : State) : Prop where
  worked : Worked s t
  sound  : Sound s t
  output : t.ring.output = s.ring.output
  heads  : HeadsOk s → ∀ h, (s.head h).Tends still (s.prevDemand h) (t.head h)

section
variable {still : Prop} {s t u : State} {h : HeadId}

theorem Tended.refl (still : Prop) (s : State) : Tended still s s :=
  ⟨.refl s, .refl s, rfl, fun _ _ => .refl⟩

theorem Tended.headsOk (a : Tended still s t) (k : HeadsOk s) : HeadsOk t :=
  k.moved a.worked a.sound

theorem Tended.prevDemand (a : Tended still s t) (h : HeadId) : t.prevDemand h = s.prevDemand h :=
  State.prevDemand_output a.output h

theorem Tended.trans (a : Tended still s t) (b : Tended still t u) : Tended still s u where
  worked := a.worked.trans b.worked
  sound := a.sound.trans b.sound
  output := b.output.trans a.output
  heads := fun k h => (a.heads k h).trans (a.prevDemand h ▸ b.heads (a.headsOk k) h)

theorem Tended.ite {c : Prop} [Decidable c] (ha : c → Tended still s t) (hb : Tended still s u) :
    Tended still s (if c then t else u) := by
  split
  next hc => exact ha hc
  next => exact hb

theorem Tended.foldl {α : Type} {f : State → α → State} (h : ∀ s x, Tended still s (f s x)) (l : List α) (s : State) :
    Tended still s (l.foldl f s) := by
  induction l generalizing s with
  | nil => exact .refl still s
  | cons x xs ih => exact (h s x).trans (ih _)

/-! ## Single updates -/

/-- The heads stay as they are in what the laws of the tool read. -/
theorem Tended.headsStand (worked : Worked s t) (sound : Sound s t) (hr : t.ring.output = s.ring.output)
    (hh : ∀ h, (t.head h).toolKey = (s.head h).toolKey) : Tended still s t :=
  ⟨worked, sound, hr, fun _ h => .ofKey (hh h)⟩

/-- One head has moved within the laws. -/
theorem Tended.oneHead (worked : Worked s t) (sound : Sound s t) (hr : t.ring = s.ring)
    (ho : t.head h.other = s.head h.other)
    (hh : HeadsOk s → (s.head h).Tends still (s.prevDemand h) (t.head h)) : Tended still s t where
  worked := worked
  sound := sound
  output := by rw [hr]
  heads := fun k g => by
    rcases HeadId.eq_or_other g h with rfl | rfl
    · exact hh k
    · rw [ho]
      exact .refl

/-- One head has moved, and nothing that its laws read. -/
theorem Tended.oneHeadStands (worked : Worked s t) (sound : Sound s t) (hr : t.ring = s.ring)
    (ho : t.head h.other = s.head h.other) (hh : (t.head h).toolKey = (s.head h).toolKey) : Tended still s t :=
  .oneHead worked sound hr ho fun _ => .ofKey hh

theorem Tended.modHead {f : Head → Head} (worked : Worked s (s.modHead h f)) (sound : Sound s (s.modHead h f))
    (hh : HeadsOk s → (s.head h).Tends still (s.prevDemand h) (f (s.head h))) : Tended still s (s.modHead h f) :=
  .oneHead (h := h) worked sound (by simp) (by simp) fun k => by simpa using hh k

theorem Tended.modHeadStands {f : Head → Head} (worked : Worked s (s.modHead h f)) (sound : Sound s (s.modHead h f))
    (hh : (f (s.head h)).toolKey = (s.head h).toolKey) : Tended still s (s.modHead h f) :=
  .modHead worked sound fun _ => .ofKey hh

theorem Tended.modReg {f : Regulator → Regulator}
    (hh : HeadsOk s → (s.head h).Tends still (s.prevDemand h) { s.head h with reg := f (s.head h).reg }) :
    Tended still s (s.modReg h f) := by
  refine .oneHead (h := h) (.modReg s h f) (.modReg s h f) ?_ ?_ fun k => ?_ <;> rw [State.modReg_eq]
  · simp
  · simp
  · rw [State.modHead_head]
    exact hh k

theorem Tended.modProgress {f : Progress → Progress}
    (hs : (f (s.head h).seq.progress).starved = (s.head h).seq.progress.starved)
    (h0 : (f (s.head h).seq.progress).v0 = (s.head h).seq.progress.v0)
    (h1 : (f (s.head h).seq.progress).v1 = (s.head h).seq.progress.v1) : Tended still s (s.modProgress h f) := by
  refine .oneHeadStands (h := h) (.modProgress s h f) (.modProgress s h f) ?_ ?_ ?_ <;> rw [State.modProgress_eq]
  · simp
  · simp
  · rw [State.modHead_head]
    simp only [Head.toolKey, hs, h0, h1]

end

/-! ## Events, faults and guards -/

section
variable {still : Prop} (s : State)

theorem State.raise_tended (k : EventKind) (d : Nat) : Tended still s (s.raise k d) :=
  .headsStand (s.raise_worked k d) (s.raise_sound k d) (by simp) fun h => by rw [State.raise_head]

theorem State.faultOf_tended (k : FaultKind) (o : Owner) (v : Int) : Tended still s (s.faultOf k o v) :=
  .headsStand (s.faultOf_worked k o v) (s.faultOf_sound k o v) (by simp [State.faultOf]) fun h => by
    rw [State.faultOf, State.takeFault_head]

theorem State.takeFault_tended (k : FaultKind) (o : Option HeadId) (station v : Int) :
    Tended still s (s.takeFault k o station v) :=
  .headsStand (s.takeFault_worked k o station v) (s.takeFault_sound k o station v) (by simp) fun h => by
    rw [State.takeFault_head]

theorem State.disarmGuards_tended : Tended still s s.disarmGuards :=
  .headsStand s.disarmGuards_worked s.disarmGuards_sound rfl fun _ => rfl

theorem State.judgeGuards_tended : Tended still s s.judgeGuards :=
  .headsStand s.judgeGuards_worked s.judgeGuards_sound rfl fun _ => rfl

theorem State.setFired_tended (c : Cause) : Tended still s (s.setFired c) := by
  have ring : (s.setFired c).ring = s.ring := by
    unfold State.setFired
    split <;> simp
  refine .headsStand (s.setFired_worked c) (s.setFired_sound c) (by rw [ring]) fun g => ?_
  unfold State.setFired
  split
  case h_1 h _ | h_2 h _ | h_3 h _ | h_4 h _ =>
    rcases HeadId.eq_or_other g h with rfl | rfl
    · rw [State.modFired_eq, State.modHead_head]
      rfl
    · rw [State.modFired_eq, State.modHead_other]
  all_goals rfl

theorem State.dropFired_tended : Tended still s s.dropFired := by
  have ring : s.dropFired.ring = s.ring := by
    unfold State.dropFired State.dropHeadFired
    dsimp only
    split <;> rfl
  refine .headsStand s.dropFired_worked s.dropFired_sound (by rw [ring]) fun h => ?_
  unfold State.dropFired State.dropHeadFired
  dsimp only
  split <;> cases h <;> rfl

theorem State.handCaps_tended (accepted : Bool) : Tended still s (s.handCaps accepted) := by
  refine .headsStand (s.handCaps_worked accepted) (s.handCaps_sound accepted) ?_ fun h => ?_
  all_goals
    unfold State.handCaps
    split
  · rfl
  · rfl
  · cases h <;> rfl
  · rfl

/-! ## Leaving the pass -/

theorem State.stopHead_tended (h : HeadId) : Tended still s (s.stopHead h) := by
  refine .oneHead (h := h) (s.stopHead_worked h) (s.stopHead_sound h) (by simp) (by simp) fun _ => ?_
  rw [State.stopHead_head]
  exact .ofIdles rfl rfl

theorem State.testPassEnd_toolKey (h : HeadId) : (s.testPassEnd.head h).toolKey = (s.head h).toolKey := by
  simp only [Head.toolKey, State.testPassEnd_seq, State.testPassEnd_reg, s.testPassEnd_worked.profile]

theorem State.testPassEnd_tended : Tended still s s.testPassEnd :=
  .headsStand s.testPassEnd_worked s.testPassEnd_sound (by simp) s.testPassEnd_toolKey

/-! ## Orders -/

theorem State.holdOrder_tended (c : HoldCause) : Tended still s (s.holdOrder c) := by
  obtain ⟨frame, -⟩ := s.holdOrder_frame c
  refine .headsStand (s.holdOrder_worked c) (s.holdOrder_sound c) ?_ fun h => ?_ <;> rw [frame]
  rfl

theorem Head.exitsInBounds_inPlace {x : Head} {rate : Int} (hr : 0 ≤ rate)
    (he : x.reg.exitRecord = some (inPlaceExit rate)) : x.ExitsInBounds := by
  intro e h
  obtain rfl := Option.some.inj (he.symm.trans h)
  exact ⟨hr, le_rfl, fun d hd => nomatch hd⟩

theorem Head.exitsInBounds_runOut {x : Head} {rate runOut station prev : Int} (hr : 0 ≤ rate) (ho : 0 ≤ runOut)
    (hp : x.profile.depth.clear ≤ prev)
    (he : x.reg.exitRecord = some ⟨.runOut, rate, runOut, some station, some prev⟩) : x.ExitsInBounds := by
  intro e h
  obtain rfl := Option.some.inj (he.symm.trans h)
  exact ⟨hr, ho, fun d hd => Option.some.inj hd ▸ hp⟩

/-- The exit that a stop order brings about works toward what lies in bounds (R20, R85, R87). -/
theorem State.exitOrder_tends (h : HeadId) (k : ExitKind) (p : ProfileInRange (s.head h).profile) :
    (s.head h).Tends still (s.prevDemand h) ((s.exitOrder h k).head h) := by
  by_cases hn : (s.head h).seq.state.working = false ∨ (s.head h).seq.state = .withdraw ∨ (s.head h).seq.order ≠ .none
  · rw [State.exitOrder_refused k hn]
    exact .refl
  simp only [not_or, Bool.not_eq_false, not_not] at hn
  obtain ⟨hw, hnw, ho⟩ := hn
  have rate : 0 ≤ (s.head h).profile.depth.retractRate := by
    obtain ⟨⟨-, -, -, -, -, -, -, -, low, -⟩, -⟩ := p
    omega
  have faultRunOut : 0 ≤ (s.head h).profile.limits.faultRunOut := by
    obtain ⟨-, -, ⟨-, -, -, -, -, -, -, -, -, -, low, -⟩, -⟩ := p
    exact low
  have stops (e : (s.head h).seq.state = .waiting ∨ (s.head h).seq.state = .spinup) :
      (s.head h).Tends still (s.prevDemand h) ((s.exitOrder h k).head h) := by
    rw [State.exitOrder_stops k e ho, State.stopHead_head, State.modHead_head]
    exact .ofIdles rfl rfl
  have retracts (e : (s.head h).seq.state = .plunge ∨ (s.head h).seq.state = .dwell) :
      (s.head h).Tends still (s.prevDemand h) ((s.exitOrder h k).head h) := by
    rw [State.exitOrder_retracts k e ho, State.modHead_head]
    have parked : (s.head h).seq.state.parked = false := by rcases e with e | e <;> rw [e] <;> rfl
    exact .toExit parked rfl rfl rfl (fun _ t => (t.lowered parked).rpm)
      fun _ => Head.exitsInBounds_inPlace rate rfl
  have carriesOn (e : (s.head h).seq.state = .exit ∨ (s.head h).seq.state = .spindown) :
      (s.head h).Tends still (s.prevDemand h) ((s.exitOrder h k).head h) := by
    rw [State.exitOrder_carriesOn k e ho, State.modHead_head]
    exact .ofKey rfl
  cases e : (s.head h).seq.state <;> simp only [e, HeadState.working, Bool.false_eq_true, not_true] at hw hnw
  case waiting => exact stops (.inl e)
  case spinup => exact stops (.inr e)
  case plunge => exact retracts (.inl e)
  case dwell => exact retracts (.inr e)
  case traverse =>
    rw [State.exitOrder_leavesTraverse k e ho, State.modHead_head]
    have carries : ∀ sets, (s.head h).Tooled sets (s.prevDemand h) → 100 ≤ (s.head h).reg.segment.rpm :=
      fun _ t => ((Head.tooled_traverse e).1 t).2.1
    have parked : (s.head h).seq.state.parked = false := by rw [e]; rfl
    cases k with
    | inPlace => exact .toExit parked rfl rfl rfl carries fun _ => Head.exitsInBounds_inPlace rate rfl
    | runOut =>
      exact .toExit parked rfl rfl rfl carries fun l =>
        Head.exitsInBounds_runOut rate faultRunOut (show _ ≤ s.prevDemand h from l.before.1) rfl
  case exit => exact carriesOn (.inl e)
  case spindown => exact carriesOn (.inr e)

theorem HeadAndGuards.ring {s t : State} {h : HeadId} (a : HeadAndGuards s t h) : t.ring = s.ring := by rw [a.frame]

theorem State.exitOrder_tended (h : HeadId) (k : ExitKind) : Tended still s (s.exitOrder h k) :=
  .oneHead (s.exitOrder_worked h k) (s.exitOrder_sound h k) (s.exitOrder_frame h k).ring (s.exitOrder_frame h k).other
    fun ⟨_, _, ⟨_, p, _⟩, _⟩ => s.exitOrder_tends h k (p h)

theorem State.carryExit_tended (h : HeadId) : Tended still s (s.carryExit h) :=
  .ite (fun _ => s.exitOrder_tended ..) (.refl still s)

theorem State.exitAndCarry_tended (h : HeadId) (k : ExitKind) : Tended still s (s.exitAndCarry h k) :=
  .ite (fun _ => (s.exitOrder_tended ..).trans (State.carryExit_tended ..)) (.refl still s)

theorem State.exitEach_tended : Tended still s s.exitEach :=
  .ite (fun _ => (Tended.foldl (fun s h => State.exitOrder_tended s h _) _ s).trans
    (Tended.foldl (fun s h => State.carryExit_tended s h) _ _)) (.refl still s)

theorem State.quickStop_tended : Tended still s s.quickStop :=
  .headsStand s.quickStop_worked s.quickStop_sound (by rw [State.quickStop_eq]) fun h => by rw [State.quickStop_head]

/-- A HALT takes a head out of the seam with its spindle turning, or stops it (R22, R90). -/
theorem Head.halted_tends {x : Head} {prev : Int} : x.Tends still prev x.halted := by
  unfold Head.halted
  split
  · exact .refl
  split
  next inSeam =>
    have parked : x.seq.state.parked = false := by
      cases e : x.seq.state <;> simp only [Head.inSeam, e, Bool.false_eq_true] at inSeam <;> rfl
    refine fun sets _ _ t => ⟨(Head.tooled_withdraw (x := x.withdrawn) rfl).2 ⟨?_, fun h => nomatch h⟩, fun _ => rfl⟩
    refine (t.lowered parked).kept rfl rfl ?_
    simp only [Head.withdrawn]
    split
    next e => exact ((Head.tooled_traverse e).1 t).2.1
    next => exact (t.lowered parked).rpm
  next =>
    split
    · exact .ofIdles rfl rfl
    · exact .ofKey rfl

theorem State.haltHead_tended (h : HeadId) : Tended still s (s.haltHead h) :=
  .oneHead (s.haltHead_worked h) (s.haltHead_sound h) (s.haltHead_frame h).ring (s.haltHead_frame h).other fun _ => by
    rw [State.haltHead_head]
    exact Head.halted_tends

theorem State.headHalt_tended (h : HeadId) : Tended still s (s.headHalt h) := by
  refine .ite (fun _ => ?_) (.refl still s)
  have a : Tended still s (s.quickStop.haltHead h) := s.quickStop_tended.trans (State.haltHead_tended _ h)
  dsimp only
  split
  · exact a.trans (.ite (fun _ => State.haltHead_tended ..) (.refl ..))
  · exact a.trans (.ite (fun _ => State.holdOrder_tended ..) (.refl ..))

theorem State.haltAll_tended : Tended still s s.haltAll :=
  .ite (fun _ => s.quickStop_tended.trans (Tended.foldl (fun s h => s.haltHead_tended h) _ _)) (.refl still s)

theorem State.guardOrder_tended (g : GuardRecord) (v : Int) : Tended still s (s.guardOrder g v) := by
  unfold State.guardOrder
  split
  · exact .refl still s
  · exact .refl still s
  · exact s.holdOrder_tended _
  · exact (s.faultOf_tended ..).trans (State.exitAndCarry_tended ..)
  · exact (s.faultOf_tended ..).trans (State.exitEach_tended _)
  · exact (s.faultOf_tended ..).trans (State.headHalt_tended ..)
  · exact (s.faultOf_tended ..).trans (State.haltAll_tended _)

theorem State.takeGuardTrip_tended (i : Nat) (v : Int) : Tended still s (s.takeGuardTrip i v) := by
  unfold State.takeGuardTrip
  split
  · exact (s.raise_tended ..).trans (State.guardOrder_tended ..)
  · exact .refl still s

theorem State.takeCause_tended (c : Cause) : Tended still s (s.takeCause c) := by
  have a : Tended still s (s.setFired c) := s.setFired_tended c
  unfold State.takeCause
  cases c <;> refine a.trans ?_
  case guard => exact State.takeGuardTrip_tended ..
  case headStale => exact (State.faultOf_tended ..).trans (State.headHalt_tended ..)
  case saturation | holdLimit | spinupTimeout | startMissed | noContact =>
    exact (State.faultOf_tended ..).trans (State.exitAndCarry_tended ..)
  all_goals exact (State.faultOf_tended ..).trans (State.haltAll_tended _)

theorem State.takeCauses_tended (cs : List Cause) : Tended still s (s.takeCauses cs) :=
  (Tended.foldl State.takeCause_tended _ s).trans (State.testPassEnd_tended _)

/-! ## Arrival, PASS ABORT and the planner -/

theorem State.stopEvery_tended : Tended still s s.stopEvery :=
  (Tended.foldl (fun s h => s.stopHead_tended h) _ s).trans (State.testPassEnd_tended _)

theorem State.toRunning_tended (h : s.pass.state = .approach) : Tended still s s.toRunning :=
  .headsStand (s.toRunning_worked (by rw [State.active, h]; rfl)) (s.toRunning_sound h) rfl fun _ => rfl

theorem State.arrival_tended : Tended still s s.arrival :=
  .ite (fun hd => .ite (fun _ => (s.faultOf_tended ..).trans (State.stopEvery_tended _))
    (.ite (fun _ => (s.takeFault_tended ..).trans (State.stopEvery_tended _))
      (.ite (fun _ => (s.takeFault_tended ..).trans (State.stopEvery_tended _))
        (s.toRunning_tended (State.arrivalDue_state hd))))) (.refl still s)

theorem State.abortPass_tended : Tended still s s.abortPass :=
  (Tended.foldl (fun s h => s.exitOrder_tended h _) _ s).trans (State.testPassEnd_tended _)

theorem State.openSet_tended (accepted loss : Bool) : Tended still s (s.openSet accepted loss) :=
  (s.takeCauses_tended _).trans (State.arrival_tended _)

theorem State.markEdge_tended : Tended still s s.markEdge := by
  by_cases due : s.markEdgeDue = true
  · refine .headsStand s.markEdge_worked s.markEdge_sound ?_ fun h => ?_ <;> rw [State.markEdge_of_due due]
    · rw [State.raise_ring]
    · rw [State.raise_head]
      cases h <;> rfl
  · rw [State.markEdge_of_not due]
    exact .refl still s

theorem State.beginPlanner_tended (accepted : Bool) : Tended still s (s.beginPlanner accepted) :=
  .headsStand (s.beginPlanner_worked accepted) (s.beginPlanner_sound accepted) (by rw [State.beginPlanner_frame])
    fun h => by rw [State.beginPlanner_head]; rfl

end

end Sys2Proof.Machine
end

section
/-! SUPPORT. The head sequencer under the laws of the tool: records that become executing, run
through the queue and end. -/

namespace Sys2Proof.Safety

open Sys2Proof.Machine

section
variable {s : State}

/-- The records that a head has in its queue lie in their ranges. -/
theorem HeadsOk.inRange {h : HeadId} (k : HeadsOk s) {l : List Segment} (hq : (s.head h).seq.queue = l) :
    ∀ g ∈ l, SegmentInRange 25000 g := by
  obtain ⟨-, -, ⟨-, -, -, segments⟩, -⟩ := k
  exact hq ▸ segments h

theorem HeadsOk.profile (k : HeadsOk s) (h : HeadId) : ProfileInRange (s.head h).profile := by
  obtain ⟨-, -, ⟨-, profiles, -⟩, -⟩ := k
  exact profiles h

end

end Sys2Proof.Safety

namespace Sys2Proof.Machine

open Sys2Proof.Safety

/-! ## A record becomes executing -/

section
variable {s : State} {h : HeadId} {r : Segment} {behind : List Segment} {e : Int} {still : Prop}

/-- A lowered head that takes a record behind another keeps the laws, its demand and the values of its last set (R16,
R34, R35, R40, R42). -/
theorem State.startRecord_lowered (hx : (s.head h).seq.executing = true) (hq : (s.head h).seq.queue = r :: behind)
    (range : SegmentInRange 25000 r) (kind : r.kind ≠ .start) (p : ProfileInRange (s.head h).profile)
    (l : (s.head h).Lowered (s.prevDemand h)) (values : 100 ≤ (s.head h).reg.segment.rpm) :
    (∀ sets, ((s.startRecord h e).head h).Tooled sets (s.prevDemand h)) ∧
      ((s.startRecord h e).head h).reg.demand = (s.head h).reg.demand ∧
      ((s.startRecord h e).head h).reg.segment = (s.head h).reg.segment := by
  cases r with
  | start => exact absurd rfl kind
  | dwell ms force =>
    rw [State.startRecord_dwell hx hq rfl, State.raiseQueueLow_head, State.modSeq_head]
    exact ⟨fun _ => (Head.tooled_dwell rfl).2 ⟨l.kept rfl rfl l.rpm, values⟩, rfl, rfl⟩
  | traverse reps length force speed rpm depth =>
    obtain ⟨-, -, hl, -, -, -, -, -, -, rpmLow, -⟩ := range
    by_cases short : e + reps * length ≤ (s.head h).seq.station
    · rw [State.startRecord_short hx hq short, State.raiseQueueLow_head, State.raise_head, State.modSeq_head]
      exact ⟨fun _ => (Head.tooled_traverse rfl).2 ⟨l.kept rfl rfl rpmLow, values, l.rpm, rpmLow⟩, rfl, rfl⟩
    · rw [State.startRecord_traverse hx hq (by omega) (not_le.1 short), State.raiseQueueLow_head, State.modSeq_head]
      refine ⟨fun _ => (Head.tooled_traverse rfl).2 ⟨l.kept rfl rfl ?_, values, l.rpm, rpmLow⟩, rfl, rfl⟩
      dsimp only
      split
      · exact rpmLow
      · exact l.rpm
  | exit last exitKind rate runOut =>
    obtain ⟨⟨-, -, -, -, -, -, -, -, retract, -⟩, -⟩ := p
    obtain ⟨rateLow, -, runOutLow, -⟩ := range
    have rateInUse : 0 ≤ if rate = 0 then (s.head h).profile.depth.retractRate else rate := by split <;> omega
    rw [State.startRecord_exit hx hq, State.raiseQueueLow_head, State.modHead_head]
    refine ⟨fun _ => (Head.tooled_exit rfl).2 ⟨l.kept rfl rfl l.rpm, ?_⟩, rfl, rfl⟩
    by_cases runs : exitKind = .runOut ∧ (s.head h).seq.carried.speed ≠ 0
    · exact Head.exitsInBounds_runOut (station := (s.head h).seq.station) rateInUse runOutLow l.before.1
        (by simp only [Head.exitRecordOf, if_pos runs])
    · exact Head.exitsInBounds_inPlace rateInUse (by simp only [Head.exitRecordOf, if_neg runs])

/-- A START that a waiting head takes carries a depth and an rpm of its ranges (R35, R46). -/
theorem State.startRecord_waiting (hs : (s.head h).seq.state = .waiting) (hq : (s.head h).seq.queue = r :: behind)
    (range : SegmentInRange 25000 r) (kind : r.kind = .start) (p : ProfileInRange (s.head h).profile) :
    (s.head h).Tends still (s.prevDemand h) ((s.startRecord h e).head h) := by
  obtain ⟨station, rpm, force, depth, rfl⟩ : ∃ station rpm force depth, r = .start station rpm force depth := by
    cases r with
    | start station rpm force depth => exact ⟨station, rpm, force, depth, rfl⟩
    | _ => cases kind
  obtain ⟨-, -, rpmLow, -, -, -, depthLow, -⟩ := range
  obtain ⟨⟨-, -, dMaxLow, -⟩, -⟩ := p
  rw [State.startRecord_start e hq]
  let y : Head := { s.head h with seq := (s.head h).startsStart station rpm force depth }
  exact fun _ _ _ _ =>
    ⟨(Head.tooled_waiting (x := y) hs).2 fun _ => ⟨rpmLow, le_min depthLow dMaxLow, rfl⟩, fun _ => rfl⟩

/-! ## The run through the queue -/

theorem HeadState.parked_of_runs {st : HeadState} (h : st.runs = true) : st.parked = false := by
  cases st <;> simp only [HeadState.runs, Bool.false_eq_true] at h <;> rfl

theorem State.handOver_worked (s : State) (h : HeadId) : Worked s (s.handOver h) :=
  (s.completeRecord_worked h).trans (State.startRecord_worked ..)

theorem State.handOver_oneHead (s : State) (h : HeadId) : OneHead s (s.handOver h) h :=
  (s.completeRecord_oneHead h).trans (State.startRecord_oneHead ..)

/-- A lowered head that hands over to the next record keeps the laws, its demand and the values of its last set. -/
theorem State.handOver_lowered {next : Segment} (k : HeadsOk s) (hr : (s.headState h).runs = true)
    (hn : (s.head h).seq.successor = some next) (l : (s.head h).Lowered (s.prevDemand h))
    (values : 100 ≤ (s.head h).reg.segment.rpm) :
    (∀ sets, ((s.handOver h).head h).Tooled sets (s.prevDemand h)) ∧
      ((s.handOver h).head h).reg.demand = (s.head h).reg.demand ∧
      ((s.handOver h).head h).reg.segment = (s.head h).reg.segment := by
  obtain ⟨r, rest, hq, -⟩ := State.handOver_core (s.head h).seq.endStation hn
  obtain ⟨r', rest', hq', noExit, executing⟩ := (k.agree.seqs h).of_runs hr
  obtain ⟨rfl, rfl⟩ := List.cons.inj (hq.symm.trans hq')
  obtain ⟨hx, -⟩ := Sequencer.queue_of_executing executing
  have ordered := (k.agree.seqs h).1
  rw [hq] at ordered
  have kind := mayFollow_start ordered.2.1 noExit
  have head := State.completeRecord_head hq
  have prev : (s.completeRecord h).prevDemand h = s.prevDemand h :=
    State.prevDemand_congr (s.completeRecord_oneHead h).ring h
  have laws := State.startRecord_lowered (s := s.completeRecord h) (e := (s.head h).seq.endStation)
    (by rw [head]; exact hx) (by rw [head]) (k.inRange hq next (by simp)) kind
    (by rw [head]; exact k.profile h) (by rw [head, prev]; exact l.kept rfl rfl l.rpm) (by rw [head]; exact values)
  rw [prev, head] at laws
  exact laws

/-- A running head that starves or no longer does (R45). -/
def Head.starving (x : Head) (starved : Bool) : Head :=
  { x with seq := { x.seq with progress := { x.seq.progress with starved := starved } } }

/-- A running head may starve once its last set has turned its spindle, and end its starvation (R45). -/
theorem Head.Tooled.starving {x : Head} {sets : Nat} {prev : Int} {starved : Bool} (t : x.Tooled sets prev)
    (hs : x.seq.state.runs = true) (values : starved = true → 100 ≤ x.reg.segment.rpm) :
    (x.starving starved).Tooled sets prev := by
  have lowered := t.lowered (HeadState.parked_of_runs hs)
  have l : (x.starving starved).Lowered prev := lowered.kept rfl rfl lowered.rpm
  cases e : x.seq.state <;> simp only [e, HeadState.runs, Bool.false_eq_true] at hs
  case plunge =>
    obtain ⟨-, depth, seated⟩ := (Head.tooled_plunge e).1 t
    exact (Head.tooled_plunge (x := x.starving starved) e).2
      ⟨l, depth, fun h => h.elim (fun h => seated (.inl h)) values⟩
  case dwell => exact (Head.tooled_dwell (x := x.starving starved) e).2 ⟨l, ((Head.tooled_dwell e).1 t).2⟩
  case traverse => exact (Head.tooled_traverse (x := x.starving starved) e).2 ⟨l, ((Head.tooled_traverse e).1 t).2⟩

theorem State.starve_head (s : State) (h : HeadId) : (s.starve h).head h = (s.head h).starving true := by
  rw [State.starve, State.raise_head, State.modProgress_eq, State.modHead_head]
  rfl

/-- A run through the queue keeps the laws of a head whose last set turned its spindle (R37, R43, R45). -/
theorem finishRecord_tooled (n : Nat) (sets : Nat) (k : HeadsOk s) (hr : (s.headState h).runs = true)
    (values : 100 ≤ (s.head h).reg.segment.rpm) (t : (s.head h).Tooled sets (s.prevDemand h)) :
    ((finishRecord n h s).head h).Tooled sets (s.prevDemand h) ∧
      ((finishRecord n h s).head h).reg.demand = (s.head h).reg.demand := by
  have lowered : ∀ v : State, (v.headState h).runs = true → (v.head h).Tooled sets (v.prevDemand h) →
      (v.head h).Lowered (v.prevDemand h) := fun v e t => t.lowered (HeadState.parked_of_runs e)
  induction n generalizing s with
  | zero => exact ⟨t, rfl⟩
  | succ n ih =>
    unfold finishRecord
    split
    · rw [State.starve_head]
      exact ⟨t.starving hr fun _ => values, rfl⟩
    next next hn =>
      split
      · exact ⟨t, rfl⟩
      obtain ⟨laws, demand, segment⟩ := State.handOver_lowered k hr hn (lowered s hr t) values
      have prev : (s.handOver h).prevDemand h = s.prevDemand h := State.prevDemand_congr (s.handOver_oneHead h).ring h
      change ((if ((s.handOver h).head h).seq.progress.endReached = true then finishRecord n h (s.handOver h)
        else s.handOver h).head h).Tooled sets _ ∧ ((if ((s.handOver h).head h).seq.progress.endReached = true then
          finishRecord n h (s.handOver h) else s.handOver h).head h).reg.demand = _
      split
      next he =>
        have later := ih (k.moved (s.handOver_worked h) (State.handOver_sound _ hr hn)) (State.handOver_runs _ hr hn he)
          (segment ▸ values) (prev ▸ laws sets)
        rw [prev, demand] at later
        exact later
      next => exact ⟨laws sets, demand⟩

theorem State.starve_oneHead (s : State) (h : HeadId) : OneHead s (s.starve h) h := by
  unfold State.starve State.modProgress
  exact (OneHead.modSeq s h _).trans (.raise ..)

theorem finishRecord_oneHead (n : Nat) (h : HeadId) (s : State) : OneHead s (finishRecord n h s) h := by
  induction n generalizing s with
  | zero => exact .refl s h
  | succ n ih =>
    unfold finishRecord
    split
    · exact s.starve_oneHead h
    · exact .ite (.refl s h) (.ite ((s.handOver_oneHead h).trans (ih _)) (s.handOver_oneHead h))

/-- The records run on behind an update of their progress alone, in a head whose last set turned its spindle. -/
theorem State.finishExecuting_tended (hr : (s.headState h).runs = true)
    (values : HeadsOk s → ∀ sets, (s.head h).Tooled sets (s.prevDemand h) → 100 ≤ (s.head h).reg.segment.rpm) :
    Tended still s (s.finishExecuting h) :=
  .oneHead (s.finishExecuting_worked h) (s.finishExecuting_sound h hr) (finishRecord_oneHead _ h s).ring
    (finishRecord_oneHead _ h s).other fun k sets _ _ t => by
      obtain ⟨laws, demand⟩ := finishRecord_tooled ((s.head h).seq.queue.length + 1) sets k hr (values k sets t) t
      exact ⟨laws, fun _ => demand⟩

/-- In DWELL and TRAVERSE the last set has turned the spindle. -/
theorem Head.Tooled.values {x : Head} {sets : Nat} {prev : Int} (t : x.Tooled sets prev)
    (hs : x.seq.state = .dwell ∨ x.seq.state = .traverse) : 100 ≤ x.reg.segment.rpm := by
  rcases hs with e | e
  · exact ((Head.tooled_dwell e).1 t).2
  · exact ((Head.tooled_traverse e).1 t).2.1

end

/-! ## The events of the records -/

section
variable {still : Prop} (s : State) (h : HeadId)

theorem State.starve_tended (hs : s.headState h = .dwell ∨ s.headState h = .traverse) :
    Tended still s (s.starve h) := by
  refine .oneHead (s.starve_worked h) (s.starve_sound h) (s.starve_oneHead h).ring (s.starve_oneHead h).other
    fun _ sets _ _ t => ?_
  rw [State.starve_head]
  have runs : (s.headState h).runs = true := by rcases hs with e | e <;> rw [e] <;> rfl
  exact ⟨t.starving runs fun _ => t.values hs, fun _ => rfl⟩

theorem State.dwellEnd_tended : Tended still s (s.dwellEnd h) := by
  refine .ite (fun hd => ?_) (.refl still s)
  have state := State.dwellEndDue_state hd
  refine (Tended.modProgress rfl rfl rfl).trans (State.finishExecuting_tended ?_ fun _ sets t => t.values (.inl ?_))
  · rw [State.modProgress, State.modSeq_headState]
    exact congrArg HeadState.runs state
  · rw [State.modProgress_eq, State.modHead_head]
    exact state

/-- A head that has ended `n` repetitions of its TRAVERSE (R40). -/
def Head.repeated (x : Head) (n : Nat) (ended : Bool) : Head :=
  { x with seq := { x.seq with
    carried := x.seq.progress.v1, progress := { x.seq.progress with repsDone := n, endReached := ended } } }

theorem State.countRepetition_head : (s.countRepetition h).head h = s.head h ∨
    ∃ n ended, (s.countRepetition h).head h = (s.head h).repeated n ended := by
  rw [State.countRepetition, State.modSeq_head]
  dsimp only
  split
  · exact .inr ⟨_, _, rfl⟩
  · exact .inl rfl

/-- A repetition that ends makes the carried set the values at its end, which turn the spindle (R40). -/
theorem State.countRepetition_tended (hs : s.headState h = .traverse) : Tended still s (s.countRepetition h) := by
  have one : OneHead s (s.countRepetition h) h := .modSeq s h _
  refine .oneHead (s.countRepetition_worked h) (s.countRepetition_sound h) one.ring one.other fun _ => ?_
  rcases s.countRepetition_head h with e | ⟨n, ended, e⟩ <;> rw [e]
  · exact .refl
  · refine fun sets _ _ t => ⟨?_, fun _ => rfl⟩
    obtain ⟨l, values, v0, v1⟩ := (Head.tooled_traverse hs).1 t
    exact (Head.tooled_traverse (x := (s.head h).repeated n ended) hs).2 ⟨l.kept rfl rfl v1, values, v0, v1⟩

theorem repetitionLoop_tended (n : Nat) (hs : s.headState h = .traverse) : Tended still s (repetitionLoop n h s) := by
  induction n generalizing s with
  | zero => exact .refl still s
  | succ n ih =>
    exact .ite (fun _ => (s.countRepetition_tended h hs).trans (ih _ ((s.countRepetition_state h).trans hs)))
      (.refl still s)

theorem State.countRepetitions_tended (hs : s.headState h = .traverse) : Tended still s (s.countRepetitions h) := by
  unfold State.countRepetitions
  split
  · exact repetitionLoop_tended s h _ hs
  · exact .refl still s

theorem State.finishTraverse_tended (hs : s.headState h = .traverse) : Tended still s (s.finishExecuting h) :=
  State.finishExecuting_tended (by rw [hs]; rfl) fun _ _ t => t.values (.inr hs)

theorem State.repetitionEnd_tended : Tended still s (s.repetitionEnd h) := by
  refine .ite (fun hd => ?_) (.refl still s)
  have state := State.repetitionEndDue_state hd
  exact (s.countRepetition_tended h state).trans
    (.ite (fun _ => State.finishTraverse_tended _ h ((s.countRepetition_state h).trans state)) (.refl still _))

theorem State.completeAtRest_tended : Tended still s (s.completeAtRest h) :=
  .ite (fun hd => s.finishTraverse_tended h (State.atRestDue_state hd)) (.refl still s)

/-- A starved head that is lowered has turned its spindle on its last set (R45). -/
theorem Head.Tooled.starved {x : Head} {sets : Nat} {prev : Int} (t : x.Tooled sets prev)
    (hs : x.seq.state.runs = true) (starved : x.seq.progress.starved = true) : 100 ≤ x.reg.segment.rpm := by
  cases e : x.seq.state <;> simp only [e, HeadState.runs, Bool.false_eq_true] at hs
  case plunge =>
    obtain ⟨-, -, values⟩ := (Head.tooled_plunge e).1 t
    exact values (.inr starved)
  case dwell => exact t.values (.inl e)
  case traverse => exact t.values (.inr e)

theorem State.starvationEnd_tended : Tended still s (s.starvationEnd h) := by
  by_cases hd : s.starvationEndDue h = true
  · have runs := State.starvationEndDue_runs hd
    have starved : (s.head h).seq.progress.starved = true := by
      simp only [State.starvationEndDue, Bool.and_eq_true] at hd
      exact hd.1.2
    let u := s.modHead h fun x => x.starving false
    have ended : s.starvationEnd h = u.finishExecuting h := if_pos hd
    have head : u.head h = (s.head h).starving false := State.modHead_head ..
    have runs' : (u.headState h).runs = true := by rw [State.headState, head]; exact runs
    have one : OneHead s (s.starvationEnd h) h :=
      ended ▸ (OneHead.modHead s h _).trans (finishRecord_oneHead _ h u)
    have ok : HeadsOk s → HeadsOk u := HeadsOk.moved (Worked.modHead s h _ rfl rfl (.refl ..)) (Sound.still s h _ rfl)
    refine .oneHead (s.starvationEnd_worked h) (s.starvationEnd_sound h) one.ring one.other fun k sets _ _ t => ?_
    have finished := finishRecord_tooled (s := u) ((u.head h).seq.queue.length + 1) sets (ok k) runs'
      (by rw [head]; exact t.starved runs starved)
      (by rw [head, State.modHead_prevDemand]; exact t.starving runs fun h => nomatch h)
    rw [State.modHead_prevDemand, head] at finished
    rw [ended, State.finishExecuting, head]
    exact ⟨finished.1, fun _ => finished.2⟩
  · rw [State.starvationEnd, if_neg hd]
    exact .refl still s

theorem State.takeAppendedStart_tended : Tended still s (s.takeAppendedStart h) := by
  by_cases hd : s.appendedStartDue h = true
  · have ended : s.takeAppendedStart h = s.startRecord h 0 := if_pos hd
    have one : OneHead s (s.takeAppendedStart h) h := ended ▸ s.startRecord_oneHead h 0
    refine .oneHead (s.takeAppendedStart_worked h) (s.takeAppendedStart_sound h) one.ring one.other fun k => ?_
    rw [ended]
    unfold State.appendedStartDue at hd
    dsimp only at hd
    split at hd
    next hq =>
      obtain ⟨rest, hq⟩ := List.head?_eq_some_iff.1 hq
      simp only [Bool.and_eq_true, decide_eq_true_eq] at hd
      exact State.startRecord_waiting hd.1 hq (k.inRange hq _ List.mem_cons_self) rfl (k.profile h)
    next => cases hd
  · rw [State.takeAppendedStart, if_neg hd]
    exact .refl still s

/-! ## Spin-up and spin-down -/

/-- A spin-up begins with the START that the head waited for, and no set at speed (R14, R15). -/
theorem State.startSpinup_tended : Tended still s (s.startSpinup h) := by
  by_cases hd : s.spinupStartDue h = true
  · obtain ⟨waiting, -, plunge⟩ := State.spinupStartDue_spec hd
    obtain ⟨x, plunge⟩ := Option.isSome_iff_exists.1 plunge
    obtain ⟨_, _, _, _, executing, -⟩ := State.plungeX_eq_some plunge
    obtain ⟨hx, -⟩ := Sequencer.queue_of_executing executing
    have started : s.startSpinup h = s.modHead h fun x => { x with
        seq := { x.seq with state := .spinup, atSpeedCount := 0, spinupTimer := 0 }, reg := x.reg.cleared
        trim := { x.trim with spindle := x.seq.carried.rpm } } := by
      rw [State.startSpinup, if_pos hd]
      simp only [State.park, State.modSeq_eq, State.modHead_modHead]
    refine .oneHead (h := h) (s.startSpinup_worked h) (s.startSpinup_sound h) (by rw [started]; simp)
      (by rw [started]; simp) fun _ sets low _ t => ?_
    rw [started, State.modHead_head]
    exact ⟨(Head.tooled_spinup rfl).2 ⟨(Head.tooled_waiting waiting).1 t hx, rfl, fun few =>
      absurd (low.trans few) (by simp)⟩, fun _ => rfl⟩
  · rw [State.startSpinup, if_neg hd]
    exact .refl still s

/-- A head that enters PLUNGE with its at-speed counter and timer as they stand then (R15, R81). -/
def Head.plunging (x : Head) (count timer : Nat) : Head :=
  { x with
    seq := { x.seq with state := .plunge, atSpeedCount := count, spinupTimer := timer }
    reg := { x.reg with plungePhase := .descent } }

/-- A head at speed has stood at the clear height, and enters PLUNGE there (R15, R71). -/
theorem Head.Tooled.plunges {x : Head} {sets n count timer : Nat} {prev : Int} (t : x.Tooled sets prev)
    (p : ProfileInRange x.profile) (hs : x.seq.state = .spinup) (many : sets ≤ x.seq.atSpeedCount) :
    (x.plunging count timer).Tooled n prev := by
  obtain ⟨⟨rpm, depth, fed⟩, noSeat, stands⟩ := (Head.tooled_spinup hs).1 t
  obtain ⟨before, clear⟩ := stands many
  have window : x.profile.depth.clear ≤ x.profile.depth.dMax := by
    obtain ⟨⟨-, -, low, -, -, high, -⟩, -⟩ := p
    omega
  have deep := Head.deepest_nonneg p
  have bounds : DepthInBounds x x.profile.depth.clear := ⟨le_rfl, window⟩
  have l : x.Lowered prev := ⟨before ▸ bounds, ⟨clear ▸ bounds, by omega⟩, rpm⟩
  refine (Head.tooled_plunge rfl).2 ⟨l.kept rfl rfl rpm, depth, fun h => ?_⟩
  rcases h with seated | starved
  · exact absurd (noSeat ▸ seated : 1 ≤ 0) (by decide)
  · cases fed.symm.trans starved

theorem State.atSpeed_tended : Tended still s (s.atSpeed h) := by
  by_cases hd : s.atSpeedDue h = true
  · have sped : s.atSpeed h = s.modHead h fun x => x.plunging x.seq.atSpeedCount x.seq.spinupTimer := if_pos hd
    simp only [State.atSpeedDue, Bool.and_eq_true, decide_eq_true_eq] at hd
    obtain ⟨spinup, count⟩ := hd
    refine .oneHead (h := h) (s.atSpeed_worked h) (s.atSpeed_sound h) (by rw [sped]; simp) (by rw [sped]; simp)
      fun k sets _ high t => ?_
    rw [sped, State.modHead_head]
    exact ⟨t.plunges (k.profile h) spinup (high.trans count), fun _ => rfl⟩
  · rw [State.atSpeed, if_neg hd]
    exact .refl still s

/-- Behind an EXIT that is not the last a head waits with the START behind it, or with none (R17, R28, R44, R46). -/
theorem State.waitAgain_tooled {s : State} {h : HeadId} {sets : Nat} {prev : Int}
    (hl : (s.head h).seq.lastKind = some .exit) (ho : Ordered (s.head h).seq.lastKind (s.head h).seq.queue)
    (segments : ∀ g ∈ (s.head h).seq.queue, SegmentInRange 25000 g) (p : ProfileInRange (s.head h).profile) :
    ((s.waitAgain h).head h).Tooled sets prev ∧ ((s.waitAgain h).head h).reg.demand = (s.head h).reg.demand := by
  rw [State.waitAgain_eq]
  cases hq : (s.head h).seq.queue with
  | nil =>
    simp only [List.isEmpty_nil, if_true, State.raise_head, State.modHead_head]
    exact ⟨(Head.tooled_waiting rfl).2 fun h => (nomatch h), rfl⟩
  | cons g rest =>
    rw [hq, hl] at ho
    rw [hq] at segments
    obtain ⟨station, rpm, force, depth, rfl⟩ : ∃ station rpm force depth, g = .start station rpm force depth := by
      have follows := ho.1
      cases g with
      | start station rpm force depth => exact ⟨station, rpm, force, depth, rfl⟩
      | _ => simp [Segment.kind, mayFollow] at follows
    obtain ⟨-, -, rpmLow, -, -, -, depthLow, -⟩ := segments _ List.mem_cons_self
    obtain ⟨⟨-, -, dMaxLow, -⟩, -⟩ := p
    simp only [List.isEmpty_cons, Bool.false_eq_true, if_false]
    rw [State.startRecord_start 0 (by rw [State.modHead_head]; exact hq), State.modHead_head]
    exact ⟨(Head.tooled_waiting rfl).2 fun _ => ⟨rpmLow, le_min depthLow dMaxLow, rfl⟩, rfl⟩

/-- A spin-down ends in STOPPED, FINISHED or WAITING, with the demand as it stands (R17, R44). -/
theorem State.spindownEnd_tends {s : State} {h : HeadId} (k : HeadsOk s) (hd : s.spindownEndDue h = true) :
    (s.head h).Tends still (s.prevDemand h) ((s.spindownEnd h).head h) := by
  have spindown : (s.head h).seq.state = .spindown := by
    simp only [State.spindownEndDue, Bool.and_eq_true, decide_eq_true_eq] at hd
    exact hd.1
  have stopped (t : State) (e : (t.head h).reg.demand = (s.head h).reg.demand) :
      (s.head h).Tends still (s.prevDemand h) ((t.stopHead h).head h) := by
    rw [State.stopHead_head]
    exact .ofIdles rfl e
  rw [State.spindownEnd, if_pos hd]
  dsimp only
  split
  next last kind rate runOut hr =>
    obtain ⟨-, rest, hq⟩ := Sequencer.queue_of_executing hr
    have head := State.completeRecord_head hq
    have ordered := (k.agree.seqs h).1
    rw [hq] at ordered
    refine Head.Tends.trans ?_ (.ofKey (State.testPassEnd_toolKey ..))
    split
    · exact stopped _ (by rw [head])
    · split
      · rw [State.finishHead_head, head]
        exact .ofIdles rfl rfl
      · intro sets _ _ _
        obtain ⟨laws, demand⟩ := State.waitAgain_tooled (s := s.completeRecord h) (h := h) (sets := sets)
          (prev := s.prevDemand h) (by rw [head]; rfl) (by rw [head]; exact ordered.2)
          (by rw [head]; exact fun g hg => k.inRange hq g (List.mem_cons_of_mem _ hg)) (by rw [head]; exact k.profile h)
        exact ⟨laws, fun _ => demand.trans (by rw [head])⟩
  next hr =>
    refine Head.Tends.trans ?_ (.ofKey (State.testPassEnd_toolKey ..))
    split
    · exact stopped s rfl
    next hf =>
      obtain ⟨-, -, -, -, -, exits⟩ := k.agree.seqs h
      obtain ⟨g, hg, kind⟩ := Option.map_eq_some_iff.1 (exits (.inr spindown) (by simpa using hf))
      cases g <;> simp only [Segment.kind, reduceCtorEq] at kind
      exact (hr _ _ _ _ hg).elim

theorem State.spindownEnd_tended : Tended still s (s.spindownEnd h) := by
  by_cases hd : s.spindownEndDue h = true
  · obtain ⟨t, ended, moved, -⟩ := State.spindownEnd_moved hd
    have key : ∀ g, ((s.spindownEnd h).head g).toolKey = (t.head g).toolKey := ended ▸ t.testPassEnd_toolKey
    refine ⟨s.spindownEnd_worked h, s.spindownEnd_sound h, by rw [ended, State.testPassEnd_ring, moved.ring],
      fun k g => ?_⟩
    rcases HeadId.eq_or_other g h with rfl | rfl
    · exact State.spindownEnd_tends k hd
    · exact .ofKey ((key _).trans (by rw [moved.other]))
  · rw [State.spindownEnd, if_neg hd]
    exact .refl still s

/-! ## The head sequencer's set -/

theorem State.workDwell_tended (accepted : Bool) : Tended still s (s.workDwell accepted h) := by
  refine .ite (fun _ => .ite (fun _ => s.starvationEnd_tended h) (.refl still s))
    ((Tended.modProgress rfl rfl rfl).trans (State.dwellEnd_tended ..))

theorem State.workTraverse_tended (accepted : Bool) (hs : s.headState h = .traverse) :
    Tended still s (s.workTraverse accepted h) := by
  refine .ite (fun _ => (s.countRepetitions_tended h hs).trans (.ite (fun _ =>
      State.finishTraverse_tended _ h ((s.countRepetitions_state h).trans hs)) (.refl still _)))
    (.ite (fun _ => .ite (fun _ => s.starvationEnd_tended h) (.refl still s)) ?_)
  split
  · exact s.starve_tended h (.inr hs)
  · exact s.completeAtRest_tended h
  · exact .ite (fun _ => s.finishTraverse_tended h hs) (.refl still s)

/-- Outside SPINUP the head sequencer keeps the laws of the tool. -/
theorem State.workState_tended (accepted : Bool) (hs : s.headState h ≠ .spinup) :
    Tended still s (s.workState accepted h) := by
  cases e : s.headState h <;> simp only [State.workState, e]
  case waiting => exact s.startSpinup_tended h
  case spinup => exact absurd e hs
  case plunge => exact .ite (fun _ => s.starvationEnd_tended h) (.refl still s)
  case dwell => exact s.workDwell_tended h accepted
  case traverse => exact s.workTraverse_tended h accepted e
  case spindown => exact .ite (fun _ => s.spindownEnd_tended h) (.refl still s)
  all_goals exact .refl still s

theorem State.workHoldTimer_tended : Tended still s (s.workHoldTimer h) := by
  have held := s.workHoldTimer_eq h
  rw [State.modSeq_eq] at held
  refine .oneHeadStands (h := h) (s.workHoldTimer_worked h) (s.workHoldTimer_sound h) ?_ ?_ ?_ <;> rw [held]
  · simp
  · simp
  · rw [State.modHead_head]
    rfl

end

/-- A law that holds from a count of sets on holds from a later one on. -/
theorem Head.Tooled.later {x : Head} {sets n : Nat} {prev : Int} (t : x.Tooled sets prev) (hn : sets ≤ n) :
    x.Tooled n prev := by
  by_cases hs : x.seq.state = .spinup
  · obtain ⟨started, seat, stands⟩ := (Head.tooled_spinup hs).1 t
    exact (Head.tooled_spinup hs).2 ⟨started, seat, fun h => stands (hn.trans h)⟩
  · cases e : x.seq.state <;> simp only [Head.Tooled, e] at t ⊢
    case spinup => exact absurd e hs
    all_goals exact t

/-- A set counted at speed delays the laws of a spin-up by one set, and the third of them begins the plunge (R15). -/
theorem Head.Tooled.spunUp {x : Head} {sets : Nat} {prev : Int} {accepted near : Bool} (t : x.Tooled sets prev)
    (p : ProfileInRange x.profile) (hs : x.seq.state = .spinup) (high : sets ≤ 2) :
    (x.spunUp accepted near).Tooled (sets + 1) prev := by
  obtain ⟨started, seat, stands⟩ := (Head.tooled_spinup hs).1 t
  have goesOn (state : (x.spunUp accepted near).seq.state = .spinup)
      (count : (x.spunUp accepted near).seq.atSpeedCount ≤ x.seq.atSpeedCount + 1) :
      (x.spunUp accepted near).Tooled (sets + 1) prev :=
    (Head.tooled_spinup state).2 ⟨started, seat, fun many => stands (by omega)⟩
  cases accepted with
  | false => exact goesOn hs (Nat.le_succ _)
  | true =>
    cases near with
    | false => exact goesOn hs (Nat.zero_le _)
    | true =>
      by_cases third : 2 ≤ x.seq.atSpeedCount
      · have plunges : x.spunUp true true = x.plunging (x.seq.atSpeedCount + 1) (x.seq.spinupTimer + 1) := by
          simp [Head.spunUp, Head.plunging, third]
        exact plunges ▸ t.plunges p hs (high.trans third)
      · exact goesOn (by simp [Head.spunUp, third, hs]) le_rfl

/-- The work from `s` to `t` keeps the laws of the tool, but that it may count a set at speed on the head `h`, which
delays the laws of its spin-up by one set. -/
structure CountsSet (s t : State) (h : HeadId) : Prop where
  worked : Worked s t
  sound  : Sound s t
  output : t.ring.output = s.ring.output
  others : HeadsOk s → ∀ g, g ≠ h → (s.head g).Tends False (s.prevDemand g) (t.head g)
  own    : HeadsOk s → (s.head h).Tooled 1 (s.prevDemand h) → (t.head h).Tooled 2 (s.prevDemand h)

section
variable {s t u : State} {h : HeadId}

theorem Tended.countsSet (a : Tended False s t) : CountsSet s t h :=
  ⟨a.worked, a.sound, a.output, fun k g _ => a.heads k g, fun k l =>
    (a.heads k h 1 le_rfl (by decide) l).1.later (by decide)⟩

theorem Tended.thenCounts (a : Tended False s t) (b : CountsSet t u h) : CountsSet s u h where
  worked := a.worked.trans b.worked
  sound := a.sound.trans b.sound
  output := b.output.trans a.output
  others := fun k g hg => (a.heads k g).trans (a.prevDemand g ▸ b.others (a.headsOk k) g hg)
  own := fun k l => by
    have lt := (a.heads k h 1 le_rfl (by decide) l).1
    rw [← a.prevDemand h] at lt ⊢
    exact b.own (a.headsOk k) lt

theorem CountsSet.headsOk (a : CountsSet s t h) (k : HeadsOk s) : HeadsOk t :=
  k.moved a.worked a.sound

theorem CountsSet.prevDemand (a : CountsSet s t h) (g : HeadId) : t.prevDemand g = s.prevDemand g :=
  State.prevDemand_output a.output g

theorem CountsSet.thenTends (a : CountsSet s t h) (b : Tended False t u) : CountsSet s u h where
  worked := a.worked.trans b.worked
  sound := a.sound.trans b.sound
  output := b.output.trans a.output
  others := fun k g hg => (a.others k g hg).trans (a.prevDemand g ▸ b.heads (a.headsOk k) g)
  own := fun k l => by
    have lt := a.own k l
    rw [← a.prevDemand h] at lt ⊢
    exact (b.heads (a.headsOk k) h 2 (by decide) (by decide) lt).1

theorem State.workSpinup_countsSet (accepted : Bool) (hs : (s.head h).seq.state = .spinup) :
    CountsSet s (s.workSpinup accepted h) h := by
  refine ⟨s.workSpinup_worked accepted h, s.workSpinup_sound accepted h, ?_, fun _ g hg => ?_, fun k l => ?_⟩ <;>
    rw [State.workSpinup_eq hs]
  · rw [State.modHead_ring]
  · rw [(HeadId.eq_or_other g h).resolve_left hg, State.modHead_other]
    exact .refl
  · rw [State.modHead_head]
    exact l.spunUp (k.profile h) hs (by decide)

theorem State.workState_countsSet (accepted : Bool) : CountsSet s (s.workState accepted h) h := by
  by_cases hs : s.headState h = .spinup
  · have spins : s.workState accepted h = s.workSpinup accepted h := by simp only [State.workState, hs]
    exact spins ▸ State.workSpinup_countsSet accepted hs
  · exact (s.workState_tended h accepted hs).countsSet

/-- The head sequencer's set counts one set at speed at most (R15). -/
theorem State.workSequencer_countsSet (accepted : Bool) : CountsSet s (s.workSequencer accepted h) h :=
  (Tended.thenCounts (.ite (fun _ => s.takeAppendedStart_tended h) (.refl False s))
    (State.workState_countsSet accepted)).thenTends (State.workHoldTimer_tended ..)

end

end Sys2Proof.Machine
end

section
/-! SUPPORT. The regulation of a set as a record of the values that R75 to R80 form, and the bounds they keep (O12,
O58). -/

namespace Sys2Proof.Machine

open Sys2Proof.Safety

/-- The integral does not step further to the side at which the raw demand has left the window (R77). -/
theorem integralStep_eq (side : SatSide) (change : Int) : integralStep side change =
    if side = .high ∧ 0 < change ∨ side = .low ∧ change < 0 then 0 else change := by
  cases side <;> simp [integralStep]

/-- A step limited to a magnitude falls short of the way exactly where the way is longer (R80). -/
theorem limit_ne_iff {m x : Int} (hm : 0 ≤ m) : max (-m) (min m x) ≠ x ↔ m < mag x := by
  have := mag_le_iff (x := x) (m := m)
  omega

/-- The regulator record behind a regulation (R75 to R80). -/
theorem Regulator.regulate_record (r : Regulator) {p : HeadProfile} (tc : Nat) (sample prev : Int) (traversing : Bool)
    (hp : ProfileInRange p) (hd : p.depth.dMin < p.depth.dMax) : r.regulate p tc sample prev traversing = (
      let e := max (-20000) (min 20000 (r.target - sample))
      let e' := if mag e ≤ p.gains.deadband then 0 else if 0 < e then e - p.gains.deadband else e + p.gains.deadband
      let change := Int.tdiv (e' * p.gains.ki * tc) 1000000
      let step := if r.side = .high ∧ 0 < change ∨ r.side = .low ∧ change < 0 then 0 else change
      let acc := max (-(p.gains.iClamp * 1000)) (min (p.gains.iClamp * 1000) (r.accumulator + step))
      let raw := r.nominal + Int.tdiv (e' * p.gains.kp) 1000 + Int.tdiv acc 1000
      let clamped := max p.depth.dMin (min p.depth.dMax raw)
      { r with
        error := e
        formedError := true
        accumulator := acc
        side := if p.depth.dMax < raw then .high else if raw < p.depth.dMin then .low else .none
        satRun := if traversing = true ∧ (p.depth.dMax < raw ∨ raw < p.depth.dMin) then min (r.satRun + 1) 65535 else 0
        demand := prev + max (-p.depth.rMax) (min p.depth.rMax (clamped - prev))
        rateLimited := decide (p.depth.rMax < mag (clamped - prev)) }) := by
  obtain ⟨⟨-, -, -, -, -, -, -, -, -, -, -, -, rMax, -⟩, ⟨-, -, -, -, -, -, iClamp, -⟩, -⟩ := hp
  have leaves (raw : Int) : (if p.depth.dMax < raw then SatSide.high else if raw < p.depth.dMin then .low else .none) ≠
      .none ↔ p.depth.dMax < raw ∨ raw < p.depth.dMin := by
    split
    · simp [*]
    · split <;> simp [*]
  simp only [Regulator.regulate, limit_eq_max_min hd.le, limit_eq_max_min (show -p.depth.rMax ≤ p.depth.rMax by omega),
    limit_eq_max_min (show -(p.gains.iClamp * 1000) ≤ p.gains.iClamp * 1000 by omega),
    limit_eq_max_min (show (-20000 : Int) ≤ 20000 by decide), integralStep_eq, deadband, divZero, countUp_eq_min,
    leaves, limit_ne_iff (show 0 ≤ p.depth.rMax by omega)]

/-- The demand that a regulation forms: a step of at most Rmax toward a depth of the window (R79, R80). -/
theorem Regulator.regulate_demand (r : Regulator) {p : HeadProfile} (tc : Nat) (sample prev : Int) (traversing : Bool)
    (hp : ProfileInRange p) (hd : p.depth.dMin < p.depth.dMax) :
    ∃ c, p.depth.dMin ≤ c ∧ c ≤ p.depth.dMax ∧ (r.regulate p tc sample prev traversing).demand =
      prev + max (-p.depth.rMax) (min p.depth.rMax (c - prev)) := by
  rw [r.regulate_record tc sample prev traversing hp hd]
  exact ⟨_, le_max_left .., by omega, rfl⟩

/-- The bounds that a regulation keeps (R77, R79, R80). -/
theorem Regulator.regulate_bounds (r : Regulator) {p : HeadProfile} (tc : Nat) (sample prev : Int) (traversing : Bool)
    (hp : ProfileInRange p) (hd : p.depth.dMin < p.depth.dMax) :
    let u := r.regulate p tc sample prev traversing
    mag (u.demand - prev) ≤ p.depth.rMax ∧
    (p.depth.dMin ≤ prev → prev ≤ p.depth.dMax → p.depth.dMin ≤ u.demand ∧ u.demand ≤ p.depth.dMax) ∧
    (prev < p.depth.dMin → prev < u.demand) ∧ (p.depth.dMax < prev → u.demand < prev) ∧
    mag u.accumulator ≤ p.gains.iClamp * 1000 ∧ (traversing = false → u.satRun = 0) := by
  obtain ⟨c, low, high, formed⟩ := r.regulate_demand tc sample prev traversing hp hd
  have record := r.regulate_record tc sample prev traversing hp hd
  obtain ⟨⟨-, -, -, -, -, -, -, -, -, -, -, -, rMax, -⟩, ⟨-, -, -, -, -, -, iClamp, -⟩, -⟩ := hp
  intro u
  have demand : u.demand = prev + max (-p.depth.rMax) (min p.depth.rMax (c - prev)) := formed
  refine ⟨mag_le_iff.2 (by omega), by omega, by omega, by omega, mag_le_iff.2 ?_, fun still => ?_⟩
  · simp only [u, record]
    omega
  · simp only [u, record, still, Bool.false_eq_true, false_and, if_false]

end Sys2Proof.Machine
end

section
/-! SUPPORT. The force regulator under the laws of the tool: the demands that regulation, descent and ramps form. -/

namespace Sys2Proof.Machine

open Sys2Proof.Safety

/-! ## The regulation -/

/-- A regulated demand lies in bounds and goes deeper by at most Rmax (R80, R84). -/
theorem Regulator.regulate_mayDemand {x : Head} {r : Regulator} {tc : Nat} {sample prev : Int} {traversing : Bool}
    (hp : ProfileInRange x.profile) (hd : x.profile.depth.dMin < x.profile.depth.dMax) (before : DepthInBounds x prev) :
    x.MayDemand prev (r.regulate x.profile tc sample prev traversing).demand := by
  obtain ⟨c, low, high, formed⟩ := r.regulate_demand tc sample prev traversing hp hd
  obtain ⟨⟨dMin, -, -, -, -, clear, -, -, -, -, -, -, rMax, -⟩, -⟩ := hp
  obtain ⟨above, below⟩ := before
  rw [formed]
  refine ⟨⟨?_, ?_⟩, ?_⟩
  · omega
  · omega
  · unfold Head.deepest
    omega

/-- The values of a TRAVERSE turn the spindle (R40, R72, R73). -/
theorem Head.Tooled.segmentValues {x : Head} {sets : Nat} {prev : Int} (t : x.Tooled sets prev)
    (hs : x.seq.state.parked = false) (segments : ∀ g ∈ x.seq.queue, SegmentInRange 25000 g) :
    100 ≤ x.seq.segmentValues.rpm := by
  have rpm := (t.lowered hs).rpm
  unfold Sequencer.segmentValues
  split
  next traverse executing =>
    obtain ⟨-, -, v0, v1⟩ := (Head.tooled_traverse traverse).1 t
    obtain ⟨-, rest, hq⟩ := Sequencer.queue_of_executing executing
    rw [hq] at segments
    obtain ⟨-, -, length, -⟩ := segments _ List.mem_cons_self
    split
    · exact v1
    · refine (le_min v0 v1).trans (min_le_alongRepetition ?_ ?_ (by omega)) <;>
        rw [limit_eq_max_min (by omega)] <;> omega
  next => exact rpm

/-- A set that forms targets keeps the laws of a head in PLUNGE, DWELL, TRAVERSE or EXIT. -/
theorem Head.Tooled.aimed {x y : Head} {sets : Nat} {prev : Int} (t : x.Tooled sets prev)
    (hs : x.seq.state.parked = false) (hw : x.seq.state ≠ .withdraw) (seq : y.seq = x.seq)
    (profile : y.profile = x.profile) (demand : x.MayDemand prev y.reg.demand)
    (exitRecord : y.reg.exitRecord = x.reg.exitRecord) (values : 100 ≤ y.reg.segment.rpm) : y.Tooled sets prev := by
  have l : y.Lowered prev := (t.lowered hs).next profile demand (seq ▸ (t.lowered hs).rpm)
  cases e : x.seq.state <;> simp only [e, HeadState.parked, Bool.true_eq_false, ne_eq, not_true] at hs hw
  case plunge => exact (Head.tooled_plunge (seq ▸ e)).2 ⟨l, seq ▸ ((Head.tooled_plunge e).1 t).2.1, fun _ => values⟩
  case dwell => exact (Head.tooled_dwell (seq ▸ e)).2 ⟨l, values⟩
  case traverse =>
    obtain ⟨-, -, ends⟩ := (Head.tooled_traverse e).1 t
    exact (Head.tooled_traverse (seq ▸ e)).2 ⟨l, values, seq ▸ ends⟩
  case exit =>
    obtain ⟨-, exits⟩ := (Head.tooled_exit e).1 t
    refine (Head.tooled_exit (seq ▸ e)).2 ⟨l, ?_⟩
    simpa only [Head.ExitsInBounds, exitRecord, profile] using exits

/-- The depth window of a working head is in order (R3, R136, R144). -/
theorem depthWindow_of_working {s : State} {h : HeadId} (k : HeadsOk s) (hw : (s.headState h).working = true) :
    (s.head h).profile.depth.dMin < (s.head h).profile.depth.dMax := by
  obtain ⟨mode, ⟨named, present, -⟩, ⟨-, -, window, -⟩, -⟩ := k
  obtain ⟨active, passHead⟩ := named h hw
  exact window (mode active) h (present active h passHead)

theorem HeadState.working_of_parked {st : HeadState} (h : st.parked = false) : st.working = true := by
  cases st <;> simp only [HeadState.parked, Bool.true_eq_false] at h <;> rfl

section
variable {s : State} {h : HeadId} {still : Prop}

/-- A set that forms targets in a head in the seam keeps its laws, and leaves it values that turn its spindle. -/
theorem Tended.aimed {f : Regulator → Regulator} (hs : (s.head h).seq.state.parked = false)
    (hw : (s.head h).seq.state ≠ .withdraw)
    (worked : Worked s (s.modHead h fun x => { x with reg := f x.aimed }))
    (sound : Sound s (s.modHead h fun x => { x with reg := f x.aimed }))
    (segment : (f (s.head h).aimed).segment = (s.head h).aimed.segment)
    (exitRecord : (f (s.head h).aimed).exitRecord = (s.head h).aimed.exitRecord)
    (demand : HeadsOk s → DepthInBounds (s.head h) (s.prevDemand h) →
      (s.head h).MayDemand (s.prevDemand h) (f (s.head h).aimed).demand) :
    Tended False s (s.modHead h fun x => { x with reg := f x.aimed }) :=
  .modHead worked sound fun k _ _ _ t =>
    ⟨t.aimed hs hw rfl rfl (demand k (t.lowered hs).before) exitRecord
      (show 100 ≤ (f (s.head h).aimed).segment.rpm from segment ▸ t.segmentValues hs (k.inRange rfl)), False.elim⟩

theorem State.regulate_tended (hs : (s.head h).seq.state.parked = false) (hw : (s.head h).seq.state ≠ .withdraw) :
    Tended False s (s.regulate h) := by
  have worked := s.regulate_worked h
  have sound := s.regulate_sound h
  have regulated : s.regulate h = s.modHead h fun x => { x with
      reg := (x.aimed.regulate (s.head h).profile s.gantry.tc (s.input h .force) (s.prevDemand h)
        (decide ((s.head h).seq.state = .traverse))) } := by
    rw [State.regulate_eq]
    exact State.modHead_congr rfl
  rw [regulated] at worked sound ⊢
  exact .aimed (f := fun r => r.regulate (s.head h).profile s.gantry.tc (s.input h .force) (s.prevDemand h)
    (decide ((s.head h).seq.state = .traverse))) hs hw worked sound rfl rfl fun k before =>
      Regulator.regulate_mayDemand (k.profile h) (depthWindow_of_working k (HeadState.working_of_parked hs)) before

theorem State.coastTargets_tended (hs : (s.head h).seq.state.parked = false) (hw : (s.head h).seq.state ≠ .withdraw) :
    Tended False s (s.coastTargets h) := by
  have worked := s.coastTargets_worked h
  have sound : Sound s (s.coastTargets h) := (s.formTargets_sound h).trans (State.setDemand_sound _ h (s.prevDemand h))
  rw [State.coastTargets_eq] at worked sound ⊢
  refine .aimed (f := fun r => { r with demand := s.prevDemand h }) hs hw worked sound rfl rfl fun k before => ?_
  have := Head.deepest_nonneg (k.profile h)
  exact ⟨before, show s.prevDemand h ≤ _ by omega⟩

theorem State.workRegulated_tended (accepted : Bool) (hs : (s.head h).seq.state.parked = false)
    (hw : (s.head h).seq.state ≠ .withdraw) : Tended False s (s.workRegulated accepted h) :=
  .ite (fun _ => State.regulate_tended hs hw) (State.coastTargets_tended hs hw)

/-! ## Demands set -/

/-- A demand set anew within the laws (R71, R84). -/
theorem State.setDemand_tended {d : Int}
    (low : HeadsOk s → (s.head h).seq.state.parked = false → ∀ sets, (s.head h).Tooled sets (s.prevDemand h) →
      (s.head h).MayDemand (s.prevDemand h) d)
    (clear : (s.head h).seq.state = .spinup ∨ (s.head h).seq.state = .withdraw ∧ (s.head h).reg.withdraw = .spinstop →
      d = (s.head h).profile.depth.clear) : Tended False s (s.setDemand h d) :=
  .modReg fun k => .demand (low k) fun e _ _ => clear e

theorem State.setClear_tended : Tended False s (s.setDemand h (s.head h).profile.depth.clear) :=
  State.setDemand_tended (fun k hs _ t => (t.lowered hs).rise (k.profile h) le_rfl (t.lowered hs).before.1) fun _ => rfl

theorem State.holdDemand_tended (hs : (s.head h).seq.state ≠ .spinup) (hw : (s.head h).seq.state ≠ .withdraw) :
    Tended False s (s.setDemand h (s.prevDemand h)) :=
  State.setDemand_tended (fun k hp _ t => (t.lowered hp).rise (k.profile h) (t.lowered hp).before.1 le_rfl)
    fun e => e.elim (fun e => absurd e hs) fun e => absurd e.1 hw

/-! ## The plunge -/

theorem State.takeContact_tended : Tended still s (s.takeContact h) := by
  refine .ite (fun hd => ?_) (.refl still s)
  obtain ⟨⟨plunge, -⟩, -⟩ := (s.contactDue_iff h).1 hd
  let y : Head := { s.head h with reg :=
    { (s.head h).reg with accumulator := 0, side := .none, seatCount := 0, plungePhase := .seat } }
  refine .modReg fun _ sets _ _ t => ⟨?_, fun _ => rfl⟩
  obtain ⟨l, depth, values⟩ := (Head.tooled_plunge plunge).1 t
  exact (Head.tooled_plunge (x := y) plunge).2 ⟨l.kept rfl rfl l.rpm, depth, fun h =>
    h.elim (fun seated : 1 ≤ 0 => absurd seated (by decide)) fun starved => values (.inr starved)⟩

/-- A seat that is judged on the values of its own set, at which the spindle turns (R72, R83). -/
theorem State.judgeSeat_tended (hs : (s.head h).seq.state = .plunge)
    (values : (s.head h).reg.segment = (s.head h).seq.carried) : Tended False s (s.judgeSeat h) := by
  rw [State.judgeSeat_eq]
  refine .modReg fun _ sets _ _ t => ⟨?_, False.elim⟩
  obtain ⟨l, depth, -⟩ := (Head.tooled_plunge hs).1 t
  refine (t.aimed (by rw [hs]; rfl) (by rw [hs]; decide) rfl rfl l.demand rfl ?_)
  exact (congrArg SegValues.rpm values).symm ▸ l.rpm

theorem State.seatComplete_tended : Tended still s (s.seatComplete h) := by
  refine .ite (fun hd => ?_) (.refl still s)
  obtain ⟨plunge, -, -, counted⟩ := (s.seatCompleteDue_iff h).1 hd
  refine State.finishExecuting_tended (by rw [State.headState, plunge]; rfl) fun k sets t => ?_
  obtain ⟨-, ⟨-, -, -, -, -, -, -, -, -, -, seatSets, -⟩, -⟩ := k.profile h
  obtain ⟨-, -, values⟩ := (Head.tooled_plunge plunge).1 t
  exact values (.inl (seatSets.trans counted))

/-! ## Exit and withdrawal -/

theorem State.enterRetract_tended : Tended still s (s.enterRetract h) := .modProgress rfl rfl rfl

theorem State.brakeEnd_tended : Tended still s (s.brakeEnd h) :=
  .ite (fun _ => State.enterRetract_tended) (.refl still s)

theorem State.runoutEnd_tended : Tended still s (s.runoutEnd h) :=
  .ite (fun _ => State.enterRetract_tended) (.refl still s)

/-- The demand of a run-out lies between the clear height and the demand before it (R87). -/
theorem ExitRecord.runOutDemand_bounds {e : ExitRecord} {clear station prev : Int} (runOut : 0 ≤ e.runOut)
    (start : ∀ d, e.startDepth = some d → clear ≤ d) (hc : clear ≤ 0) (hp : clear ≤ prev) :
    clear ≤ e.runOutDemand station prev ∧ e.runOutDemand station prev ≤ prev := by
  unfold ExitRecord.runOutDemand
  split
  next first depth _ hd =>
    split
    · exact ⟨hp, le_rfl⟩
    next some =>
      refine ⟨le_min ?_ hp, min_le_right ..⟩
      have left : 0 ≤ limit 0 e.runOut (e.runOut - (station - first)) ∧
          limit 0 e.runOut (e.runOut - (station - first)) ≤ e.runOut := by
        rw [limit_eq_max_min runOut]
        omega
      have := start depth hd
      exact (le_min this hc).trans (min_le_tdiv_part left.1 left.2 (by omega))
  next => exact ⟨hp, le_rfl⟩

theorem State.workRunout_tended (hs : (s.head h).seq.state = .exit) : Tended False s (s.workRunout h) := by
  refine Tended.trans (State.setDemand_tended (fun k hp sets t => ?_) fun e => ?_) State.runoutEnd_tended
  · obtain ⟨l, exits⟩ := (Head.tooled_exit hs).1 t
    have clear : (s.head h).profile.depth.clear ≤ 0 := by
      obtain ⟨⟨-, -, -, -, -, high, -⟩, -⟩ := k.profile h
      omega
    split
    next e he =>
      obtain ⟨-, runOut, start⟩ := exits e he
      obtain ⟨low, high⟩ := e.runOutDemand_bounds (station := (s.head h).seq.station) runOut start clear l.before.1
      exact l.rise (k.profile h) low high
    next => exact l.rise (k.profile h) l.before.1 le_rfl
  · simp [hs] at e

theorem State.retractStep_tended (hs : (s.head h).seq.state = .exit) : Tended False s (s.retractStep h) := by
  refine State.setDemand_tended (fun k hp sets t => ?_) fun e => ?_
  · obtain ⟨l, exits⟩ := (Head.tooled_exit hs).1 t
    have rate : 0 ≤ (s.head h).retractRate := by
      unfold Head.retractRate
      split
      next e he => exact (exits e he).1
      next =>
        obtain ⟨⟨-, -, -, -, -, -, -, -, low, -⟩, -⟩ := k.profile h
        omega
    exact l.rise (k.profile h) (le_max_right ..) (max_le (by omega) l.before.1)
  · simp [hs] at e

theorem State.enterSpinstop_tended : Tended still s (s.enterSpinstop h) := by
  refine .ite (fun hd => ?_) (.refl still s)
  have due : ((s.head h).seq.state = .withdraw ∧ (s.head h).reg.withdraw = .rising) ∧
      (s.head h).reg.demand = (s.head h).profile.depth.clear := by
    simpa only [State.spinstopDue, Bool.and_eq_true, decide_eq_true_eq] using hd
  obtain ⟨⟨withdraw, -⟩, clear⟩ := due
  let y : Head := { s.head h with
    reg := { (s.head h).reg with withdraw := .spinstop }, trim := { (s.head h).trim with spindle := 0 } }
  refine .modHead (.modHead s h _ rfl rfl (.refl ..)) (.still s h _ rfl) fun _ sets _ _ t => ⟨?_, fun _ => rfl⟩
  obtain ⟨l, -⟩ := (Head.tooled_withdraw withdraw).1 t
  exact (Head.tooled_withdraw (x := y) withdraw).2 ⟨l.kept rfl rfl l.rpm, fun _ => clear⟩

theorem State.withdrawStep_tended (hs : (s.head h).seq.state = .withdraw) (hw : (s.head h).reg.withdraw = .rising) :
    Tended False s (s.withdrawStep h) := by
  refine Tended.trans (State.setDemand_tended (fun k hp _ t => ?_) fun e => ?_) State.enterSpinstop_tended
  · obtain ⟨⟨-, -, -, -, -, -, -, -, -, -, rate, -⟩, -⟩ := k.profile h
    have l := t.lowered hp
    exact l.rise (k.profile h) (le_max_right ..) (max_le (by omega) l.before.1)
  · simp [hs, hw] at e

theorem State.retractEnd_tended : Tended still s (s.retractEnd h) := by
  have worked := s.retractEnd_worked h
  have sound := s.retractEnd_sound h
  unfold State.retractEnd at worked sound ⊢
  split
  next hd =>
    rw [if_pos hd] at worked sound
    exact .modHead worked sound fun _ => .ofIdles rfl rfl
  next => exact .refl still s

theorem State.withdrawalEnd_tended : Tended still s (s.withdrawalEnd h) :=
  .ite (fun _ => (s.stopHead_tended h).trans (State.testPassEnd_tended _)) (.refl still s)

/-! ## The regulator's set -/

/-- The ramps keep the laws: they rise toward the clear height or hold (R71, R84 to R90). -/
theorem State.formRamp_tended (accepted : Bool) : Tended False s (s.formRamp accepted h) := by
  by_cases hp : (s.head h).seq.state.parked = true
  · rw [State.formRamp_parked accepted hp]
    exact State.setClear_tended
  cases hs : (s.head h).seq.state <;> simp only [hs, HeadState.parked, not_true] at hp <;>
    simp only [State.formRamp, hs]
  case exit =>
    split
    · exact .ite (fun _ => State.workRunout_tended hs)
        (State.holdDemand_tended (by rw [hs]; decide) (by rw [hs]; decide))
    · exact State.retractStep_tended hs
    · refine .ite (fun hd => State.brakeEnd_tended.trans (State.retractStep_tended ?_)) (.refl False s)
      rw [State.brakeEnd, if_pos hd, State.enterRetract, State.modProgress_eq, State.modHead_head]
      exact hs
  case withdraw =>
    split
    next hw => exact State.withdrawStep_tended hs hw
    next => exact State.setClear_tended
  all_goals exact .refl False s

/-- A seat's set regulates at the carried values, and then judges (R72, R83). -/
theorem State.workSeat_tended (hs : (s.head h).seq.state = .plunge) : Tended False s (s.workSeat h) := by
  have head : (s.regulate h).head h = { s.head h with reg := ((s.regulate h).head h).reg } := by
    rw [State.regulate_eq, State.modHead_head]
  have values : ((s.regulate h).head h).reg.segment = ((s.regulate h).head h).seq.carried := by
    rw [State.regulate_eq, State.modHead_head]
    exact Sequencer.segmentValues_elsewhere (by rw [hs]; decide)
  have judged := (State.regulate_tended (s := s) (h := h) (by rw [hs]; rfl) (by rw [hs]; decide)).trans
    (State.judgeSeat_tended (by rw [head]; exact hs) values)
  exact (judged.trans State.seatComplete_tended).trans (.ite (fun _ => State.formRamp_tended true) (.refl ..))

theorem State.workDescent_tended (hs : (s.head h).seq.state = .plunge) : Tended False s (s.workDescent h) := by
  refine .ite (fun hd => State.takeContact_tended.trans (State.workSeat_tended ?_)) (.ite (fun _ => ?_) ?_)
  · rw [State.takeContact, if_pos hd, State.modReg_eq, State.modHead_head]
    exact hs
  · exact State.holdDemand_tended (by rw [hs]; decide) (by rw [hs]; decide)
  · refine State.setDemand_tended (fun k hp sets t => ?_) fun e => by simp [hs] at e
    obtain ⟨l, depth, -⟩ := (Head.tooled_plunge hs).1 t
    obtain ⟨⟨-, -, dMax, -, -, clear, plunge, -⟩, -⟩ := k.profile h
    obtain ⟨⟨above, below⟩, -⟩ := l
    unfold Head.descentLimit
    exact ⟨⟨by omega, by omega⟩, by unfold Head.deepest; omega⟩

theorem State.workExit_tended (accepted : Bool) (hs : (s.head h).seq.state = .exit) :
    Tended False s (s.workExit accepted h) := by
  unfold State.workExit
  split
  · exact State.formRamp_tended accepted
  · exact .ite (fun _ => State.retractEnd_tended) (State.formRamp_tended accepted)
  · exact .ite (fun _ => State.formRamp_tended accepted)
      (State.workRegulated_tended accepted (by rw [hs]; rfl) (by rw [hs]; decide))

theorem State.workPhase_tended (accepted : Bool) : Tended False s (s.workPhase accepted h) := by
  cases hs : s.headState h <;> simp only [State.workPhase, hs]
  case plunge =>
    have state : (s.head h).seq.state = .plunge := hs
    have parked : (s.head h).seq.state.parked = false := by rw [state]; rfl
    have wields : (s.head h).seq.state ≠ .withdraw := by rw [state]; decide
    split
    · exact .ite (fun _ => State.workDescent_tended hs) (State.holdDemand_tended (by rw [state]; decide) wields)
    · exact .ite (fun _ => State.workSeat_tended hs) (State.coastTargets_tended parked wields)
  case dwell | traverse =>
    exact State.workRegulated_tended accepted (by rw [show (s.head h).seq.state = _ from hs]; rfl)
      (by rw [show (s.head h).seq.state = _ from hs]; decide)
  case exit => exact State.workExit_tended accepted hs
  case withdraw =>
    split
    · exact State.formRamp_tended accepted
    · exact .ite (fun _ => (State.formRamp_tended accepted).trans State.withdrawalEnd_tended)
        (State.formRamp_tended accepted)
  all_goals exact State.formRamp_tended accepted

theorem State.workRegulator_tended (accepted : Bool) : Tended False s (s.workRegulator accepted h) := by
  have start : Tended False s (s.modReg h fun r => { r with formedError := false }) := by
    refine .oneHeadStands (h := h) (.modReg s h _) (.modReg s h _) ?_ ?_ ?_ <;> rw [State.modReg_eq]
    · simp
    · simp
    · rw [State.modHead_head]
      rfl
  exact start.trans (State.workPhase_tended accepted)

theorem State.reformDemand_tended (accepted : Bool) (before : State) :
    Tended False s (s.reformDemand accepted before h) :=
  .ite (fun _ => .refl False s) (State.formRamp_tended accepted)

end

/-! ## A whole set -/

section
variable (s : State)

theorem State.workNoContact_tended (accepted : Bool) : Tended False s (s.workNoContact accepted) :=
  .ite (fun _ => ((s.takeCauses_tended _).trans (State.reformDemand_tended accepted _)).trans
    (State.reformDemand_tended accepted _)) (.refl False s)

theorem State.workGuards_tended (accepted : Bool) : Tended False s (s.workGuards accepted) := by
  unfold State.workGuards
  dsimp only
  have a : Tended False s s.disarmGuards := s.disarmGuards_tended
  generalize s.disarmGuards = t at a ⊢
  have b : Tended False s (if accepted = true then t.judgeGuards else t) :=
    a.trans (.ite (fun _ => t.judgeGuards_tended) (.refl False t))
  generalize (if accepted = true then t.judgeGuards else t) = u at b ⊢
  exact ((((b.trans (State.takeCauses_tended ..)).trans (State.reformDemand_tended accepted _)).trans
    (State.reformDemand_tended accepted _)).trans (State.disarmGuards_tended _)).trans (State.dropFired_tended _)

theorem State.workTrim_tended (accepted : Bool) (h : HeadId) : Tended False s (s.workTrim accepted h) := by
  have worked := s.workTrim_worked accepted h
  have sound := s.workTrim_sound accepted h
  unfold State.workTrim at worked sound ⊢
  exact .modHeadStands worked sound rfl

/-- A parked head stands at the clear height in force, and any other where its set has brought it (R71). -/
theorem State.settleDemand_tended (h : HeadId) : Tended False s (s.settleDemand h) := by
  refine .modHead (s.settleDemand_worked h) (s.settleDemand_sound h) fun _ => ?_
  refine Head.Tends.trans (y := (s.head h).withDemand
    (if (s.head h).seq.state.parked then (s.head h).profile.depth.clear else (s.head h).reg.demand))
    (.demand (fun hs _ t => ?_) fun e _ t => ?_) (.ofKey rfl)
  · rw [hs, if_neg (by decide)]
    exact (t.lowered hs).demand
  · rcases e with e | ⟨e, phase⟩
    · rw [e]
      rfl
    · rw [e]
      exact ((Head.tooled_withdraw e).1 t).2 phase

theorem State.formFence_tended (h : HeadId) : Tended False s (s.formFence h) := by
  have worked := s.formFence_worked h
  have sound := s.formFence_sound h
  unfold State.formFence at worked sound ⊢
  exact .modHeadStands worked sound rfl

/-- Behind the head sequencers both heads work on within the laws. -/
theorem State.workHeads_rest (accepted : Bool) :
    Tended False ((s.workSequencer accepted .a).workSequencer accepted .b) (s.workHeads accepted) :=
  ((State.workRegulator_tended accepted).trans (State.workRegulator_tended accepted)).trans
    (State.workNoContact_tended _ accepted)

theorem State.workHeads_output (accepted : Bool) : (s.workHeads accepted).ring.output = s.ring.output := by
  have first : CountsSet s (s.workSequencer accepted .a) .a := State.workSequencer_countsSet accepted
  have second : CountsSet _ ((s.workSequencer accepted .a).workSequencer accepted .b) .b :=
    State.workSequencer_countsSet accepted
  exact ((s.workHeads_rest accepted).output.trans second.output).trans first.output

/-- Both heads work a set: a spin-up counts at most one set at speed (R15). -/
theorem State.workHeads_tooled {s : State} (accepted : Bool) (k : HeadsOk s)
    (t : ∀ h, (s.head h).Tooled 1 (s.prevDemand h)) (h : HeadId) :
    ((s.workHeads accepted).head h).Tooled 2 (s.prevDemand h) := by
  have first : CountsSet s (s.workSequencer accepted .a) .a := State.workSequencer_countsSet accepted
  have second : CountsSet _ ((s.workSequencer accepted .a).workSequencer accepted .b) .b :=
    State.workSequencer_countsSet accepted
  have ok := first.headsOk k
  have counted : (((s.workSequencer accepted .a).workSequencer accepted .b).head h).Tooled 2 (s.prevDemand h) := by
    cases h with
    | a =>
      have laws := first.own k (t .a)
      rw [← first.prevDemand] at laws ⊢
      exact (second.others ok .a (by decide) 2 (by decide) (by decide) laws).1
    | b =>
      have laws := (first.others k .b (by decide) 1 le_rfl (by decide) (t .b)).1
      rw [← first.prevDemand] at laws ⊢
      exact second.own ok laws
  have prev : ((s.workSequencer accepted .a).workSequencer accepted .b).prevDemand h = s.prevDemand h :=
    (second.prevDemand h).trans (first.prevDemand h)
  rw [← prev] at counted ⊢
  exact ((s.workHeads_rest accepted).heads (second.headsOk ok) h 2 (by decide) (by decide) counted).1

end

end Sys2Proof.Machine
end

section
/-! SUPPORT. The trim unit's set, and the output set in which the laws of the tool show. -/

namespace Sys2Proof.Machine

open Sys2Proof.Safety

/-! ## The trim unit -/

/-- The lateral trim behind a LATERAL value (R101). -/
def Trim.lateralBehind (t : Trim) (p : TrimPage) (lateral : Int) : Int :=
  if lateral = -32768 then t.lateral
  else limit (-p.yLim) p.yLim
    (t.lateral + limit (-p.yRate) p.yRate (divZero ((lateral - t.lateral) * p.kt) 1000))

theorem Trim.stepLateral_eq (t : Trim) (p : TrimPage) (lateral : Int) :
    t.stepLateral p lateral = { t with lateral := t.lateralBehind p lateral } := by
  unfold Trim.stepLateral Trim.lateralBehind
  split <;> rfl

/-- The trim record of a set but for the speed demand and the spindle command (R94 to R97, R101). -/
def Head.stepped (x : Head) (accepted : Bool) (temp lateral : Int) : Trim :=
  if accepted = true ∧ x.seq.state = .traverse then
    ((x.trim.takeTemp temp).stepOverrides x.profile.trim).stepLateral x.profile.trim lateral
  else x.trim

/-- A head whose trim unit has worked a set: the speed demand and the spindle command follow the steps (R94, R99,
R100). -/
def Head.trimmedBy (x : Head) (t : Trim) : Head :=
  { x with trim := { t with
    vh := if x.seq.state = .traverse then some (t.speedDemand x.reg.segment.speed) else none
    spindle := Head.spindleCommand { x with trim := t } } }

theorem State.workTrim_head (s : State) (accepted : Bool) (h : HeadId) : (s.workTrim accepted h).head h =
    (s.head h).trimmedBy ((s.head h).stepped accepted (s.input h .temp) (s.input h .lateral)) := by
  have stepping : (accepted && decide (s.headState h = .traverse)) = true ↔
      accepted = true ∧ (s.head h).seq.state = .traverse := by
    rw [Bool.and_eq_true, decide_eq_true_iff, State.headState]
  rw [State.workTrim, State.modHead_head]
  simp only [stepping, Head.trimmedBy, Head.stepped]
  split
  · simp only [Trim.stepLateral_eq]
    rfl
  · rfl

theorem State.workTrim_other (s : State) (accepted : Bool) (h : HeadId) :
    (s.workTrim accepted h).head h.other = s.head h.other := by
  rw [State.workTrim, State.modHead_other]

/-- The trim unit leaves the spindle command of the state and phase in its record (R100). -/
theorem Head.trimmedBy_spindle (x : Head) (t : Trim) :
    (x.trimmedBy t).trim.spindle = (x.trimmedBy t).spindleCommand := rfl

/-! ## The heads that a set leaves -/

/-- A head whose set is formed: its spindle command is that of its state, and parked it stands at the clear height (R71,
R100). -/
def Head.Formed (x : Head) : Prop :=
  x.trim.spindle = x.spindleCommand ∧ (x.seq.state.parked = true → x.reg.demand = x.profile.depth.clear)

theorem State.fencedSet_formed (s : State) (accepted loss : Bool) (h : HeadId) :
    ((s.fencedSet accepted loss).head h).Formed := by
  unfold State.fencedSet
  dsimp only
  generalize (((s.openSet accepted loss).workHeads accepted).workGuards accepted).handCaps accepted = t
  have spindle : (((t.workTrim accepted .a).workTrim accepted .b).head h).trim.spindle =
      (((t.workTrim accepted .a).workTrim accepted .b).head h).spindleCommand := by
    cases h with
    | a =>
      have first : ((t.workTrim accepted .a).workTrim accepted .b).head .a = (t.workTrim accepted .a).head .a :=
        State.workTrim_other _ accepted .b
      rw [first, State.workTrim_head, Head.trimmedBy_spindle]
    | b => rw [State.workTrim_head, Head.trimmedBy_spindle]
  generalize (t.workTrim accepted .a).workTrim accepted .b = u at spindle ⊢
  cases h <;> exact ⟨spindle, fun parked => if_pos parked⟩

/-- Off the parked states the spindle command is 0 only where the demand is the clear height (R90, R100). -/
theorem Head.Tooled.spindleCommand {x : Head} {sets : Nat} {prev : Int} (t : x.Tooled sets prev)
    (hs : x.seq.state.parked = false) (deep : x.reg.demand ≠ x.profile.depth.clear) : x.spindleCommand ≠ 0 := by
  have rpm := (t.lowered hs).rpm
  cases e : x.seq.state <;> simp only [e, HeadState.parked, Bool.true_eq_false] at hs <;>
    simp only [Head.spindleCommand, e]
  case withdraw =>
    cases phase : x.reg.withdraw with
    | rising => exact ne_of_gt (by dsimp only; omega)
    | spinstop => exact absurd (((Head.tooled_withdraw e).1 t).2 phase) deep
  all_goals omega

/-- What an output set that is formed behind the demand `prev` holds for a head (R84, R100). -/
def Head.Lawful (x : Head) (prev : Int) : Prop :=
  DepthInBounds x x.reg.demand ∧ (x.profile.depth.clear < x.reg.demand → x.trim.spindle ≠ 0) ∧
    (x.profile.depth.clear ≤ prev → x.reg.demand ≤ prev + x.deepest)

section
variable {x : Head} {sets : Nat} {prev : Int}

theorem DepthInBounds.ofClear (p : ProfileInRange x.profile) : DepthInBounds x x.profile.depth.clear := by
  obtain ⟨⟨-, -, low, -, -, high, -⟩, -⟩ := p
  exact ⟨le_rfl, by omega⟩

/-- A head at the clear height fills its part of an output set lawfully. -/
theorem Head.Lawful.ofClear (p : ProfileInRange x.profile) (h : x.reg.demand = x.profile.depth.clear) :
    x.Lawful prev := by
  have := Head.deepest_nonneg p
  refine ⟨h ▸ DepthInBounds.ofClear p, fun deep => absurd h (ne_of_gt deep), fun low => ?_⟩
  omega

/-- A formed head within the laws of the tool fills its part of the output set lawfully. -/
theorem Head.Tooled.lawful (t : x.Tooled sets prev) (p : ProfileInRange x.profile) (f : x.Formed) :
    x.Lawful prev := by
  obtain ⟨spindle, parked⟩ := f
  by_cases hs : x.seq.state.parked = true
  · exact .ofClear p (parked hs)
  · rw [Bool.not_eq_true] at hs
    obtain ⟨bounds, step⟩ := (t.lowered hs).demand
    exact ⟨bounds, fun deep => spindle ▸ t.spindleCommand hs (ne_of_gt deep), fun _ => step⟩

/-- A formed head within the laws of the tool stays within them behind the output set it fills. -/
theorem Head.Tooled.formed (t : x.Tooled sets prev) (p : ProfileInRange x.profile) (f : x.Formed) :
    x.Tooled 1 x.reg.demand := by
  obtain ⟨-, parked⟩ := f
  have lowered (hs : x.seq.state.parked = false) : x.Lowered x.reg.demand := by
    have l := t.lowered hs
    have := Head.deepest_nonneg p
    exact ⟨l.demand.1, ⟨l.demand.1, by omega⟩, l.rpm⟩
  cases e : x.seq.state with
  | idle | spindown | finished | stopped => exact Head.tooled_idles (by rw [e]; rfl)
  | waiting => exact (Head.tooled_waiting e).2 ((Head.tooled_waiting e).1 t)
  | spinup =>
    obtain ⟨started, seat, -⟩ := (Head.tooled_spinup e).1 t
    have clear := parked (by rw [e]; rfl)
    exact (Head.tooled_spinup e).2 ⟨started, seat, fun _ => ⟨clear, clear⟩⟩
  | plunge => exact (Head.tooled_plunge e).2 ⟨lowered (by rw [e]; rfl), ((Head.tooled_plunge e).1 t).2⟩
  | dwell => exact (Head.tooled_dwell e).2 ⟨lowered (by rw [e]; rfl), ((Head.tooled_dwell e).1 t).2⟩
  | traverse => exact (Head.tooled_traverse e).2 ⟨lowered (by rw [e]; rfl), ((Head.tooled_traverse e).1 t).2⟩
  | exit => exact (Head.tooled_exit e).2 ⟨lowered (by rw [e]; rfl), ((Head.tooled_exit e).1 t).2⟩
  | withdraw => exact (Head.tooled_withdraw e).2 ⟨lowered (by rw [e]; rfl), ((Head.tooled_withdraw e).1 t).2⟩

/-- A lowered head whose demand stands. -/
theorem Head.lowered_standing_iff (p : ProfileInRange x.profile) :
    x.Lowered x.reg.demand ↔ DepthInBounds x x.reg.demand ∧ 100 ≤ x.seq.carried.rpm := by
  have deep := Head.deepest_nonneg p
  constructor
  · rintro ⟨before, -, rpm⟩
    exact ⟨before, rpm⟩
  · rintro ⟨before, rpm⟩
    exact ⟨before, ⟨before, by omega⟩, rpm⟩

/-- Between two sets the laws of the tool are those of a spin-up that has counted one set, and the demand stands. -/
theorem toolOk_iff {s : State} {h : HeadId} (p : ProfileInRange (s.head h).profile) :
    ToolOk s h ↔ (s.head h).reg.demand = s.prevDemand h ∧ (s.head h).Tooled 1 (s.prevDemand h) := by
  refine and_congr_right fun stands => ?_
  rw [← stands]
  have lowered := Head.lowered_standing_iff p
  cases e : (s.head h).seq.state <;> simp [e, Head.Tooled, lowered, HeadState.parked, Head.ExitsInBounds] <;> tauto

end

end Sys2Proof.Machine
end

section
/-! SUPPORT. Every request, every set and every command keeps the laws of the tool (O12). -/

namespace Sys2Proof.Safety

open Sys2Proof.Machine

/-! ## Sets -/

/-- The heads of `t` fill an output set behind that of `s` within the laws of the tool. -/
def FormsLawfully (s t : State) : Prop :=
  ∀ h, (t.head h).reg.demand = t.prevDemand h ∧ (t.head h).trim.spindle = t.prevSpindle h ∧
    (t.head h).Lawful (s.prevDemand h)

/-- The blocks work a set within the laws of the tool as far as the planner's end. -/
theorem fencedSet_tooled {s : State} (k : HeadsOk s) (t : ∀ h, ToolOk s h) (accepted loss : Bool) (h : HeadId) :
    ((s.fencedSet accepted loss).head h).Tooled 2 (s.prevDemand h) := by
  have opened : Tended False s (s.openSet accepted loss) := s.openSet_tended accepted loss
  have prev (g : HeadId) : ((s.openSet accepted loss).workHeads accepted).prevDemand g = s.prevDemand g :=
    State.prevDemand_output ((State.workHeads_output _ accepted).trans opened.output) g
  have ok := opened.headsOk k
  have laws := State.workHeads_tooled accepted ok (fun g => by
    rw [opened.prevDemand]
    exact (opened.heads k g 1 le_rfl (by decide) ((toolOk_iff (k.profile g)).1 (t g)).2).1) h
  rw [opened.prevDemand] at laws
  have closed : Tended False ((s.openSet accepted loss).workHeads accepted) (s.fencedSet accepted loss) :=
    ((((((((State.workGuards_tended _ accepted).trans (State.handCaps_tended _ accepted)).trans
      (State.workTrim_tended _ accepted .a)).trans (State.workTrim_tended _ accepted .b)).trans
      (State.settleDemand_tended _ .a)).trans (State.settleDemand_tended _ .b)).trans
      (State.formFence_tended _ .a)).trans (State.formFence_tended _ .b))
  have worked : HeadsOk ((s.openSet accepted loss).workHeads accepted) :=
    ok.moved (State.workHeads_worked _ accepted) (State.workHeads_sound _ accepted)
  have laws := (closed.heads worked h 2 (by decide) (by decide) (by rw [prev]; exact laws)).1
  rwa [prev] at laws

/-- The end of a set leaves of the heads all but their fired flags. -/
theorem endSet_head (s : State) (h : HeadId) : s.endPlanner.disarmGuards.formOutputs.head h = s.head h ∨
    s.endPlanner.disarmGuards.formOutputs.head h = (s.head h).unfired := by
  have formed : s.endPlanner.disarmGuards.formOutputs.head h = s.endPlanner.head h := by cases h <;> rfl
  rw [formed, State.endPlanner_eq]
  split
  · exact State.testPassEnd_head _ h
  · cases h <;> exact .inl rfl

theorem formOutputs_head (s : State) (h : HeadId) : (s.formOutputs.head h).reg.demand = s.formOutputs.prevDemand h ∧
    (s.formOutputs.head h).trim.spindle = s.formOutputs.prevSpindle h := by
  cases h <;> exact ⟨rfl, rfl⟩

/-- A set keeps the laws of the tool, and forms its output set by them. -/
theorem workSet_tool {s : State} (k : HeadsOk s) (t : ∀ h, ToolOk s h) (accepted loss : Bool) :
    (∀ h, ToolOk (s.workSet accepted loss) h) ∧ FormsLawfully s (s.workSet accepted loss) := by
  have profile (h : HeadId) : ProfileInRange ((s.fencedSet accepted loss).head h).profile :=
    ((s.fencedSet_worked accepted loss).profile h) ▸ k.profile h
  have kept (h : HeadId) : ((s.workSet accepted loss).head h).Tooled 1 ((s.workSet accepted loss).head h).reg.demand ∧
      ((s.workSet accepted loss).head h).Lawful (s.prevDemand h) := by
    have laws := fencedSet_tooled k t accepted loss h
    have formed := s.fencedSet_formed accepted loss h
    have fenced := And.intro (laws.formed (profile h) formed) (laws.lawful (profile h) formed)
    rw [State.workSet_eq]
    rcases endSet_head (s.fencedSet accepted loss) h with e | e <;> rw [e]
    · exact fenced
    · exact ⟨(Head.tooled_congr (x := (s.fencedSet accepted loss).head h)
        (y := ((s.fencedSet accepted loss).head h).unfired) rfl).2 fenced.1, fenced.2⟩
  have outputs := formOutputs_head (s.fencedSet accepted loss).endPlanner.disarmGuards
  rw [← State.workSet_eq] at outputs
  have ok : HeadsOk (s.workSet accepted loss) := k.workSet accepted loss
  refine ⟨fun h => (toolOk_iff (ok.profile h)).2 ⟨(outputs h).1, (outputs h).1 ▸ (kept h).1⟩, fun h =>
    ⟨(outputs h).1, (outputs h).2, (kept h).2⟩⟩

/-! ## What stands between two sets -/

/-- The way from `s` to `t` forms no output set, and keeps the laws of the tool. -/
def ToolStands (s t : State) : Prop :=
  t.ring.output = s.ring.output ∧ ∀ h, ToolOk s h → ToolOk t h

theorem ToolStands.refl (s : State) : ToolStands s s := ⟨rfl, fun _ => id⟩

theorem ToolStands.trans {s t u : State} (a : ToolStands s t) (b : ToolStands t u) : ToolStands s u :=
  ⟨b.1.trans a.1, fun h l => b.2 h (a.2 h l)⟩

theorem ToolStands.ofTended {s t : State} (k : HeadsOk s) (a : Tended True s t) : ToolStands s t := by
  refine ⟨a.output, fun h l => ?_⟩
  obtain ⟨demand, laws⟩ := (toolOk_iff (k.profile h)).1 l
  obtain ⟨kept, stood⟩ := a.heads k h 1 le_rfl (by decide) laws
  exact (toolOk_iff ((a.headsOk k).profile h)).2
    ⟨((stood trivial).trans demand).trans (a.prevDemand h).symm, (a.prevDemand h).symm ▸ kept⟩

/-- Nothing that the laws read of the heads changes, and the output set stands. -/
theorem ToolStands.same {s t : State} (hr : t.ring.output = s.ring.output)
    (hh : ∀ h, (t.head h).toolKey = (s.head h).toolKey) : ToolStands s t := by
  refine ⟨hr, fun h l => ?_⟩
  have key := hh h
  simp only [Head.toolKey, Prod.mk.injEq] at key
  obtain ⟨hs, hx, hc, ⟨hf, h0, h1⟩, hn, hd, hw, ht, hg, he, hp⟩ := key
  simpa only [ToolOk, DepthInBounds, State.prevDemand_output hr, hs, hx, hc, hf, h0, h1, hn, hd, hw, ht, hg, he, hp]
    using l

theorem ToolStands.modHead (s : State) (x : HeadId) {f : Head → Head}
    (hf : (f (s.head x)).toolKey = (s.head x).toolKey) : ToolStands s (s.modHead x f) := by
  refine .same (by rw [State.modHead_ring]) fun h => ?_
  rcases HeadId.eq_or_other h x with rfl | rfl
  · rw [State.modHead_head, hf]
  · rw [State.modHead_other]

theorem ToolStands.raise (s : State) (k : EventKind) (d : Nat) : ToolStands s (s.raise k d) :=
  .same (by rw [State.raise_ring]) fun h => by rw [State.raise_head]

/-! ## Requests -/

section
variable {s : State}

theorem ToolStands.modMap (x : HeadId) (f : CompMap → CompMap) : ToolStands s (s.modMap x f) :=
  .modHead s x rfl

/-- An update of a head's queue alone. -/
theorem ToolStands.setQueue (x : HeadId) (f : Sequencer → List Segment) (g : Sequencer → Option SegKind) :
    ToolStands s (s.modSeq x fun q => { q with queue := f q, lastKind := g q }) :=
  .modHead s x rfl

theorem ToolStands.refuseFence (x : HeadId) (k : Nat) : ToolStands s (s.refuseFence x k) :=
  (ToolStands.modMap x _).trans (.raise ..)

theorem ToolStands.putGuards (k : Nat) (gs : List GuardRecord) : ToolStands s (Machine.putGuards k gs s) := by
  induction gs generalizing k s with
  | nil => exact .refl s
  | cons g gs ih =>
    have put : ToolStands s (s.putGuard k g) := .refl s
    exact put.trans (ih (k + 1))

theorem ToolStands.onHead (r : Request) {f : HeadId → Answer} (hf : ∀ x, ToolStands s (f x).state) :
    ToolStands s (s.onHead r f).state := by
  unfold State.onHead
  split
  · exact hf _
  · exact .refl s

theorem ToolStands.ofLength (r : Request) (n : Nat) {a : Answer} (ha : ToolStands s a.state) :
    ToolStands s (s.ofLength r n a).state := by
  unfold State.ofLength
  split
  · exact ha
  · exact .refl s

theorem ToolStands.writePoint (x : HeadId) (k : Nat) (p : MapPoint) :
    ToolStands s (Machine.writePoint s x k p).state := by
  unfold Machine.writePoint
  dsimp only
  split
  · exact .modMap ..
  · exact .refuseFence ..
  · exact .refl s

theorem ToolStands.writeHeader (x : HeadId) (n : Nat) : ToolStands s (Machine.writeHeader s x n).state := by
  unfold Machine.writeHeader
  dsimp only
  repeat' split
  case isFalse.isFalse.isFalse.isTrue => exact .refuseFence ..
  case isFalse.isFalse.isFalse.isFalse => exact .modMap ..
  all_goals exact .refl s

/-- The profile of a head that is not yet in its spin-up, or out of the pass, may be replaced (R144). -/
theorem ToolStands.putProfile {x : HeadId} {p : HeadProfile} (parked : (s.head x).seq.state.parked = true)
    (spinup : (s.head x).seq.state ≠ .spinup) : ToolStands s (s.modHead x fun y => { y with profile := p }) := by
  refine ⟨by rw [State.modHead_ring], fun h l => ?_⟩
  rcases HeadId.eq_or_other h x with rfl | rfl
  · simp only [ToolOk, State.modHead_head, State.modHead_prevDemand] at l ⊢
    obtain ⟨demand, -, -, -, rpm, depth, fed, seat, values, ends, -⟩ := l
    refine ⟨demand, fun out => ?_, fun e => absurd e spinup, fun e => ?_, rpm, depth, fed, seat, values, ends,
      fun _ e => ?_⟩
    · cases parked.symm.trans out
    · cases e ▸ parked
    · cases e ▸ parked
  · simpa only [ToolOk, State.modHead_other, State.modHead_prevDemand] using l

/-- A head's profile is open in CONFIG, outside the pass and in WAITING, where the head is parked (R144). -/
theorem parked_of_profileOpen (k : HeadsOk s) {x : HeadId} (hp : s.profileOpen x = true) :
    (s.head x).seq.state.parked = true ∧ (s.head x).seq.state ≠ .spinup := by
  obtain ⟨mode, ⟨named, -⟩, -⟩ := k
  have idle (hw : (s.headState x).working = false) :
      (s.head x).seq.state.parked = true ∧ (s.head x).seq.state ≠ .spinup := by
    have hw : (s.head x).seq.state.working = false := hw
    cases e : (s.head x).seq.state <;> simp [e, HeadState.working, HeadState.parked] at hw ⊢
  simp only [State.profileOpen, State.outOfPass, Bool.or_eq_true, Bool.not_eq_true', decide_eq_true_eq] at hp
  rcases hp with (config | out) | waiting
  · refine idle (Bool.eq_false_iff.2 fun hw => ?_)
    exact mode (named x hw).1 config
  · exact idle out
  · rw [show (s.head x).seq.state = .waiting from waiting]
    exact ⟨rfl, by decide⟩

theorem ToolStands.writePage (k : HeadsOk s) (x : HeadId) (page : Nat) (bs : List Byte) :
    ToolStands s (Machine.writePage s x page bs).state := by
  unfold Machine.writePage
  dsimp only
  split
  · exact .refl s
  next hp =>
    obtain ⟨parked, spinup⟩ := parked_of_profileOpen k (by simpa using hp)
    split
    · exact .refl s
    · split
      · exact .putProfile parked spinup
      · exact .putProfile parked spinup
      · exact .refl s

theorem ToolStands.writeRecord (k : HeadsOk s) (r : Request) : ToolStands s (answerWriteRecord s r).state := by
  have still : ToolStands s s := .refl s
  unfold answerWriteRecord
  split
  case h_1 => exact still
  case h_2 => exact .onHead r fun _ => still
  case h_3 =>
    unfold answerWriteMap
    split
    · exact .onHead r fun x => .ofLength r 10 (.writeHeader x _)
    · exact .onHead r fun x => .ofLength r 8 (.writePoint x _ _)
  case h_4 =>
    refine .ofLength r 16 ?_
    unfold writeGuard
    repeat' split
    all_goals exact still
  case h_5 =>
    refine .ofLength r 42 ?_
    unfold writeGantry
    repeat' split
    all_goals exact still
  case h_6 =>
    refine .onHead r fun x => ?_
    split
    · exact still
    · exact .ofLength r _ (.writePage k x _ _)
  case h_7 =>
    refine .ofLength r 3 ?_
    unfold writeSlot
    repeat' split
    all_goals exact still

theorem ToolStands.appendRecord (x : HeadId) (bs : List Byte) : ToolStands s (Machine.appendRecord s x bs).state := by
  unfold Machine.appendRecord
  dsimp only
  split
  · exact .refl s
  · split
    · exact .refl s
    · split
      · exact .setQueue x _ _
      · exact .refl s

theorem ToolStands.cancel (x : HeadId) : ToolStands s (s.cancel x) := by
  unfold State.cancel
  split
  · exact .setQueue x _ _
  · exact .setQueue x _ _

theorem ToolStands.completeStream (c : Stream) (records : List (List Byte)) :
    ToolStands s (Machine.completeStream s c records).state := by
  have closed : ToolStands s s.closeStream := .refl s
  unfold Machine.completeStream
  dsimp only
  split
  · exact closed
  · split
    · unfold applySegments
      dsimp only
      split
      · exact closed
      · split
        · exact closed.trans (.setQueue _ _ _)
        · exact closed
    · unfold applyPoints
      dsimp only
      split
      · exact closed.trans (.modMap ..)
      · split
        · exact closed.trans (.refuseFence ..)
        · exact closed
    · unfold applyGuards
      split
      · exact closed
      · split
        · exact closed.trans (.putGuards ..)
        · exact closed

theorem ToolStands.streamData (r : Request) : ToolStands s (answerStreamData s r).state := by
  unfold answerStreamData
  dsimp only
  split
  · exact .refl s
  · split
    · exact .refl s
    · split
      · exact .completeStream ..
      · exact .refl s

/-- PASS START leaves each head waiting with a START of its ranges, or idle (R4, R27). -/
theorem ToolStands.startPass (k : HeadsOk s) {o : PassOrder}
    (starts : ∀ h, o.heads.has h = true → s.startsWithStart h = true) : ToolStands s (s.startPass o) := by
  have frame := s.startPass_frame o
  have output : (s.startPass o).ring.output = s.ring.output := by rw [frame]
  have profile (h : HeadId) : ((s.startPass o).head h).profile = (s.head h).profile := (s.startPass_worked o).profile h
  refine ⟨output, fun h l => (toolOk_iff ((profile h).symm ▸ k.profile h)).2 ?_⟩
  rw [State.prevDemand_output output, State.startPass_head]
  cases named : o.heads.has h with
  | true =>
    obtain ⟨st, rpm, force, depth, rest, queue⟩ := (s.startsWithStart_iff h).1 (starts h named)
    obtain ⟨-, -, rpmLow, -, -, -, depthLow, -⟩ := k.inRange queue _ List.mem_cons_self
    obtain ⟨⟨-, -, dMaxLow, -⟩, -⟩ := k.profile h
    rw [State.headsStarted_named named queue]
    exact ⟨l.1, (Head.tooled_waiting rfl).2 fun _ => ⟨rpmLow, le_min depthLow dMaxLow, rfl⟩⟩
  | false =>
    rw [State.headsStarted_unnamed named]
    exact ⟨l.1, Head.tooled_idles rfl⟩

theorem ToolStands.passStart (k : HeadsOk s) (r : Request) : ToolStands s (answerPassStart s r).state := by
  unfold answerPassStart
  repeat' split
  case h_2 none =>
    refine .startPass k fun h named => ?_
    simpa using List.find?_eq_none.1 none h ((HeadSet.mem_members _ _).2 named)
  all_goals exact .refl s

/-- No request forms an output set, and every request keeps the laws of the tool. -/
theorem ToolStands.answer (heads : HeadsOk s) (k : RequestKind) (r : Request) : ToolStands s (k.answer s r).state := by
  have still : ToolStands s s := .refl s
  cases k <;> simp only [RequestKind.answer]
  case readRecord => exact (answerReadRecord_state s r).symm ▸ still
  case writeRecord => exact .writeRecord heads r
  case appendSegment => exact .onHead r fun x => .appendRecord x _
  case cancelPending => exact .onHead r fun x => .cancel x
  case streamData => exact .streamData r
  case passStart => exact .passStart heads r
  case passHold =>
    unfold answerPassHold
    repeat' split
    case isFalse.isFalse => exact .ofTended heads (s.holdOrder_tended _)
    all_goals exact still
  case passAbort =>
    unfold answerPassAbort
    repeat' split
    case isFalse.isFalse => exact .ofTended heads s.abortPass_tended
    all_goals exact still
  case takeEvent => exact still
  all_goals
    dsimp only [answerReadStatus, answerStreamOpen, answerStreamCancel, answerPassResume, answerEnterReady,
      answerEnterConfig, answerSetEventMask, answerClearFault, answerResetNode]
    repeat' split
    all_goals exact still

theorem ToolStands.answerRequest (heads : HeadsOk s) (k : RequestKind) (r : Request) :
    ToolStands s (s.answerRequest k r).state := by
  have answered : ToolStands s (s.checkedAnswer k r).state := by
    unfold State.checkedAnswer
    split
    · exact .answer heads k r
    · exact .refl s
  unfold State.checkedAnswer at answered
  unfold State.answerRequest
  dsimp only
  split
  · exact answered
  · exact answered

theorem ToolStands.request (heads : HeadsOk s) (k : RequestKind) (r : Request) : ToolStands s (s.request k r) := by
  unfold State.request
  split
  · exact .answerRequest heads k r
  · exact .refl s

theorem ToolStands.carryFrame (heads : HeadsOk s) (f : Frame) : ToolStands s (s.carryFrame f) := by
  change ToolStands s (s.serveArea f.payload)
  unfold State.serveArea
  dsimp only
  split
  · unfold State.serveCode
    split
    · exact .answerRequest heads ..
    · exact .refl s
  · exact .refl s

/-! ## What goes before a set -/

theorem ToolStands.countIdle : ToolStands s s.countIdle := by
  obtain ⟨frame, -⟩ := s.countIdle_frame
  rw [frame]
  exact .refl s

theorem ToolStands.expireStream : ToolStands s s.expireStream := by
  have closed : ToolStands s s.closeStream := .refl s
  unfold State.expireStream
  split
  · exact closed.trans (.raise ..)
  · exact .refl s

theorem ToolStands.countLossHold : ToolStands s s.countLossHold.1 := by
  rw [State.countLossHold_fst]
  exact .refl s

theorem ToolStands.loseRing (heads : HeadsOk s) : ToolStands s s.loseRing.1 := by
  unfold State.loseRing
  split
  · split
    · exact .refl s
    · exact .ofTended heads (s.holdOrder_tended _)
  · exact .refl s

theorem ToolStands.markLost : ToolStands s s.markLost := by
  have lost : ToolStands s ({ s with ring := { s.ring with state := .lost } } : State) := .refl s
  exact lost.trans (.raise ..)

theorem ToolStands.takeCause (heads : HeadsOk s) (c : Cause) : ToolStands s (s.takeCause c).testPassEnd :=
  .ofTended heads ((s.takeCause_tended c).trans (State.testPassEnd_tended _))

theorem ToolStands.ringLoss (heads : HeadsOk s) : ToolStands s s.ringLoss := by
  unfold State.ringLoss
  split
  · have lost := ToolStands.markLost.trans (ToolStands.loseRing heads.markLost)
    dsimp only
    split
    · exact lost.trans (.takeCause heads.markLost.loseRing _)
    · exact lost
  · exact .refl s

end

/-! ## Every command and every step -/

/-- The way from `s` to `t` keeps the laws of the tool, and forms no output set but by them. -/
structure ToolSteps (s t : State) : Prop where
  step : (∀ h, ToolOk s h) → (∀ h, ToolOk t h) ∧ (t.ring.output = s.ring.output ∨ FormsLawfully s t)

section
variable {s t u : State}

theorem ToolStands.steps (a : ToolStands s t) : ToolSteps s t :=
  ⟨fun l => ⟨fun h => a.2 h (l h), .inl a.1⟩⟩

theorem ToolStands.thenSteps (a : ToolStands s t) (b : ToolSteps t u) : ToolSteps s u := by
  refine ⟨fun l => ?_⟩
  obtain ⟨laws, formed⟩ := b.step fun h => a.2 h (l h)
  refine ⟨laws, formed.imp (·.trans a.1) fun lawful h => ?_⟩
  rw [← State.prevDemand_output a.1]
  exact lawful h

theorem ToolSteps.ofTended (k : HeadsOk s) (a : Tended True s t) : ToolSteps s t :=
  (ToolStands.ofTended k a).steps

theorem ToolSteps.workSet (k : HeadsOk s) (accepted loss : Bool) : ToolSteps s (s.workSet accepted loss) := by
  refine ⟨fun l => ?_⟩
  obtain ⟨laws, formed⟩ := workSet_tool k l accepted loss
  exact ⟨laws, .inr formed⟩

/-- A head right after reset is idle at the clear height of its profile, and so is the output set (R48, R70). -/
theorem ToolSteps.ofIdle (k : HeadsOk t) (idle : ∀ h, (t.head h).seq.state = .idle)
    (clear : ∀ h, (t.head h).reg.demand = (t.head h).profile.depth.clear)
    (outputs : ∀ h, (t.head h).reg.demand = t.prevDemand h ∧ (t.head h).trim.spindle = t.prevSpindle h) :
    ToolSteps s t :=
  ⟨fun _ => ⟨fun h => .ofIdle (idle h) (outputs h).1,
    .inr fun h => ⟨(outputs h).1, (outputs h).2, .ofClear (k.profile h) (clear h)⟩⟩⟩

theorem ToolSteps.afterReset (heads : HeadsOk s) (straps : BitVec 6) (p : Power) :
    ToolSteps u (s.afterReset straps p) :=
  .ofIdle (heads.afterReset straps p) (fun h => by cases h <;> rfl) (fun h => by cases h <;> rfl)
    fun h => by cases h <;> exact ⟨rfl, rfl⟩

theorem ToolSteps.powerOn (straps : BitVec 6) : ToolSteps u { State.powerOn straps with pending := u.pending } :=
  .ofIdle (HeadsOk.powerOn straps) (fun h => by cases h <;> rfl) (fun h => by cases h <;> rfl)
    fun h => by cases h <;> exact ⟨rfl, rfl⟩

theorem ToolStands.beginPlanner (heads : HeadsOk s) (accepted : Bool) : ToolStands s (s.beginPlanner accepted) :=
  .ofTended heads (s.beginPlanner_tended accepted)

theorem ToolSteps.sampleSet (heads : HeadsOk s) : ToolSteps s s.sampleSet :=
  (ToolStands.beginPlanner heads true).thenSteps (.workSet (heads.beginPlanner true) true false)

theorem ToolSteps.acceptFrame (heads : HeadsOk s) (payload : List Byte) (now : Nat) (pins : Pins) :
    ToolSteps s (s.acceptFrame payload now pins) := by
  let sampled : State := { s.countAccepted now pins with
    ring := (s.countAccepted now pins).ring.takeSamples (captureInputs s.inForce payload) }
  have headsSampled : HeadsOk sampled := heads
  have stands : ToolStands s sampled := .refl s
  unfold State.acceptFrame
  dsimp only
  refine ToolStands.thenSteps (ToolStands.trans ?_ .countIdle) (.sampleSet (HeadsOk.countIdle ?_))
  · split
    · exact stands.trans (.raise ..)
    · exact stands
  · split
    · exact headsSampled.raise ..
    · exact headsSampled

theorem ToolSteps.testFrame (heads : HeadsOk s) (f : PassingFrame) (now : Nat) (pins : Pins) :
    ToolSteps s (s.testFrame f now pins) := by
  have still : ToolStands s s := .refl s
  unfold State.testFrame
  split
  · exact ToolStands.steps still
  · split
    · exact ToolStands.steps still
    · split
      · let counted : State := { s with ring := { s.ring with early := countUp 65535 s.ring.early } }
        have early : ToolStands s counted := still
        exact (early.trans (.raise ..)).steps
      · exact .acceptFrame heads ..

theorem ToolSteps.completeFrame (heads : HeadsOk s) (now : Nat) (pins : Pins) :
    ToolSteps s (s.completeFrame now pins) := by
  unfold State.completeFrame
  split
  · exact .afterReset heads ..
  · split
    next f _ =>
      have taken : HeadsOk ({ s with port := { s.port with passing := none } } : State) := heads
      have stands : ToolStands s ({ s with port := { s.port with passing := none } } : State) := .refl s
      exact stands.thenSteps (.testFrame taken ..)
    next => exact ToolStands.steps (.refl s)

theorem ToolSteps.coastSet (heads : HeadsOk s) (lost : Bool) : ToolSteps s (s.coastSet lost) := by
  have stands := (ToolStands.beginPlanner heads false).trans .countLossHold
  have heads := (heads.beginPlanner false).countLossHold
  rw [State.coastSet_eq]
  cases lost with
  | false => exact stands.thenSteps (.workSet heads ..)
  | true => exact (stands.trans (.loseRing heads)).thenSteps (.workSet heads.loseRing ..)

theorem ToolSteps.expireWindow (heads : HeadsOk s) (stop : Bool) : ToolSteps s (s.expireWindow stop) := by
  unfold State.expireWindow
  split
  next due t _ _ =>
    have missed : HeadsOk (s.countMiss due t.tc stop) := heads
    have stands : ToolStands s (s.countMiss due t.tc stop) := .refl s
    dsimp only
    split
    · exact (stands.trans (ToolStands.markLost.trans .countIdle)).thenSteps (.coastSet missed.markLost.countIdle _)
    · exact (stands.trans .countIdle).thenSteps (.coastSet missed.countIdle _)
  next => exact ToolStands.steps (.refl s)

theorem ToolSteps.ifRunning (a : ToolSteps s t) : ToolSteps s (s.ifRunning t) := by
  unfold State.ifRunning
  split
  · exact a
  · exact ToolStands.steps (.refl s)

theorem ToolSteps.takeIf (heads : HeadsOk s) (due : Bool) (c : Cause) : ToolSteps s (s.takeIf due c) := by
  unfold State.takeIf
  split
  · exact ToolStands.steps (.takeCause heads c)
  · exact ToolStands.steps (.refl s)

theorem ToolSteps.exec {c : Instr} (heads : HeadsOk s) (e : Machine.exec c s = .next t) : ToolSteps s t := by
  have still : ToolStands s s := .refl s
  cases hc : asked c with
  | some kr =>
    rw [exec_asked hc] at e
    cases e
    exact (ToolStands.request heads _ _).steps
  | none =>
    have blocks {u : State} (tended : Tended True s u) : ToolSteps s u := .ofTended heads tended
    cases c <;> simp only [asked, reduceCtorEq] at hc <;> obtain rfl := Host.Outcome.next.inj e
    case powerOn straps => exact ToolSteps.powerOn straps
    case supplyLoss => exact ToolStands.steps still
    case resetLine => split <;> exact ToolStands.steps still
    case resetNegated =>
      split
      · exact .afterReset heads ..
      · exact ToolStands.steps still
    case startTime => split <;> exact ToolStands.steps still
    case cycleFrame =>
      split
      · exact (ToolStands.carryFrame heads _).steps
      · exact ToolStands.steps still
    case unknownRequest =>
      unfold State.requestUnknown
      split <;> exact ToolStands.steps still
    all_goals refine .ifRunning ?_
    case frameCompletion => exact .completeFrame heads ..
    case cycleWindowExpiry => exact .expireWindow heads _
    case ringLost => exact (ToolStands.ringLoss heads).steps
    case streamExpired => exact ToolStands.expireStream.steps
    case holdWindowReached =>
      unfold State.holdWindowReached
      split
      · exact (ToolStands.takeCause heads _).steps
      · exact ToolStands.steps still
    case filteredMarkEdge => exact blocks s.markEdge_tended
    case arrival => exact blocks s.arrival_tended
    case spinupStart => exact blocks (s.startSpinup_tended _)
    case atSpeed => exact blocks (s.atSpeed_tended _)
    case contact => exact blocks State.takeContact_tended
    case seatComplete => exact blocks State.seatComplete_tended
    case dwellEnd => exact blocks (s.dwellEnd_tended _)
    case repetitionEnd => exact blocks (s.repetitionEnd_tended _)
    case traverseCompletesAtRest => exact blocks (s.completeAtRest_tended _)
    case starvationEnd => exact blocks (s.starvationEnd_tended _)
    case appendedStartTaken => exact blocks (s.takeAppendedStart_tended _)
    case brakeEnd => exact blocks State.brakeEnd_tended
    case runoutEnd => exact blocks State.runoutEnd_tended
    case retractEnd => exact blocks State.retractEnd_tended
    case spindownEnd => exact blocks (s.spindownEnd_tended _)
    case spinstop => exact blocks State.enterSpinstop_tended
    case withdrawalEnd => exact blocks State.withdrawalEnd_tended
    case passEnd => exact blocks s.testPassEnd_tended
    all_goals exact .takeIf heads _ _

theorem ToolSteps.ofStep (heads : HeadsOk s) (e : Machine.step s = .next t) : ToolSteps s t := by
  unfold Machine.step at e
  split at e
  · cases e
    exact ToolStands.steps (.refl s)
  next c rest _ =>
    have front : HeadsOk (s.afterFront rest) := heads
    have stands : ToolStands s (s.afterFront rest) := .refl s
    exact stands.thenSteps (.exec front e)

end

end Sys2Proof.Safety

namespace Sys2Proof.ForceControl

open Sys2Proof.Machine Sys2Proof.Safety

/-- Settles O12: the work of the blocks keeps the laws of the tool on each head (`Tended`), the head sequencer but for
the set at speed that it counts (`CountsSet`), and the heads that a set leaves fill the output set by them
(`Head.Tooled.lawful`); between two sets the output set stands (`ToolStands`). -/
theorem stepKeepsTheToolLaws : Obligations.StepKeepsTheToolLaws := by
  intro s t heads laws e
  obtain ⟨kept, formed⟩ := (ToolSteps.ofStep heads e).step laws
  refine ⟨kept, fun changed h => ?_, fun h profile low => ?_⟩
  · obtain ⟨demand, spindle, bounds, turns, -⟩ := formed.resolve_left changed h
    rw [← demand, ← spindle]
    exact ⟨bounds, turns⟩
  · rcases formed with stands | lawful
    · have := Head.deepest_nonneg (heads.profile h)
      rw [State.prevDemand_output stands]
      exact le_add_of_nonneg_right this
    · obtain ⟨demand, -, -, -, deeper⟩ := lawful h
      rw [← demand]
      simpa only [Head.deepest, profile] using deeper (by rw [profile]; exact low)

end Sys2Proof.ForceControl
end

section
/-! SUPPORT. The trim unit's steps as a record, and the bounds they keep (O58). -/

namespace Sys2Proof.Machine

open Sys2Proof.Safety

/-- The overrides step on the temperature that the set uses (R95 to R97). -/
theorem Trim.stepped_record (t : Trim) (p : TrimPage) (temp : Int) : (t.takeTemp temp).stepOverrides p = (
    let formed := if temp = 65535 then t.lastTemp else some temp
    { t with
      lastTemp := formed
      ovrV := match formed with
        | none => t.ovrV
        | some c => if c < p.tLo then stepDown t.ovrV p.speedStep p.speedFloor
            else if p.tHi < c then t.ovrV else stepUp t.ovrV p.speedStep
      ovrN := match formed with
        | none => t.ovrN
        | some c => if c < p.tLo then t.ovrN
            else if p.tHi < c then stepDown t.ovrN p.spindleStep p.spindleFloor
            else stepUp t.ovrN p.spindleStep }) := by
  have taken : t.takeTemp temp = { t with lastTemp := if temp = 65535 then t.lastTemp else some temp } := by
    unfold Trim.takeTemp
    split <;> rfl
  rw [taken]
  dsimp only
  generalize (if temp = 65535 then t.lastTemp else some temp) = formed
  cases formed with
  | none => rfl
  | some c =>
    simp only [Trim.stepOverrides]
    split
    · rfl
    · split <;> rfl

/-- The steps leave the lateral trim to the LATERAL value (R95, R101). -/
theorem Trim.stepped_lateral (t : Trim) (p : TrimPage) (temp : Int) :
    ((t.takeTemp temp).stepOverrides p).lateral = t.lateral := by
  rw [Trim.stepped_record]

/-- Steps down end at the floor and steps up at 1000 (R96, R97). -/
theorem stepDown_bounds {o step floor : Int} (hs : 0 ≤ step) (low : min floor 1000 ≤ o) (high : o ≤ 1000) :
    min floor 1000 ≤ stepDown o step floor ∧ stepDown o step floor ≤ 1000 := by
  unfold stepDown
  split <;> omega

theorem stepUp_bounds {o step floor : Int} (hs : 0 ≤ step) (low : min floor 1000 ≤ o) :
    min floor 1000 ≤ stepUp o step ∧ stepUp o step ≤ 1000 := by
  unfold stepUp
  omega

/-- The overrides stay between their floors and 1000 (R96, R97). -/
theorem Trim.stepped_bounds (t : Trim) {p : HeadProfile} (temp : Int) (hp : ProfileInRange p) :
    let v := (t.takeTemp temp).stepOverrides p.trim
    (min p.trim.speedFloor 1000 ≤ t.ovrV → t.ovrV ≤ 1000 → min p.trim.speedFloor 1000 ≤ v.ovrV ∧ v.ovrV ≤ 1000) ∧
    (min p.trim.spindleFloor 1000 ≤ t.ovrN → t.ovrN ≤ 1000 →
      min p.trim.spindleFloor 1000 ≤ v.ovrN ∧ v.ovrN ≤ 1000) := by
  obtain ⟨-, -, -, -, -, -, -, speedStep, -, -, -, spindleStep, -⟩ := hp
  rw [Trim.stepped_record]
  dsimp only
  generalize (if temp = 65535 then t.lastTemp else some temp) = formed
  cases formed with
  | none => exact ⟨And.intro, And.intro⟩
  | some c =>
    dsimp only
    refine ⟨fun low high => ?_, fun low high => ?_⟩
    · split
      · exact stepDown_bounds (by omega) low high
      · split
        · exact ⟨low, high⟩
        · exact stepUp_bounds (by omega) low
    · split
      · exact ⟨low, high⟩
      · split
        · exact stepDown_bounds (by omega) low high
        · exact stepUp_bounds (by omega) low

/-- The lateral trim behind a valid LATERAL value (R101). -/
theorem Trim.lateralBehind_eq (t : Trim) {p : HeadProfile} {lateral : Int} (hp : ProfileInRange p)
    (valid : lateral ≠ -32768) : t.lateralBehind p.trim lateral = max (-p.trim.yLim) (min p.trim.yLim (t.lateral +
      max (-p.trim.yRate) (min p.trim.yRate (Int.tdiv ((lateral - t.lateral) * p.trim.kt) 1000)))) := by
  obtain ⟨-, -, -, -, -, -, -, -, -, -, -, -, -, -, -, -, -, yRate, -, yLim, -⟩ := hp
  rw [Trim.lateralBehind, if_neg valid, limit_eq_max_min (by omega), limit_eq_max_min (by omega)]
  rfl

/-- The lateral trim moves by its rate at most, and stays within its limit (R101). -/
theorem Trim.lateralBehind_bounds (t : Trim) {p : HeadProfile} {lateral : Int} (hp : ProfileInRange p)
    (within : mag t.lateral ≤ p.trim.yLim) : mag (t.lateralBehind p.trim lateral) ≤ p.trim.yLim ∧
      mag (t.lateralBehind p.trim lateral - t.lateral) ≤ p.trim.yRate := by
  have := mag_le_iff.1 within
  by_cases valid : lateral = -32768
  · obtain ⟨-, -, -, -, -, -, -, -, -, -, -, -, -, -, -, -, -, yRate, -⟩ := hp
    rw [Trim.lateralBehind, if_pos valid, sub_self]
    exact ⟨within, mag_le_iff.2 (by omega)⟩
  · rw [t.lateralBehind_eq hp valid]
    obtain ⟨-, -, -, -, -, -, -, -, -, -, -, -, -, -, -, -, -, yRate, -, yLim, -⟩ := hp
    exact ⟨mag_le_iff.2 (by omega), mag_le_iff.2 (by omega)⟩

end Sys2Proof.Machine
end

section
/-! SUPPORT. What one set of a regulator forms, by the head's state and phase (O58). -/

namespace Sys2Proof.Machine

open Sys2Proof.Safety

/-! ## Targets and regulation -/

/-- The segment values of a set, with the share of a repetition limited to its length (R72, R73). -/
theorem Sequencer.segmentValues_of {q : Sequencer} {v : SegValues} (elsewhere : q.state ≠ .traverse → v = q.carried)
    (traverse : q.state = .traverse → ∃ reps length force speed rpm depth,
      q.executingRecord = some (.traverse reps length force speed rpm depth) ∧ 0 < length ∧
      let p := q.progress
      let offset := max 0 (min length (q.station - (p.s0 + p.repsDone * length)))
      let along := fun (v0 v1 : Int) => v0 + Int.tdiv ((v1 - v0) * offset) length
      v = if p.endReached = true then p.v1 else ⟨along p.v0.force p.v1.force, along p.v0.speed p.v1.speed,
        along p.v0.rpm p.v1.rpm, along p.v0.depth p.v1.depth⟩) : q.segmentValues = v := by
  by_cases hs : q.state = .traverse
  · obtain ⟨reps, length, force, speed, rpm, depth, record, positive, rfl⟩ := traverse hs
    simp only [Sequencer.segmentValues, hs, record, Sequencer.interpolated, alongRepetition, divZero,
      limit_eq_max_min positive.le]
  · rw [elsewhere hs, Sequencer.segmentValues_elsewhere hs]

/-- A head at the start of its regulator's set (R116). -/
def Head.unformed (x : Head) : Head :=
  { x with reg := { x.reg with formedError := false } }

theorem State.workRegulator_eq (s : State) (accepted : Bool) (h : HeadId) :
    s.workRegulator accepted h = (s.modHead h Head.unformed).workPhase accepted h := rfl

/-- A set that regulates, or holds the demand in its coast form (R74 to R80, R92). -/
theorem State.workRegulated_eq (s : State) (accepted : Bool) (h : HeadId) : s.workRegulated accepted h =
    s.modHead h fun x => { x with reg := (if accepted = true then
        x.aimed.regulate x.profile s.gantry.tc (s.input h .force) (s.prevDemand h) (decide (x.seq.state = .traverse))
      else { x.aimed with demand := s.prevDemand h }) } := by
  cases accepted with
  | true => exact s.regulate_eq h
  | false => exact s.coastTargets_eq h

section
variable {s : State} {h : HeadId} {accepted : Bool}

/-- The states and phases in which targets are formed on a set that is not spent on a seat or an exit's end (R72). -/
theorem State.workPhase_regulated (hs : (s.head h).seq.state = .dwell ∨ (s.head h).seq.state = .traverse ∨
    (s.head h).exitPhase = some .brake ∧ s.ring.output.xSpeed ≠ 0 ∨
    (s.head h).seq.state = .plunge ∧ (s.head h).reg.plungePhase = .seat ∧ accepted = false) :
    s.workPhase accepted h = s.workRegulated accepted h := by
  rcases hs with e | e | ⟨brake, moving⟩ | ⟨e, seat, rfl⟩
  · simp only [State.workPhase, State.headState, e]
  · simp only [State.workPhase, State.headState, e]
  · obtain ⟨e, phase⟩ := Head.exitPhase_iff.1 brake
    have stands : s.brakeEndDue h = false := by simp [State.brakeEndDue, moving]
    simp only [State.workPhase, State.headState, e, State.workExit, phase, stands, Bool.false_eq_true, if_false]
  · simp only [State.workPhase, State.headState, e, seat]
    rfl

/-! ## Ramps -/

theorem State.setDemand_demand (s : State) (h : HeadId) (d : Int) : ((s.setDemand h d).head h).reg.demand = d := by
  rw [State.setDemand_eq, State.modHead_head]

theorem State.workPhase_parked (hs : (s.head h).seq.state.parked = true) :
    ((s.workPhase accepted h).head h).reg.demand = (s.head h).profile.depth.clear := by
  have ramps : s.workPhase accepted h = s.formRamp accepted h := by
    cases e : (s.head h).seq.state <;> simp only [e, HeadState.parked, Bool.false_eq_true] at hs <;>
      simp only [State.workPhase, State.headState, e]
  rw [ramps, State.formRamp_parked accepted hs, State.setDemand_demand]

theorem State.workPhase_exit (hs : (s.head h).seq.state = .exit) : s.workPhase accepted h = s.workExit accepted h := by
  simp only [State.workPhase, State.headState, hs]

/-- A retract that does not end rises by its rate, as far as the clear height (R88). -/
theorem State.workPhase_retract {e : ExitRecord} (hp : (s.head h).exitPhase = some .retract)
    (he : (s.head h).reg.exitRecord = some e)
    (more : ¬ (accepted = true ∧ s.prevDemand h = (s.head h).profile.depth.clear ∧
      s.input h .zpos ≤ (s.head h).profile.depth.clear + 500)) :
    ((s.workPhase accepted h).head h).reg.demand = max (s.prevDemand h - e.rate) (s.head h).profile.depth.clear := by
  obtain ⟨hs, phase⟩ := Head.exitPhase_iff.1 hp
  have due : ¬ (accepted && s.retractEndDue h) = true := by
    simpa only [State.retractEndDue, hp, decide_true, Bool.true_and, Bool.and_eq_true, decide_eq_true_eq] using more
  rw [State.workPhase_exit hs]
  simp only [State.workExit, phase]
  rw [if_neg due, State.formRamp_retract accepted hp, State.retractStep_eq he, State.modReg_eq, State.modHead_head]

theorem State.runoutEnd_demand (s : State) (h : HeadId) :
    ((s.runoutEnd h).head h).reg.demand = (s.head h).reg.demand := by
  unfold State.runoutEnd State.enterRetract
  split
  · rw [State.modProgress_eq, State.modHead_head]
  · rfl

theorem State.workPhase_runout (hp : (s.head h).exitPhase = some .runout) :
    s.workPhase accepted h = if accepted then s.workRunout h else s.setDemand h (s.prevDemand h) := by
  obtain ⟨hs, phase⟩ := Head.exitPhase_iff.1 hp
  rw [State.workPhase_exit hs, ← State.formRamp_runout accepted hp]
  simp only [State.workExit, phase]

/-- A run-out on an accepted set (R87). -/
theorem State.workRunout_demand {e : ExitRecord} {start depth : Int} (he : (s.head h).reg.exitRecord = some e)
    (hs : e.startStation = some start) (hd : e.startDepth = some depth) (hr : 0 ≤ e.runOut) :
    ((s.workRunout h).head h).reg.demand = if e.runOut = 0 then s.prevDemand h else
      min (Int.tdiv (depth * max 0 (min e.runOut (e.runOut - ((s.head h).seq.station - start)))) e.runOut)
        (s.prevDemand h) := by
  simp only [State.workRunout, State.runoutEnd_demand, State.setDemand_demand, he, ExitRecord.runOutDemand, hs, hd,
    limit_eq_max_min hr, divZero]

theorem State.enterSpinstop_demand (s : State) (h : HeadId) :
    ((s.enterSpinstop h).head h).reg.demand = (s.head h).reg.demand := by
  unfold State.enterSpinstop
  split
  · rw [State.modHead_head]
  · rfl

theorem State.withdrawalEnd_demand (s : State) (h : HeadId) :
    ((s.withdrawalEnd h).head h).reg.demand = (s.head h).reg.demand := by
  unfold State.withdrawalEnd
  split
  · rw [State.testPassEnd_reg, State.stopHead_head]
    rfl
  · rfl

/-- A withdrawal rises by its rate as far as the clear height, and stands there in SPINSTOP (R90). -/
theorem State.workPhase_withdraw (hs : (s.head h).seq.state = .withdraw) :
    ((s.workPhase accepted h).head h).reg.demand = if (s.head h).reg.withdraw = .rising then
      max (s.prevDemand h - (s.head h).profile.depth.withdrawRate) (s.head h).profile.depth.clear
    else (s.head h).profile.depth.clear := by
  simp only [State.workPhase, State.headState, hs]
  cases phase : (s.head h).reg.withdraw with
  | rising =>
    dsimp only
    rw [State.formRamp_rising accepted hs phase, if_pos rfl]
    exact (State.enterSpinstop_demand ..).trans (State.setDemand_demand ..)
  | spinstop =>
    have stands : s.formRamp accepted h = s.setDemand h (s.head h).profile.depth.clear := by
      simp only [State.formRamp, hs, phase]
    dsimp only
    rw [stands, if_neg (show ¬ WithdrawPhase.spinstop = .rising by decide)]
    split
    · rw [State.withdrawalEnd_demand, State.setDemand_demand]
    · rw [State.setDemand_demand]

end

/-! ## The trim record -/

theorem Head.stepped_cap (x : Head) (accepted : Bool) (temp lateral : Int) :
    (x.stepped accepted temp lateral).cap = x.trim.cap := by
  unfold Head.stepped
  split
  · rw [Trim.stepLateral_eq, Trim.stepped_record]
  · rfl

/-- The spindle command by state and phase, with the segment values of a TRAVERSE scaled (R100). -/
theorem Head.spindleCommand_eq (x : Head) : x.spindleCommand = match x.seq.state with
    | .idle | .waiting | .spindown | .finished | .stopped => 0
    | .spinup | .plunge | .dwell | .exit => x.seq.carried.rpm
    | .traverse => max 1 (Int.tdiv (x.reg.segment.rpm * x.trim.ovrN) 1000)
    | .withdraw => if x.reg.withdraw = .rising then x.seq.carried.rpm else 0 := by
  cases e : x.seq.state <;> simp only [Head.spindleCommand, e]
  case traverse => rw [max_comm, divZero]
  case withdraw => cases x.reg.withdraw <;> rfl

/-- The speed demand of a head in TRAVERSE, under the SLOW cap in force (R99). -/
theorem Head.trimmedBy_vh (x : Head) (t : Trim) : (x.trimmedBy t).trim.vh = if x.seq.state = .traverse then
    some (max 1 (Int.tdiv (x.reg.segment.speed * (match t.cap with
      | none => t.ovrV
      | some c => min t.ovrV c)) 1000)) else none := by
  rw [max_comm]
  rfl

end Sys2Proof.Machine

namespace Sys2Proof.ForceControl

open Sys2Proof.Machine Sys2Proof.Safety

/-- A set that forms targets, with the regulator's record behind it (R72 to R80, R92). -/
theorem workRegulator_regulated {s : State} {h : HeadId} {accepted : Bool} {v : SegValues}
    (values : (s.head h).seq.segmentValues = v)
    (hs : (s.head h).seq.state = .dwell ∨ (s.head h).seq.state = .traverse ∨
      (s.head h).exitPhase = some .brake ∧ s.ring.output.xSpeed ≠ 0 ∨
      (s.head h).seq.state = .plunge ∧ (s.head h).reg.plungePhase = .seat ∧ accepted = false) :
    let x := s.head h
    let found := lookup x.map.points x.seq.station
    let aimed : Regulator := { x.reg with
      formedError := false
      segment := v
      target := max 0 (min 60000 (Int.tdiv (v.force * found.1) 1000))
      nominal := v.depth + found.2 }
    s.workRegulator accepted h = s.modReg h fun _ =>
      if accepted = true then
        aimed.regulate x.profile s.gantry.tc (s.input h .force) (s.prevDemand h) (decide (x.seq.state = .traverse))
      else { aimed with demand := s.prevDemand h } := by
  intro x found aimed
  have aim : x.unformed.aimed = aimed := by
    simp only [Head.aimed, show x.unformed.seq.segmentValues = v from values, divZero,
      limit_eq_max_min (show (0 : Int) ≤ 60000 by decide)]
    rfl
  have regulated := State.workPhase_regulated (s := s.modHead h Head.unformed) (h := h) (accepted := accepted)
    (by rw [State.modHead_head, State.modHead_ring]; exact hs)
  rw [State.workRegulator_eq, regulated, State.workRegulated_eq, State.modHead_modHead, State.modReg_eq]
  refine State.modHead_congr ?_
  rw [aim, State.modHead_gantry, State.modHead_input, State.modHead_prevDemand]
  rfl

/-- Settles O58: the sets that form targets by `workRegulator_regulated` and the ramps by their phases; the trim record
by `State.workTrim_head`; and the bounds from the records of a regulation (`Regulator.regulate_record`) and of the trim
unit's steps (`Trim.stepped_record`). -/
theorem oneSetStaysInBounds : Obligations.OneSetStaysInBounds := by
  refine ⟨fun s h accepted => ?_, fun r t p tc sample prev temp lateral traversing hp hd => ?_⟩
  · intro x d clear demand t
    let u := s.modHead h Head.unformed
    have head : u.head h = x.unformed := State.modHead_head ..
    have prev : u.prevDemand h = d := State.modHead_prevDemand ..
    have input : u.input h .zpos = s.input h .zpos := State.modHead_input ..
    have formed : demand = ((u.workPhase accepted h).head h).reg.demand := rfl
    have trim : t = (x.trimmedBy (x.stepped accepted (s.input h .temp) (s.input h .lateral))).trim :=
      congrArg Head.trim (s.workTrim_head accepted h)
    refine ⟨fun v elsewhere traverse => workRegulator_regulated (Sequencer.segmentValues_of elsewhere traverse),
      fun parked => ?_, fun e phase record more => ?_, fun phase coast => ?_,
      fun e start depth phase accepts record station deep runOut => ?_, fun withdraw => ?_, ?_, ?_, ?_⟩
    · rw [formed, State.workPhase_parked (by rw [head]; exact parked), head]
      rfl
    · rw [formed, State.workPhase_retract (by rw [head]; exact phase) (by rw [head]; exact record)
        (by rw [head, prev, input]; exact more), head, prev]
      rfl
    · rw [formed, State.workPhase_runout (by rw [head]; exact phase), coast, if_neg (by decide),
        State.setDemand_demand, prev]
    · rw [formed, State.workPhase_runout (by rw [head]; exact phase), accepts, if_pos rfl,
        State.workRunout_demand (by rw [head]; exact record) station deep runOut, head, prev]
      rfl
    · rw [formed, State.workPhase_withdraw (by rw [head]; exact withdraw), head, prev]
      rfl
    · rw [trim, Head.trimmedBy_vh, Head.stepped_cap]
      rfl
    · rw [trim]
      exact Head.spindleCommand_eq { x with trim := x.stepped accepted (s.input h .temp) (s.input h .lateral) }
    · rw [trim]
      rfl
  · have record := r.regulate_record tc sample prev traversing hp hd
    have steps := t.stepped_record p.trim temp
    obtain ⟨moves, window, deeper, higher, integral, still⟩ := r.regulate_bounds tc sample prev traversing hp hd
    obtain ⟨speed, spindle⟩ := t.stepped_bounds temp hp
    have side := Trim.stepLateral_eq ((t.takeTemp temp).stepOverrides p.trim) p.trim lateral
    have lateralKept := t.stepped_lateral p.trim temp
    refine ⟨record, steps, fun valid => ?_, moves, window, deeper, higher, integral, still, speed, spindle,
      fun within => ?_, fun absent => ?_⟩
    · rw [side, Trim.lateralBehind_eq _ hp valid, lateralKept]
    · have bounds := Trim.lateralBehind_bounds (lateral := lateral) ((t.takeTemp temp).stepOverrides p.trim) hp
        (lateralKept.symm ▸ within)
      rw [lateralKept] at bounds
      rw [side]
      exact bounds
    · exact if_pos absent

end Sys2Proof.ForceControl
end

section
/-! SUPPORT. The guard unit's arming, its disarming and the SLOW cap it hands to the trim units (O55). -/

namespace Sys2Proof.Machine

/-! ## Arming -/

/-- The bits of an arm set that arm the states of a head (R117, R195). -/
theorem HeadState.armBit_any (q : HeadState) (arm : BitVec 8) : q.armBit.any arm.getLsbD = true ↔
    q = .spinup ∧ arm.getLsbD 0 = true ∨ q = .plunge ∧ arm.getLsbD 1 = true ∨ q = .dwell ∧ arm.getLsbD 2 = true ∨
      q = .traverse ∧ arm.getLsbD 3 = true ∨ q = .exit ∧ arm.getLsbD 4 = true := by
  cases q <;> simp [HeadState.armBit]

/-- The bits of an arm set that arm the states of the pass (R117, R195). -/
theorem PassState.armBit_any (q : PassState) (arm : BitVec 8) : q.armBit.any arm.getLsbD = true ↔
    q = .approach ∧ arm.getLsbD 0 = true ∨ q = .running ∧ arm.getLsbD 1 = true ∨
      q = .held ∧ arm.getLsbD 2 = true := by
  cases q <;> simp [PassState.armBit]

section
variable {s : State} {g : GuardRecord}

/-- A guard record of a head is armed by that head's state, and only while the pass names the head (R117). -/
theorem State.armed_ofHead {h : HeadId} (owner : g.owner = .head h) : s.armed g = true ↔
    g.enabled = true ∧ s.active = true ∧ s.isPassHead h = true ∧
      (s.headState h).armBit.any g.arm.getLsbD = true := by
  unfold State.armed
  rw [owner]
  dsimp only
  cases s.isPassHead h with
  | false => simp
  | true => cases (s.headState h).armBit <;> simp [and_assoc]

/-- A guard record of the gantry is armed by the pass state (R117). -/
theorem State.armed_ofGantry (owner : g.owner = .gantry) : s.armed g = true ↔
    g.enabled = true ∧ s.active = true ∧ s.pass.state.armBit.any g.arm.getLsbD = true := by
  unfold State.armed
  rw [owner]
  cases s.pass.state.armBit <;> simp [and_assoc]

end

/-! ## Disarming -/

theorem Action.latches_eq (a : Action) : a.latches = (a == .hold || a == .exit || a == .halt) := by
  cases a <;> rfl

/-- The disarming reaches the records that are enabled and not armed, and no other (R114, R118). -/
theorem State.disarmGuards_getElem? (s : State) (i : Nat) : s.disarmGuards.guards[i]? =
    s.guards[i]?.map fun g => if s.armed g = false ∧ g.enabled = true then g.disarm else g := by
  have reached (g : GuardRecord) : (if s.armed g || !g.enabled then g else g.disarm) =
      if s.armed g = false ∧ g.enabled = true then g.disarm else g := by
    cases s.armed g <;> cases g.enabled <;> rfl
  rw [State.disarmGuards, List.getElem?_map]
  simp only [reached]

/-! ## The SLOW cap -/

theorem GuardRecord.slows_iff {g : GuardRecord} {h : HeadId} : g.slows h = true ↔
    g.tripped = true ∧ g.action = .slow ∧ (g.owner = .head h ∨ g.owner = .gantry) := by
  simp [GuardRecord.slows, and_assoc]

theorem State.handCaps_trim (s : State) (h : HeadId) :
    ((s.handCaps true).head h).trim = { (s.head h).trim with cap := s.slowCap h } := by
  cases h <;> rfl

section
variable {s : State} {h : HeadId}

/-- Where no guard slows a head, no cap bears on it (R98). -/
theorem State.slowCap_none (free : ∀ g ∈ s.guards, ¬ g.slows h = true) : s.slowCap h = none := by
  rw [State.slowCap, List.filter_eq_nil_iff.2 free]
  rfl

/-- The cap that bears on a head is that of a guard that slows it no less than any other (R98). -/
theorem State.slowCap_some {g : GuardRecord} (listed : g ∈ s.guards) (slows : g.slows h = true)
    (lowest : ∀ k ∈ s.guards, k.slows h = true → g.cap ≤ k.cap) : s.slowCap h = some g.cap := by
  refine least_of_lowest (List.mem_map_of_mem (List.mem_filter.2 ⟨listed, slows⟩)) fun c hc => ?_
  obtain ⟨k, hk, rfl⟩ := List.mem_map.1 hc
  obtain ⟨among, also⟩ := List.mem_filter.1 hk
  exact lowest k among also

end

end Sys2Proof.Machine

namespace Sys2Proof.HeatTrim

open Sys2Proof.Machine

/-- Settles O55: the arming by the owner's arm-set bit (`State.armed_ofHead`, `State.armed_ofGantry`), the disarming record
by record (`State.disarmGuards_getElem?`), the channels by their cases, and the hand-over from the cap that bears on the
head (`State.slowCap_none`, `State.slowCap_some`). -/
theorem guardsArmAndHandCaps : Obligations.GuardsArmAndHandCaps := by
  intro s
  refine ⟨fun g => ?_, fun i => ?_, fun h c => ?_, fun g => ⟨fun h owner => ?_, fun owner channel => ?_,
    fun owner channel => ?_⟩, rfl, fun h => ⟨fun free => ?_, fun g bears lowest => ?_⟩⟩
  · cases owner : g.owner with
    | head h => rw [State.armed_ofHead owner, HeadState.armBit_any]
    | gantry => rw [State.armed_ofGantry owner, PassState.armBit_any]
  · simp only [← Action.latches_eq]
    exact s.disarmGuards_getElem? i
  · cases c <;> rfl
  · rw [State.channelValue, owner]
  · rw [State.channelValue, owner, channel]
  · rw [State.channelValue, owner, channel]
  · rw [State.handCaps_trim, State.slowCap_none fun g listed slows => free ⟨g, listed, GuardRecord.slows_iff.1 slows⟩]
  · obtain ⟨listed, slows⟩ := bears
    rw [State.handCaps_trim, State.slowCap_some listed (GuardRecord.slows_iff.2 slows) fun k among also =>
      lowest k ⟨among, GuardRecord.slows_iff.1 also⟩]

end Sys2Proof.HeatTrim
end

section
/-! SUPPORT. How the points of a map move: requests write and remove them as the checks and the fence of the map let them
through, and nothing else of a command but a power-on touches them. -/

namespace Sys2Proof.Machine

open Sys2Proof.Safety

/-! ## The checks of a point -/

/-- A write at `k` keeps the order of the stations where it lies between its neighbours (R110). -/
theorem keepsOrder_iff {points : List MapPoint} {k : Nat} {p : MapPoint} : keepsOrder points k p = true ↔
    (∀ j q, k = j + 1 → points[j]? = some q → q.station < p.station) ∧
      ∀ q, points[k + 1]? = some q → p.station < q.station := by
  cases k with
  | zero => cases e : points[1]? <;> simp [keepsOrder, e]
  | succ j =>
    have before : (∀ i q, j + 1 = i + 1 → points[i]? = some q → q.station < p.station) ↔
        ∀ q, points[j]? = some q → q.station < p.station :=
      ⟨fun h q => h j q rfl, fun h i q e => by cases e; exact h q⟩
    rw [before]
    cases e : points[j]? <;> cases e' : points[j + 1 + 1]? <;> simp [keepsOrder, e, e']

/-- A write at `k` passes the fence where the point before it stands at the fence or above (R107). -/
theorem passesFence_iff {fence : Option Int} {points : List MapPoint} {k : Nat} : passesFence fence points k = true ↔
    ∀ f, fence = some f → ∃ j q, k = j + 1 ∧ points[j]? = some q ∧ f ≤ q.station := by
  cases fence with
  | none => simp [passesFence]
  | some f =>
    cases k with
    | zero => simp [passesFence]
    | succ j => cases e : points[j]? <;> simp [passesFence, e]

/-- The checks of a point, all passed (R109). -/
theorem checkPoint_done_iff {fence : Option Int} {points : List MapPoint} {k : Nat} {p : MapPoint} :
    checkPoint fence points k p = .done ↔ k ≤ points.length ∧ k < 128 ∧ p.inRange = true ∧
      keepsOrder points k p = true ∧ passesFence fence points k = true := by
  unfold checkPoint
  split
  next full => simp; omega
  next =>
    split
    next outside => simp; omega
    next inside =>
      have placed : k ≤ points.length ∧ k < 128 := by omega
      cases p.inRange <;> cases keepsOrder points k p <;> cases passesFence fence points k <;> simp [placed]

/-! ## Points written and removed -/

/-- How the points of a map move under the writes that its checks and its fence let through (R107 to R112). -/
inductive PointsMove (fence : Option Int) : List MapPoint → List MapPoint → Prop
  | refl (points : List MapPoint) : PointsMove fence points points
  | put {points result : List MapPoint} {k : Nat} {p : MapPoint} : checkPoint fence points k p = .done →
      PointsMove fence (putPoint points k p) result → PointsMove fence points result
  | cut {points : List MapPoint} {n : Nat} : passesFence fence points n = true →
      PointsMove fence points (points.take n)

/-- The points of a stream that passes its checks are written one after the other (R112). -/
theorem PointsMove.ofChecked {fence : Option Int} {ps points result : List MapPoint} {pos k : Nat}
    (checked : checkPoints fence ps pos k points = .inl result) : PointsMove fence points result := by
  induction ps generalizing pos k points with
  | nil =>
    cases checked
    exact .refl _
  | cons p ps ih =>
    rw [checkPoints] at checked
    split at checked
    next done => exact .put done (ih checked)
    next => cases checked

/-! ## The order of the stations -/

/-- A map point stands before another. -/
abbrev MapPoint.Before (p q : MapPoint) : Prop :=
  p.station < q.station

theorem ordered_putPoint {fence : Option Int} {points : List MapPoint} {k : Nat} {p : MapPoint}
    (ordered : points.Pairwise MapPoint.Before) (done : checkPoint fence points k p = .done) :
    (putPoint points k p).Pairwise MapPoint.Before := by
  obtain ⟨inside, -, -, order, -⟩ := checkPoint_done_iff.1 done
  obtain ⟨above, below⟩ := keepsOrder_iff.1 order
  rw [putPoint_eq inside]
  have trans : IsTrans MapPoint MapPoint.Before := ⟨fun _ _ _ => lt_trans⟩
  rw [← List.isChain_iff_pairwise] at ordered ⊢
  rw [List.isChain_append, List.isChain_cons]
  refine ⟨ordered.take k, ⟨fun q hq => below q ?_, ordered.drop (k + 1)⟩, fun q hq r hr => ?_⟩
  · rwa [Option.mem_def, List.head?_drop] at hq
  · obtain rfl : p = r := by simpa using hr
    obtain ⟨j, rfl⟩ : ∃ j, k = j + 1 := Nat.exists_eq_succ_of_ne_zero fun zero => by simp [zero] at hq
    refine above j q rfl ?_
    have last : points[j]? = some points[j] := List.getElem?_eq_getElem inside
    rw [Option.mem_def, List.getLast?_take, if_neg j.succ_ne_zero, Nat.add_sub_cancel, last] at hq
    exact last.trans hq

theorem length_putPoint {points : List MapPoint} {k : Nat} (inside : k < 128) (p : MapPoint)
    (short : points.length ≤ 128) (reached : k ≤ points.length) : (putPoint points k p).length ≤ 128 := by
  unfold putPoint
  split
  · rwa [List.length_set]
  · rw [List.length_append, List.length_singleton]
    omega

/-- Writes that pass their checks keep a map within 128 points at strictly rising stations (R103, R110). -/
theorem PointsMove.ordered {fence : Option Int} {points result : List MapPoint} (move : PointsMove fence points result)
    (short : points.length ≤ 128) (order : points.Pairwise MapPoint.Before) :
    result.length ≤ 128 ∧ result.Pairwise MapPoint.Before := by
  induction move with
  | refl => exact ⟨short, order⟩
  | put done _ ih =>
    obtain ⟨reached, inside, -⟩ := checkPoint_done_iff.1 done
    exact ih (length_putPoint inside _ short reached) (ordered_putPoint order done)
  | cut => exact ⟨(List.length_take_le' ..).trans short, order.sublist (List.take_sublist ..)⟩

/-! ## The lookup below the fence -/

theorem lookupFrom_take {s : Int} {q : MapPoint} {rest : List MapPoint} {j : Nat} (p : MapPoint)
    (listed : rest[j]? = some q) (below : s < q.station) :
    lookupFrom s p (rest.take (j + 1)) = lookupFrom s p rest := by
  induction rest generalizing j p with
  | nil => cases listed
  | cons r rest ih =>
    rw [List.take_succ_cons, lookupFrom, lookupFrom]
    cases j with
    | zero =>
      obtain rfl : r = q := Option.some.inj listed
      rw [if_neg below.not_ge, if_neg below.not_ge]
    | succ j => rw [ih r listed]

/-- Below the station of a point, the lookup reads no point behind it (R104). -/
theorem lookup_take {s : Int} {q : MapPoint} {points : List MapPoint} {j : Nat} (listed : points[j]? = some q)
    (below : s < q.station) : lookup (points.take (j + 1)) s = lookup points s := by
  cases points with
  | nil => cases listed
  | cons p rest =>
    rw [List.take_succ_cons, lookup, lookup]
    cases j with
    | zero =>
      obtain rfl : p = q := Option.some.inj listed
      rw [if_pos below.le, if_pos below.le]
    | succ j => rw [lookupFrom_take (rest := rest) p listed below]

/-- Maps that agree up to a point give the same below its station (R104). -/
theorem lookup_of_front {s : Int} {q : MapPoint} {points result : List MapPoint} {j : Nat}
    (front : result.take (j + 1) = points.take (j + 1)) (listed : points[j]? = some q) (below : s < q.station) :
    lookup result s = lookup points s := by
  have kept : result[j]? = some q := by
    rw [← listed, ← List.getElem?_take_of_lt j.lt_succ_self, front, List.getElem?_take_of_lt j.lt_succ_self]
  rw [← lookup_take kept below, front, lookup_take listed below]

/-- Writes that pass the fence leave the lookup below it (R107). -/
theorem PointsMove.lookup_below {f s : Int} {points result : List MapPoint} (move : PointsMove (some f) points result)
    (below : s < f) : lookup result s = lookup points s := by
  induction move with
  | refl => rfl
  | put done _ ih =>
    obtain ⟨reached, -, -, -, fenced⟩ := checkPoint_done_iff.1 done
    obtain ⟨j, q, rfl, listed, beyond⟩ := passesFence_iff.1 fenced f rfl
    refine ih.trans (lookup_of_front ?_ listed (below.trans_le beyond))
    rw [putPoint_eq reached, List.take_left' (List.length_take_of_le reached)]
  | cut fenced =>
    obtain ⟨j, q, rfl, listed, beyond⟩ := passesFence_iff.1 fenced f rfl
    exact lookup_take listed (below.trans_le beyond)

end Sys2Proof.Machine
end

section
/-! SUPPORT. Every command but a power-on moves the points of a map by writes that pass its checks. -/

namespace Sys2Proof.Machine

open Sys2Proof.Safety

/-- From `s` to `t` the points of a head's map move by writes that its checks and its fence let through. -/
def MapMoves (h : HeadId) (s t : State) : Prop :=
  PointsMove (s.head h).map.fence (s.head h).map.points (t.head h).map.points

/-! ## Writes -/

theorem State.modMap_congr {s : State} {h : HeadId} {f g : CompMap → CompMap}
    (e : f (s.head h).map = g (s.head h).map) : s.modMap h f = s.modMap h g :=
  State.modHead_congr (congrArg (fun m => { s.head h with map := m }) e)

section
variable {s t : State} {h : HeadId}

theorem MapMoves.same (e : (t.head h).map.points = (s.head h).map.points) : MapMoves h s t := by
  unfold MapMoves
  rw [e]
  exact .refl _

theorem MapMoves.refl (s : State) : MapMoves h s s :=
  .same rfl

theorem MapMoves.worked (w : Worked s t) : MapMoves h s t :=
  .same (w.points h)

/-- The points of one map are replaced by a move of them. -/
theorem MapMoves.modMap (x : HeadId) {points : List MapPoint}
    (move : PointsMove (s.head x).map.fence (s.head x).map.points points) :
    MapMoves h s (s.modMap x fun m => { m with points := points }) := by
  rcases HeadId.eq_or_other h x with rfl | rfl
  · unfold MapMoves
    rw [State.modMap_head]
    exact move
  · exact .same (by rw [State.modMap_other])

theorem State.refuseFence_worked (s : State) (x : HeadId) (k : Nat) : Worked s (s.refuseFence x k) :=
  (Worked.modMap s x _ rfl).trans (State.raise_worked ..)

theorem MapMoves.writePoint (x : HeadId) (k : Nat) (p : MapPoint) : MapMoves h s (writePoint s x k p).state := by
  unfold Machine.writePoint
  dsimp only
  split
  next done => exact .modMap x (.put done (.refl _))
  next => exact .worked (s.refuseFence_worked x k)
  next => exact .refl s

theorem MapMoves.writeHeader (x : HeadId) (n : Nat) : MapMoves h s (writeHeader s x n).state := by
  unfold Machine.writeHeader
  dsimp only
  split
  · exact .refl s
  · split
    · exact .refl s
    · split
      · exact .refl s
      · split
        next => exact .worked (s.refuseFence_worked x n)
        next passes =>
          rw [Bool.not_eq_true', Bool.not_eq_false] at passes
          rw [State.done, State.modMap_congr (g := fun m => { m with points := (s.head x).map.points.take n }) rfl]
          exact .modMap x (.cut passes)

/-- A head whose profile is replaced keeps its map. -/
theorem MapMoves.modProfile (x : HeadId) (p : HeadProfile) :
    MapMoves h s (s.modHead x fun y => { y with profile := p }) := by
  rcases HeadId.eq_or_other h x with rfl | rfl
  · exact .same (by rw [State.modHead_head])
  · exact .same (by rw [State.modHead_other])

theorem MapMoves.writePage (x : HeadId) (page : Nat) (bs : List Byte) :
    MapMoves h s (writePage s x page bs).state := by
  unfold Machine.writePage
  dsimp only
  split
  · exact .refl s
  · split
    · exact .refl s
    · split
      · exact .modProfile x _
      · exact .modProfile x _
      · exact .refl s

theorem MapMoves.onHead (r : Request) {f : HeadId → Answer} (hf : ∀ x, MapMoves h s (f x).state) :
    MapMoves h s (s.onHead r f).state := by
  unfold State.onHead
  split
  · exact hf _
  · exact .refl s

theorem MapMoves.ofLength (r : Request) (n : Nat) {a : Answer} (ha : MapMoves h s a.state) :
    MapMoves h s (s.ofLength r n a).state := by
  unfold State.ofLength
  split
  · exact ha
  · exact .refl s

/-- WRITE RECORD on any table (R175). -/
theorem MapMoves.writeRecord (r : Request) : MapMoves h s (answerWriteRecord s r).state := by
  have header : MapMoves h s (answerWriteMapHeader s r).state :=
    .onHead r fun x => .ofLength r 10 (.writeHeader x _)
  unfold answerWriteRecord
  split
  case h_1 => exact .refl s
  case h_2 => exact .onHead r fun _ => .refl s
  case h_3 =>
    unfold answerWriteMap
    split
    · exact header
    · exact .onHead r fun x => .ofLength r 8 (.writePoint x _ _)
  case h_4 =>
    refine .ofLength r 16 ?_
    unfold writeGuard
    repeat' split
    all_goals exact .refl s
  case h_5 =>
    refine .ofLength r 42 ?_
    unfold writeGantry
    repeat' split
    all_goals exact .refl s
  case h_6 =>
    refine .onHead r fun x => ?_
    split
    · exact .refl s
    · exact .ofLength r _ (.writePage x _ _)
  case h_7 =>
    refine .ofLength r 3 ?_
    unfold writeSlot
    repeat' split
    all_goals exact .refl s

/-! ## Queues and streams -/

/-- A record that joins a queue leaves the maps. -/
theorem MapMoves.modSeq (x : HeadId) (f : Sequencer → Sequencer) : MapMoves h s (s.modSeq x f) := by
  rcases HeadId.eq_or_other h x with rfl | rfl
  · exact .same (by rw [State.modSeq_head])
  · exact .same (by rw [State.modSeq_other])

theorem MapMoves.appendRecord (x : HeadId) (bs : List Byte) : MapMoves h s (appendRecord s x bs).state := by
  unfold Machine.appendRecord
  dsimp only
  split
  · exact .refl s
  · split
    · exact .refl s
    · split
      · exact .modSeq x _
      · exact .refl s

theorem MapMoves.applySegments (x : HeadId) (records : List (List Byte)) :
    MapMoves h s (applySegments s x records).state := by
  unfold Machine.applySegments
  dsimp only
  split
  · exact .refl s
  · split
    · exact .modSeq x _
    · exact .refl s

theorem MapMoves.applyPoints (x : HeadId) (first : Nat) (records : List (List Byte)) :
    MapMoves h s (applyPoints s x first records).state := by
  unfold Machine.applyPoints
  dsimp only
  split
  next checked => exact .modMap x (.ofChecked checked)
  next => exact .worked (.ite (s.refuseFence_worked x _) (.refl s))

theorem MapMoves.applyGuards (first : Nat) (records : List (List Byte)) :
    MapMoves h s (applyGuards s first records).state := by
  unfold Machine.applyGuards
  split
  · exact .refl s
  · split
    next gs _ => exact .same (by rw [State.done, putGuards_head])
    next => exact .refl s

/-- A complete stream closes, and its records are applied by table (R180). -/
theorem MapMoves.completeStream (c : Stream) (records : List (List Byte)) :
    MapMoves h s (completeStream s c records).state := by
  have closed {a : Answer} (ha : MapMoves h s.closeStream a.state) : MapMoves h s a.state := ha
  unfold Machine.completeStream
  dsimp only
  split
  · exact .refl s
  · split
    · exact closed (.applySegments ..)
    · exact closed (.applyPoints ..)
    · exact closed (.applyGuards ..)

theorem MapMoves.streamData (r : Request) : MapMoves h s (answerStreamData s r).state := by
  unfold answerStreamData
  dsimp only
  split
  · exact .refl s
  · split
    · exact .refl s
    · split
      · exact .completeStream ..
      · exact .refl s

/-! ## Requests -/

/-- PASS START fills the pass record, which no map reads, and starts the heads (R4). -/
theorem MapMoves.startPass (o : PassOrder) : MapMoves h s (s.startPass o) :=
  .same ((s.startPass_worked o).points h)

/-- Every request moves the points of a map by writes that pass its checks. -/
theorem MapMoves.answer (k : RequestKind) (r : Request) : MapMoves h s (k.answer s r).state := by
  cases k <;> simp only [RequestKind.answer]
  case readRecord => exact .same (by rw [answerReadRecord_state])
  case writeRecord => exact .writeRecord r
  case appendSegment => exact .onHead r fun x => .appendRecord x _
  case cancelPending => exact .onHead r fun x => .worked (State.cancel_worked s x)
  case streamData => exact .streamData r
  case passStart =>
    unfold answerPassStart
    repeat' split
    case h_2 => exact .startPass _
    all_goals exact .refl s
  case passHold =>
    unfold answerPassHold
    repeat' split
    case isFalse.isFalse => exact .worked (s.holdOrder_worked _)
    all_goals exact .refl s
  case passAbort =>
    unfold answerPassAbort
    repeat' split
    case isFalse.isFalse => exact .worked s.abortPass_worked
    all_goals exact .refl s
  case takeEvent => exact .refl s
  all_goals
    dsimp only [answerReadStatus, answerStreamOpen, answerStreamCancel, answerPassResume, answerEnterReady,
      answerEnterConfig, answerSetEventMask, answerClearFault, answerResetNode]
    repeat' split
    all_goals exact .refl s

/-- What is written over the area and into the last reply record is no map (R171, R172). -/
theorem MapMoves.request (k : RequestKind) (r : Request) : MapMoves h s (s.request k r) := by
  have checked : MapMoves h s (s.checkedAnswer k r).state := by
    unfold State.checkedAnswer
    split
    · exact .answer k r
    · exact .refl s
  cases serving : s.serving with
  | false =>
    rw [State.request_passed serving]
    exact .refl s
  | true =>
    rw [State.request_served serving]
    split <;> exact checked

theorem MapMoves.serveArea (payload : List Byte) : MapMoves h s (s.serveArea payload) := by
  unfold State.serveArea
  dsimp only
  split
  next served =>
    unfold State.serveCode
    split
    next k _ =>
      have request := MapMoves.request (s := s) (h := h) k (readArea (payload.take 64))
      rwa [State.request, if_pos served.2.1] at request
    next => exact .refl s
  next => exact .refl s

/-! ## Sets and resets -/

/-- A reset retains the points (R103). -/
theorem MapMoves.afterReset (straps : BitVec 6) (p : Power) : MapMoves h s (s.afterReset straps p) :=
  .same (by cases h <;> rfl)

theorem State.countIdle_points (s : State) (h : HeadId) :
    (s.countIdle.head h).map.points = (s.head h).map.points := by
  rw [s.countIdle_frame.1]
  rfl

theorem MapMoves.acceptFrame (payload : List Byte) (now : Nat) (pins : Pins) :
    MapMoves h s (s.acceptFrame payload now pins) := by
  refine .same (((State.sampleSet_worked _).points h).trans ((State.countIdle_points _ h).trans ?_))
  split
  · exact ((State.raise_worked ..).points h)
  · rfl

theorem MapMoves.testFrame (f : PassingFrame) (now : Nat) (pins : Pins) :
    MapMoves h s (s.testFrame f now pins) := by
  unfold State.testFrame
  split
  · exact .refl s
  · split
    · exact .refl s
    · split
      · exact .same ((State.raise_worked ..).points h)
      · exact .acceptFrame ..

theorem MapMoves.completeFrame (now : Nat) (pins : Pins) : MapMoves h s (s.completeFrame now pins) := by
  unfold State.completeFrame
  split
  · exact .afterReset ..
  · split
    next f _ =>
      have tested := MapMoves.testFrame (s := { s with port := { s.port with passing := none } }) (h := h) f now pins
      exact tested
    next => exact .refl s

theorem State.markLost_points (s : State) (h : HeadId) : (s.markLost.head h).map.points = (s.head h).map.points :=
  (State.raise_worked ..).points h

theorem MapMoves.expireWindow (stop : Bool) : MapMoves h s (s.expireWindow stop) := by
  unfold State.expireWindow
  split
  next due t _ _ =>
    refine .same (((State.coastSet_worked _ _).points h).trans ((State.countIdle_points _ h).trans ?_))
    split
    · exact State.markLost_points _ h
    · rfl
  next => exact .refl s

theorem MapMoves.ringLoss : MapMoves h s s.ringLoss := by
  have lost := ((State.loseRing_worked s.markLost).points h).trans (s.markLost_points h)
  unfold State.ringLoss
  split
  · dsimp only
    split
    · exact .same ((((State.takeCause_worked ..).trans (State.testPassEnd_worked _)).points h).trans lost)
    · exact .same lost
  · exact .refl s

theorem MapMoves.expireStream : MapMoves h s s.expireStream := by
  unfold State.expireStream
  split
  · exact .same ((State.raise_worked ..).points h)
  · exact .refl s

theorem MapMoves.ifRunning (move : MapMoves h s t) : MapMoves h s (s.ifRunning t) := by
  unfold State.ifRunning
  split
  · exact move
  · exact .refl s

/-! ## Every command and every step -/

/-- Every command but a power-on moves the points of a map by writes that pass its checks. -/
theorem MapMoves.exec {c : Instr} (e : Machine.exec c s = .next t) (supplied : ∀ straps, c ≠ .powerOn straps) :
    MapMoves h s t := by
  cases hc : asked c with
  | some kr =>
    rw [exec_asked hc] at e
    cases e
    exact .request ..
  | none =>
    cases c <;> simp only [asked, reduceCtorEq] at hc <;> obtain rfl := Host.Outcome.next.inj e
    case powerOn straps => exact absurd rfl (supplied straps)
    case supplyLoss => exact .refl s
    case resetLine => split <;> exact .refl s
    case resetNegated =>
      split
      · exact .afterReset ..
      · exact .refl s
    case startTime => split <;> exact .refl s
    case cycleFrame f =>
      split
      · have served := MapMoves.serveArea (s := s) (h := h) f.payload
        exact served
      · exact .refl s
    case unknownRequest =>
      unfold State.requestUnknown
      split <;> exact .refl s
    all_goals refine .ifRunning ?_
    case frameCompletion => exact .completeFrame ..
    case cycleWindowExpiry => exact .expireWindow _
    case ringLost => exact .ringLoss
    case streamExpired => exact .expireStream
    all_goals refine .worked ?_
    case filteredMarkEdge => exact State.markEdge_worked _
    case arrival => exact State.arrival_worked _
    case spinupStart => exact State.startSpinup_worked ..
    case atSpeed => exact State.atSpeed_worked ..
    case contact => exact State.takeContact_worked ..
    case seatComplete => exact State.seatComplete_worked ..
    case dwellEnd => exact State.dwellEnd_worked ..
    case repetitionEnd => exact State.repetitionEnd_worked ..
    case traverseCompletesAtRest => exact State.completeAtRest_worked ..
    case starvationEnd => exact State.starvationEnd_worked ..
    case appendedStartTaken => exact State.takeAppendedStart_worked ..
    case brakeEnd => exact State.brakeEnd_worked ..
    case runoutEnd => exact State.runoutEnd_worked ..
    case retractEnd => exact State.retractEnd_worked ..
    case spindownEnd => exact State.spindownEnd_worked ..
    case spinstop => exact State.enterSpinstop_worked ..
    case withdrawalEnd => exact State.withdrawalEnd_worked ..
    case passEnd => exact State.testPassEnd_worked ..
    all_goals exact .ite ((State.takeCause_worked ..).trans (State.testPassEnd_worked _)) (.refl _)

end

end Sys2Proof.Machine

namespace Sys2Proof.Safety

open Sys2Proof.Machine

/-- A step that takes no power-on from the queue moves the points of a map by writes that pass its checks. -/
theorem mapMoves_step {s t : State} (h : HeadId) (supplied : ∀ straps rest, s.pending ≠ .powerOn straps :: rest)
    (e : step s = .next t) : MapMoves h s t := by
  unfold step at e
  split at e
  · cases e
    exact .refl s
  next c rest front =>
    have moves : MapMoves h (s.afterFront rest) t := .exec e fun straps same => supplied straps rest (same ▸ front)
    exact moves

theorem MapOk.moves {s t : State} {h : HeadId} (ok : MapOk s h) (m : MapMoves h s t) : MapOk t h :=
  PointsMove.ordered m ok.1 ok.2

/-- A map that a power-on leaves is empty (R103). -/
theorem MapOk.powerOn (h : HeadId) (straps : BitVec 6) (pending : List Instr) :
    MapOk { State.powerOn straps with pending := pending } h := by
  cases h <;> exact ⟨Nat.zero_le _, .nil⟩

end Sys2Proof.Safety

namespace Sys2Proof.CompensationMaps

open Sys2Proof.Machine Sys2Proof.Safety

/-- Settles O5: a power-on empties the map (`MapOk.powerOn`), and every other step writes and removes points as the checks
let it (`mapMoves_step`), which keep the map in order and within its length (`PointsMove.ordered`). -/
theorem stepKeepsMapOrder : Obligations.StepKeepsMapOrder := by
  intro s t h ok e
  by_cases supplied : ∀ straps rest, s.pending ≠ .powerOn straps :: rest
  · exact ok.moves (mapMoves_step h supplied e)
  · push Not at supplied
    obtain ⟨straps, rest, front⟩ := supplied
    rw [step, front] at e
    cases e
    exact .powerOn h straps rest

end Sys2Proof.CompensationMaps
end

section
/-! SUPPORT. The fence that a set forms. -/

namespace Sys2Proof.Machine

/-- A set that the blocks have worked ends with the fence of each head's state and station (R106). -/
theorem State.fencedSet_fence (s : State) (accepted loss : Bool) (h : HeadId) :
    let u := s.fencedSet accepted loss
    (u.head h).map.fence = if (u.headState h).fenced = true then
      some (limit32 ((u.head h).seq.station + u.gantry.fenceMargin)) else none := by
  unfold State.fencedSet
  cases h <;> rfl

/-- The pass-end test leaves the maps (R12). -/
theorem State.testPassEnd_map (s : State) (h : HeadId) : (s.testPassEnd.head h).map = (s.head h).map := by
  rcases s.testPassEnd_head h with e | e
  · rw [e]
  · rw [e]
    rfl

theorem State.endPlanner_map (s : State) (h : HeadId) : (s.endPlanner.head h).map = (s.head h).map := by
  rw [State.endPlanner_eq]
  split
  · exact State.testPassEnd_map ..
  · rfl

end Sys2Proof.Machine

namespace Sys2Proof.CompensationMaps

open Sys2Proof.Machine Sys2Proof.Safety

/-- Settles O57: the fence is formed behind the blocks (`State.fencedSet_fence`), and neither the planner's end nor the work
before it moves a head (`State.endPlanner_restKey`, `State.workSet_place`); a step writes points as the fence lets it
(`mapMoves_step`), and the lookup below the fence reads none of them (`PointsMove.lookup_below`). -/
theorem fenceKeepsTheLookupBelow : Obligations.FenceKeepsTheLookupBelow := by
  refine ⟨?_, fun s t h f _ fence supplied e station below => ?_⟩
  · rintro s t accepted loss h rfl
    let u := s.fencedSet accepted loss
    have map : ((s.workSet accepted loss).head h).map = (u.head h).map := u.endPlanner_map h
    have state : (s.workSet accepted loss).headState h = u.headState h :=
      congrArg Sequencer.state (u.endPlanner_restKey h).2
    have station : (u.head h).seq.station = (s.head h).seq.station := (s.fencedSet_steady accepted loss).station h
    have margin : u.gantry = s.gantry := (s.fencedSet_worked accepted loss).gantry
    have formed : (u.head h).map.fence = if (u.headState h).fenced = true then
        some (limit32 ((u.head h).seq.station + u.gantry.fenceMargin)) else none := s.fencedSet_fence accepted loss h
    rw [map, state, formed, ← station, ← margin]
    simp only [SharedTraverse.fenced_iff, limit32, limit_eq_max_min (show (-2147483648 : Int) ≤ 2147483647 by decide)]
  · have move : PointsMove (s.head h).map.fence (s.head h).map.points (t.head h).map.points :=
      mapMoves_step h supplied e
    rw [fence] at move
    exact move.lookup_below below

end Sys2Proof.CompensationMaps
end

section
/-! SUPPORT. The interpolation of the lookup, and where in a map a station is looked up (R104). -/

namespace Sys2Proof.Machine

/-! ## The quotient rounded to nearest -/

/-- `q` is the quotient `n / d` rounded to nearest, halves away from zero (R104). -/
def NearestQuotient (n d q : Int) : Prop :=
  2 * mag (n - q * d) ≤ d ∧ (2 * mag (n - q * d) = d → mag n < mag (q * d))

theorem mag_eq_abs (x : Int) : mag x = |x| := by
  unfold mag
  split
  next h => exact (abs_of_neg h).symm
  next h => exact (abs_of_nonneg (not_lt.1 h)).symm

theorem divNear_of_nonneg {n d : Int} (hn : 0 ≤ n) (hd : 0 < d) : divNear n d = (2 * n + d) / (2 * d) := by
  have signs : (n < 0) = (d < 0) := by simp [hn.not_gt, hd.not_gt]
  simp only [divNear, if_pos signs]
  push_cast
  rw [abs_of_nonneg hn, abs_of_pos hd]

theorem divNear_of_neg {n d : Int} (hn : n < 0) (hd : 0 < d) : divNear n d = -((2 * -n + d) / (2 * d)) := by
  have signs : ¬ (n < 0) = (d < 0) := by simp [hn, hd.not_gt]
  simp only [divNear, if_neg signs]
  push_cast
  rw [abs_of_neg hn, abs_of_pos hd]

theorem divNear_zero {d : Int} (hd : 0 < d) : divNear 0 d = 0 := by
  rw [divNear_of_nonneg le_rfl hd]
  exact Int.ediv_eq_zero_of_lt (by omega) (by omega)

theorem divNear_neg {n d : Int} (hd : 0 < d) : divNear (-n) d = -divNear n d := by
  rcases lt_trichotomy n 0 with hn | rfl | hn
  · rw [divNear_of_nonneg (by omega) hd, divNear_of_neg hn hd, neg_neg]
  · rw [neg_zero, divNear_zero hd, neg_zero]
  · rw [divNear_of_neg (by omega) hd, divNear_of_nonneg hn.le hd, neg_neg]

/-- The quotient of a number that is not negative lies at most a half below and less than a half above it. -/
theorem divNear_bounds {n d : Int} (hn : 0 ≤ n) (hd : 0 < d) :
    2 * (divNear n d * d) ≤ 2 * n + d ∧ 2 * n < 2 * (divNear n d * d) + d ∧ 0 ≤ divNear n d := by
  rw [divNear_of_nonneg hn hd]
  have whole := Int.mul_ediv_add_emod (2 * n + d) (2 * d)
  have low := Int.emod_nonneg (2 * n + d) (show 2 * d ≠ 0 by omega)
  have high := Int.emod_lt_of_pos (2 * n + d) (show 0 < 2 * d by omega)
  have sign : 0 ≤ (2 * n + d) / (2 * d) := Int.ediv_nonneg (by omega) (by omega)
  have turned : 2 * d * ((2 * n + d) / (2 * d)) = 2 * ((2 * n + d) / (2 * d) * d) := by ring
  rw [turned] at whole
  omega

theorem nearestQuotient_neg {n d q : Int} (h : NearestQuotient n d q) : NearestQuotient (-n) d (-q) := by
  have rest : -n - -q * d = -(n - q * d) := by ring
  have whole : -q * d = -(q * d) := by ring
  simp only [NearestQuotient, mag_eq_abs] at h ⊢
  rwa [rest, whole, abs_neg, abs_neg, abs_neg]

theorem divNear_nearest {n d : Int} (hd : 0 < d) : NearestQuotient n d (divNear n d) := by
  have positive {m : Int} (hm : 0 ≤ m) : NearestQuotient m d (divNear m d) := by
    obtain ⟨high, low, sign⟩ := divNear_bounds hm hd
    have whole := mul_nonneg sign hd.le
    simp only [NearestQuotient, mag_eq_abs, abs_eq_max_neg]
    omega
  rcases le_total 0 n with hn | hn
  · exact positive hn
  · have negated := nearestQuotient_neg (positive (neg_nonneg.2 hn))
    rwa [divNear_neg hd, neg_neg, neg_neg] at negated

/-- A part `k` of `d` of a difference that is not negative rounds to between 0 and the difference. -/
theorem divNear_part_bounds {v k d : Int} (hv : 0 ≤ v) (hk : 0 ≤ k) (hkd : k ≤ d) (hd : 0 < d) :
    0 ≤ divNear (v * k) d ∧ divNear (v * k) d ≤ v := by
  obtain ⟨high, -, sign⟩ := divNear_bounds (mul_nonneg hv hk) hd
  refine ⟨sign, ?_⟩
  by_contra above
  have part : v * k ≤ v * d := mul_le_mul_of_nonneg_left hkd hv
  have whole : (v + 1) * d ≤ divNear (v * k) d * d := mul_le_mul_of_nonneg_right (by omega) hd.le
  have next : (v + 1) * d = v * d + d := by ring
  omega

/-- An interpolated value lies between the values of the two points (R104). -/
theorem interpolate_between (v0 v1 : Int) {s0 s1 s : Int} (hs : s0 ≤ s) (below : s < s1) :
    min v0 v1 ≤ interpolate v0 v1 s0 s1 s ∧ interpolate v0 v1 s0 s1 s ≤ max v0 v1 := by
  have part {v : Int} (hv : 0 ≤ v) := divNear_part_bounds hv (k := s - s0) (d := s1 - s0) (by omega) (by omega) (by omega)
  unfold interpolate
  rcases le_total v0 v1 with rising | falling
  · have bounds := part (v := v1 - v0) (by omega)
    omega
  · have bounds := part (v := v0 - v1) (by omega)
    have turned : (v1 - v0) * (s - s0) = -((v0 - v1) * (s - s0)) := by ring
    rw [turned, divNear_neg (by omega)]
    omega

theorem interpolate_start (v0 v1 s0 : Int) {s1 : Int} (h : s0 < s1) : interpolate v0 v1 s0 s1 s0 = v0 := by
  rw [interpolate, sub_self, mul_zero, divNear_zero (by omega), add_zero]

/-! ## The place of a station in a map -/

/-- What the lookup gives between two points (R104). -/
def between (p q : MapPoint) (s : Int) : Int × Int :=
  (interpolate p.kf q.kf p.station q.station s, interpolate p.dz q.dz p.station q.station s)

theorem between_start {p q : MapPoint} (h : p.station < q.station) : between p q p.station = (p.kf, p.dz) := by
  rw [between, interpolate_start _ _ _ h, interpolate_start _ _ _ h]

theorem lookupFrom_between {s : Int} {p q r : MapPoint} {rest : List MapPoint} {k : Nat}
    (order : (r :: rest).Pairwise MapPoint.Before) (lower : (r :: rest)[k]? = some p)
    (upper : (r :: rest)[k + 1]? = some q) (reached : p.station ≤ s) (below : s < q.station) :
    lookupFrom s r rest = between p q s := by
  induction k generalizing r rest with
  | zero =>
    cases rest with
    | nil => cases upper
    | cons r' rest =>
      cases lower
      cases upper
      rw [lookupFrom, if_neg below.not_ge, between]
  | succ k ih =>
    cases rest with
    | nil => cases lower
    | cons r' rest =>
      obtain ⟨-, order⟩ := List.pairwise_cons.1 order
      have passed : r'.station ≤ s := by
        cases k with
        | zero =>
          cases lower
          exact reached
        | succ k => exact ((List.pairwise_cons.1 order).1 p (List.mem_of_getElem? lower)).le.trans reached
      rw [lookupFrom, if_pos passed]
      exact ih order lower upper

/-- Between two points of a map the lookup interpolates (R104). -/
theorem lookup_between {s : Int} {p q : MapPoint} {points : List MapPoint} {k : Nat}
    (order : points.Pairwise MapPoint.Before) (lower : points[k]? = some p) (upper : points[k + 1]? = some q)
    (reached : p.station ≤ s) (below : s < q.station) : lookup points s = between p q s := by
  cases points with
  | nil => cases lower
  | cons r rest =>
    rw [lookup]
    split
    next early =>
      cases k with
      | zero =>
        cases lower
        obtain rfl : s = p.station := le_antisymm early reached
        exact (between_start below).symm
      | succ k =>
        have behind := (List.pairwise_cons.1 order).1 p (List.mem_of_getElem? lower)
        exact absurd (behind.trans_le reached) early.not_gt
    next => exact lookupFrom_between order lower upper reached below

theorem lookupFrom_last {s : Int} {p r : MapPoint} {rest : List MapPoint} (passed : ∀ q ∈ rest, q.station ≤ s)
    (last : (r :: rest).getLast? = some p) : lookupFrom s r rest = (p.kf, p.dz) := by
  induction rest generalizing r with
  | nil =>
    cases last
    rfl
  | cons r' rest ih =>
    rw [lookupFrom, if_pos (passed r' List.mem_cons_self)]
    exact ih (fun q hq => passed q (List.mem_cons_of_mem r' hq)) (List.getLast?_cons_cons ▸ last)

/-- Beyond its last point a map holds that point's values (R104). -/
theorem lookup_last {s : Int} {p : MapPoint} {points : List MapPoint} (order : points.Pairwise MapPoint.Before)
    (last : points.getLast? = some p) (passed : p.station ≤ s) : lookup points s = (p.kf, p.dz) := by
  obtain ⟨front, rfl⟩ := List.getLast?_eq_some_iff.1 last
  obtain ⟨-, -, before⟩ := List.pairwise_append.1 order
  have passed (q : MapPoint) (hq : q ∈ front) : q.station < s :=
    (before q hq p (List.mem_singleton_self p)).trans_le passed
  cases front with
  | nil =>
    rw [List.nil_append, lookup]
    split <;> rfl
  | cons r rest =>
    rw [List.cons_append, lookup, if_neg (passed r List.mem_cons_self).not_ge]
    refine lookupFrom_last (fun q hq => ?_) last
    rcases List.mem_append.1 hq with hq | hq
    · exact (passed q (List.mem_cons_of_mem r hq)).le
    · obtain rfl := List.mem_singleton.1 hq
      assumption

theorem lookupFrom_cases {s : Int} (r : MapPoint) (rest : List MapPoint) (reached : r.station ≤ s) :
    (∃ p ∈ r :: rest, lookupFrom s r rest = (p.kf, p.dz)) ∨
      ∃ p ∈ r :: rest, ∃ q ∈ r :: rest, p.station ≤ s ∧ s < q.station ∧ lookupFrom s r rest = between p q s := by
  induction rest generalizing r with
  | nil => exact .inl ⟨r, List.mem_cons_self, rfl⟩
  | cons r' rest ih =>
    rw [lookupFrom]
    split
    next passed =>
      exact (ih r' passed).imp (fun ⟨p, hp, value⟩ => ⟨p, List.mem_cons_of_mem r hp, value⟩)
        fun ⟨p, hp, q, hq, value⟩ => ⟨p, List.mem_cons_of_mem r hp, q, List.mem_cons_of_mem r hq, value⟩
    next ahead =>
      exact .inr ⟨r, List.mem_cons_self, r', List.mem_cons_of_mem r List.mem_cons_self, reached, not_le.1 ahead, rfl⟩

/-- The lookup gives the values of a point, or interpolates between two points about the station (R104). -/
theorem lookup_cases {points : List MapPoint} (s : Int) (mapped : points ≠ []) :
    (∃ p ∈ points, lookup points s = (p.kf, p.dz)) ∨
      ∃ p ∈ points, ∃ q ∈ points, p.station ≤ s ∧ s < q.station ∧ lookup points s = between p q s := by
  cases points with
  | nil => exact absurd rfl mapped
  | cons r rest =>
    rw [lookup]
    split
    next => exact .inl ⟨r, List.mem_cons_self, rfl⟩
    next behind => exact lookupFrom_cases r rest (not_le.1 behind).le

/-- Values of points that lie in the ranges of kf and dz are looked up in them (R103, R104). -/
theorem lookup_inRange {points : List MapPoint} (s : Int)
    (ranged : ∀ p ∈ points, 500 ≤ p.kf ∧ p.kf ≤ 1500 ∧ -2000 ≤ p.dz ∧ p.dz ≤ 2000) :
    500 ≤ (lookup points s).1 ∧ (lookup points s).1 ≤ 1500 ∧ -2000 ≤ (lookup points s).2 ∧
      (lookup points s).2 ≤ 2000 := by
  by_cases mapped : points = []
  · rw [mapped, lookup]
    decide
  · rcases lookup_cases s mapped with ⟨p, hp, value⟩ | ⟨p, hp, q, hq, reached, below, value⟩
    · rw [value]
      exact ranged p hp
    · have kf := interpolate_between p.kf q.kf reached below
      have dz := interpolate_between p.dz q.dz reached below
      have lower := ranged p hp
      have upper := ranged q hq
      rw [value, between]
      dsimp only
      omega

end Sys2Proof.Machine

namespace Sys2Proof.CompensationMaps

open Sys2Proof.Machine Sys2Proof.Safety

/-- Settles O56: the ends by the first and the last point (`lookup_last`), the quotient between two points by
`divNear_nearest`, and the bounds by `interpolate_between`. -/
theorem mapLookupInterpolates : Obligations.MapLookupInterpolates := by
  intro points s order
  refine ⟨fun empty => by rw [empty, lookup], fun p first early => ?_, fun p last passed => lookup_last order last passed,
    fun ranged => lookup_inRange s ranged, fun k p q lower upper reached below => ?_⟩
  · obtain ⟨rest, rfl⟩ := List.head?_eq_some_iff.1 first
    rw [lookup, if_pos early]
  · have near (v0 v1 : Int) := divNear_nearest (n := (v1 - v0) * (s - p.station)) (d := q.station - p.station) (by omega)
    obtain ⟨kfLow, kfHigh⟩ := interpolate_between p.kf q.kf reached below
    obtain ⟨dzLow, dzHigh⟩ := interpolate_between p.dz q.dz reached below
    exact ⟨_, _, lookup_between order lower upper reached below, near p.kf q.kf, near p.dz q.dz, kfLow, kfHigh, dzLow,
      dzHigh⟩

end Sys2Proof.CompensationMaps
end

section
/-! SUPPORT. What a reset retains. -/

namespace Sys2Proof.CompensationMaps

open Sys2Proof.Machine Sys2Proof.Safety

/-- Settles O15: a reset takes the retained tables from the state before it and every other record from power-on, and RESET
NODE answers by whether a pass is active. -/
theorem resetsRetainTables : Obligations.ResetsRetainTables := by
  intro straps s retained
  have kept (p : Power) : retained p (s.afterReset straps p) :=
    ⟨rfl, rfl, rfl, rfl, fun h => by cases h <;> exact ⟨rfl, rfl, rfl, rfl, rfl, rfl⟩,
      rfl, rfl, rfl, rfl, rfl, rfl, rfl, rfl, rfl, rfl⟩
  refine ⟨fun held => ⟨_, congrArg Host.Outcome.next (if_pos held), kept .starting⟩, fun now pins running due strapped => ?_,
    fun r serving length => ?_⟩
  · refine ⟨_, congrArg Host.Outcome.next ?_, kept .running⟩
    rw [State.ifRunning_of running, State.completeFrame, if_pos due, strapped]
  · have checked : RequestKind.resetNode.lengthOk r.length.toNat = true := by rw [length]; rfl
    refine ⟨fun active => exec_answered rfl serving checked rfl (if_pos active), fun rest => ?_⟩
    exact exec_answered rfl serving checked rfl (if_neg (by simp [rest]))

end Sys2Proof.CompensationMaps
end

section
/-! SUPPORT. Map points and the map header written, check by check (R107 to R111). -/

namespace Sys2Proof.Machine

open Sys2Proof.Safety

/-! ## A point -/

section
variable {fence : Option Int} {points : List MapPoint} {k : Nat} {p : MapPoint}

theorem MapPoint.inRange_iff (p : MapPoint) : p.inRange = true ↔
    500 ≤ p.kf ∧ p.kf ≤ 1500 ∧ -2000 ≤ p.dz ∧ p.dz ≤ 2000 := by
  simp [MapPoint.inRange, and_assoc]

/-- A fence refuses a write at `k` where the point before it, if there is one, stands below the fence (R107). -/
theorem not_passesFence_iff : ¬ passesFence fence points k = true ↔
    ∃ f, fence = some f ∧ ∀ j q, k = j + 1 → points[j]? = some q → q.station < f := by
  rw [passesFence_iff]
  push Not
  rfl

theorem checkPoint_full (last : k = 128) (full : points.length = 128) : checkPoint fence points k p = .full :=
  if_pos ⟨last, full⟩

theorem checkPoint_index (out : points.length < k ∨ 128 < k) : checkPoint fence points k p = .index := by
  rw [checkPoint, if_neg (by omega), if_pos (by omega)]

/-- At an index up to the count and below 128 the ranges, the order and the fence are tested in this order (R109). -/
theorem checkPoint_inside (reached : k ≤ points.length) (inside : k < 128) : checkPoint fence points k p =
    if !p.inRange then .value else if !keepsOrder points k p then .value
    else if !passesFence fence points k then .fence else .done := by
  rw [checkPoint, if_neg (by omega), if_neg (by omega)]

theorem checkPoint_ranged (reached : k ≤ points.length) (inside : k < 128) (unranged : ¬ p.inRange = true) :
    checkPoint fence points k p = .value := by
  simp [checkPoint_inside reached inside, unranged]

theorem checkPoint_ordered (reached : k ≤ points.length) (inside : k < 128) (ranged : p.inRange = true)
    (disorder : ¬ keepsOrder points k p = true) : checkPoint fence points k p = .value := by
  simp [checkPoint_inside reached inside, ranged, disorder]

theorem checkPoint_fenced (reached : k ≤ points.length) (inside : k < 128) (ranged : p.inRange = true)
    (order : keepsOrder points k p = true) (fenced : ¬ passesFence fence points k = true) :
    checkPoint fence points k p = .fence := by
  simp [checkPoint_inside reached inside, ranged, order, fenced]

end

section
variable {s : State} {h : HeadId} {k : Nat} {p : MapPoint}

/-- A point refused by another check than the fence changes nothing (R109). -/
theorem writePoint_refused {code : ReplyCode} (refused : checkPoint (s.head h).map.fence (s.head h).map.points k p = code)
    (done : code ≠ .done) (fence : code ≠ .fence) : writePoint s h k p = s.refuse code := by
  unfold writePoint
  dsimp only
  split
  next e => exact absurd (refused.symm.trans e) done
  next e => exact absurd (refused.symm.trans e) fence
  next => rw [refused]

theorem writePoint_fenced (refused : checkPoint (s.head h).map.fence (s.head h).map.points k p = .fence) :
    writePoint s h k p = (s.refuseFence h k).refuse .fence := by
  simp only [writePoint, refused]

theorem length_putPoint_eq {points : List MapPoint} (reached : k ≤ points.length) (p : MapPoint) :
    (putPoint points k p).length = if k < points.length then points.length else k + 1 := by
  unfold putPoint
  split
  · rw [List.length_set]
  · rw [List.length_append, List.length_singleton]
    omega

/-- A point that passes its checks is replaced or appended (R109). -/
theorem writePoint_done (done : checkPoint (s.head h).map.fence (s.head h).map.points k p = .done) :
    let points := (s.head h).map.points
    writePoint s h k p = (s.modMap h fun m => { m with points := points.take k ++ p :: points.drop (k + 1) }).done
      (.number (if k < points.length then points.length else k + 1)) := by
  have reached := le_of_checkPoint done
  dsimp only
  rw [← putPoint_eq reached, ← length_putPoint_eq reached p]
  simp only [writePoint, done]

/-- A WRITE RECORD of eight bytes at a map's point writes the point (R109, R175). -/
theorem answerWriteRecord_point {r : Request} (hh : headOfCode r.head.toNat = some h) (hi : r.index.toNat ≠ 65535)
    (hl : r.length.toNat = 8) : answerWriteRecord s { r with table := 1 } =
      writePoint s h r.index.toNat (readPoint (slice 0 8 r.payload)) := by
  have point : answerWriteMap s { r with table := 1 } = _ := if_neg hi
  have table : answerWriteRecord s { r with table := 1 } = answerWriteMap s { r with table := 1 } := rfl
  rw [table, point, State.onHead_of (r := { r with table := 1 }) hh, State.ofLength, if_pos hl]
  rfl

/-- A WRITE RECORD of ten bytes at a map's header writes its count (R111, R175). -/
theorem answerWriteRecord_header {r : Request} (hh : headOfCode r.head.toNat = some h) (hl : r.length.toNat = 10) :
    answerWriteRecord s { r with table := 1, index := 65535 } = writeHeader s h (fieldU 0 2 r.payload) := by
  have table : answerWriteRecord s { r with table := 1, index := 65535 } =
      answerWriteMapHeader s { r with table := 1, index := 65535 } := rfl
  rw [table, answerWriteMapHeader, State.onHead_of (r := { r with table := 1, index := 65535 }) hh, State.ofLength,
    if_pos hl]

end

/-! ## The header -/

section
variable {s : State} {h : HeadId} {n : Nat}

theorem writeHeader_above (above : (s.head h).map.points.length < n) : writeHeader s h n = s.refuse .value :=
  if_pos above

theorem writeHeader_equal (equal : n = (s.head h).map.points.length) : writeHeader s h n = s.done (.number n) := by
  simp only [writeHeader, if_neg equal.le.not_gt, if_pos equal]

/-- A map's count may fall where its head is out of the pass or no pass is active (R111). -/
theorem State.mapOpen_iff (s : State) (h : HeadId) : (s.outOfPass h || !s.active) = true ↔
    (s.headState h).working = false ∨ s.active = false := by
  simp [State.outOfPass]

theorem writeHeader_closed (below : n < (s.head h).map.points.length)
    (closed : ¬ ((s.headState h).working = false ∨ s.active = false)) : writeHeader s h n = s.refuse .state := by
  rw [← State.mapOpen_iff, Bool.not_eq_true] at closed
  simp only [writeHeader, if_neg below.not_gt, if_neg below.ne, closed]
  rfl

theorem writeHeader_fenced (below : n < (s.head h).map.points.length)
    (opened : (s.headState h).working = false ∨ s.active = false)
    (fenced : ¬ passesFence (s.head h).map.fence (s.head h).map.points n = true) :
    writeHeader s h n = (s.refuseFence h n).refuse .fence := by
  rw [← State.mapOpen_iff] at opened
  rw [Bool.not_eq_true] at fenced
  simp only [writeHeader, if_neg below.not_gt, if_neg below.ne, opened, fenced]
  rfl

theorem writeHeader_done (below : n < (s.head h).map.points.length)
    (opened : (s.headState h).working = false ∨ s.active = false)
    (passes : passesFence (s.head h).map.fence (s.head h).map.points n = true) :
    writeHeader s h n = (s.modMap h fun m => { m with points := (s.head h).map.points.take n }).done (.number n) := by
  rw [← State.mapOpen_iff] at opened
  simp only [writeHeader, if_neg below.not_gt, if_neg below.ne, opened, passes]
  exact congrArg (State.done · _) (State.modMap_congr rfl)

end

end Sys2Proof.Machine

namespace Sys2Proof.CompensationMaps

open Sys2Proof.Machine Sys2Proof.Safety

/-- Settles O29: the checks of a point one by one (`checkPoint_full` to `checkPoint_fenced`), its write by `putPoint_eq`, and
the header by its count (`writeHeader_above` to `writeHeader_done`). -/
theorem mapWritesChecked : Obligations.MapWritesChecked := by
  refine ⟨fun r h s serving named indexed length => ?_, fun r h s serving named length => ?_⟩
  · intro k points p ranged ordered fenced answers
    have answer ⦃t c d⦄ (ha : writePoint s h k p = ⟨t, c, d⟩) : answers t c d :=
      exec_answered rfl serving rfl rfl ((answerWriteRecord_point named indexed length).trans ha)
    have inRange : p.inRange = true ↔ ranged := p.inRange_iff
    have order : keepsOrder points k p = true ↔ ordered := keepsOrder_iff
    have refused : ¬ passesFence (s.head h).map.fence points k = true ↔ fenced := not_passesFence_iff
    simp only [← inRange, ← order, ← refused]
    refine ⟨fun last full => answer (writePoint_refused (checkPoint_full last full) nofun nofun),
      fun out => answer (writePoint_refused (checkPoint_index out) nofun nofun),
      fun reached inside unranged => answer (writePoint_refused (checkPoint_ranged reached inside unranged) nofun nofun),
      fun reached inside range disorder =>
        answer (writePoint_refused (checkPoint_ordered reached inside range disorder) nofun nofun),
      fun reached inside range inOrder below => ?_, fun reached inside range inOrder passes => ?_⟩
    · rw [← State.refuseFence_eq]
      exact answer (writePoint_fenced (checkPoint_fenced reached inside range inOrder below))
    · exact answer (writePoint_done (checkPoint_done_iff.2 ⟨reached, inside, range, inOrder, not_not.1 passes⟩))
  · intro n points isOpen fenced answers
    have answer ⦃t c d⦄ (ha : writeHeader s h n = ⟨t, c, d⟩) : answers t c d :=
      exec_answered rfl serving rfl rfl ((answerWriteRecord_header named length).trans ha)
    have refused : ¬ passesFence (s.head h).map.fence points n = true ↔ fenced := not_passesFence_iff
    simp only [← refused]
    refine ⟨fun above => answer (writeHeader_above above), fun equal => answer (writeHeader_equal equal),
      fun below closed => answer (writeHeader_closed below closed), fun below opened refuses => ?_,
      fun below opened passes => answer (writeHeader_done below opened (not_not.1 passes))⟩
    rw [← State.refuseFence_eq]
    exact answer (writeHeader_fenced below opened refuses)

end Sys2Proof.CompensationMaps
end

section
/-! SUPPORT. Fields of an image that is built part by part, and the codes of the table records (R189, R195, R196). -/

namespace Sys2Proof.Machine

/-! ## Fields of an image built part by part -/

section
variable {off len w : Nat} {v : Int} {b : Byte} {rest : List Byte}

theorem slice_behind {front : List Byte} (h : front.length ≤ off) :
    slice off len (front ++ rest) = slice (off - front.length) len rest := by
  simp only [slice, List.drop_append, List.drop_of_length_le h, List.nil_append]

theorem slice_front {front : List Byte} (h : front.length = len) : slice 0 len (front ++ rest) = front := by
  simp [slice, ← h]

theorem bytesOf_length (w : Nat) (v : Int) : (bytesOf w v).length = w :=
  bytesOfNat_length ..

@[simp] theorem fieldU_behind_byte (h : 1 ≤ off) : fieldU off len (b :: rest) = fieldU (off - 1) len rest :=
  congrArg readU (slice_behind (front := [b]) h)

@[simp] theorem fieldS_behind_byte (h : 1 ≤ off) : fieldS off len (b :: rest) = fieldS (off - 1) len rest :=
  congrArg readS (slice_behind (front := [b]) h)

@[simp] theorem fieldU_behind (h : w ≤ off) : fieldU off len (bytesOf w v ++ rest) = fieldU (off - w) len rest := by
  have length := bytesOf_length w v
  rw [fieldU, slice_behind (by omega), length, fieldU]

@[simp] theorem fieldS_behind (h : w ≤ off) : fieldS off len (bytesOf w v ++ rest) = fieldS (off - w) len rest := by
  have length := bytesOf_length w v
  rw [fieldS, slice_behind (by omega), length, fieldS]

@[simp] theorem fieldU_byte : fieldU 0 1 (b :: rest) = b.toNat :=
  rfl

@[simp] theorem fieldU_front : fieldU 0 w (bytesOf w v ++ rest) = readU (bytesOf w v) :=
  congrArg readU (slice_front (bytesOf_length w v))

@[simp] theorem fieldS_front : fieldS 0 w (bytesOf w v ++ rest) = readS (bytesOf w v) :=
  congrArg readS (slice_front (bytesOf_length w v))

@[simp] theorem fieldU_whole : fieldU 0 w (bytesOf w v) = readU (bytesOf w v) := by
  rw [← List.append_nil (bytesOf w v), fieldU_front, List.append_nil]

@[simp] theorem fieldS_whole : fieldS 0 w (bytesOf w v) = readS (bytesOf w v) := by
  rw [← List.append_nil (bytesOf w v), fieldS_front, List.append_nil]

end

/-- A signed 16-bit number reads back from its two bytes (R189). -/
theorem readS_bytesOf_two {v : Int} (h0 : -32768 ≤ v) (h : v ≤ 32767) : readS (bytesOf 2 v) = v := by
  have length : (bytesOf 2 v).length = 2 := bytesOf_length 2 v
  have value : (readU (bytesOf 2 v) : Int) = v % 65536 := by
    rw [bytesOf, readU_bytesOfNat]
    omega
  simp only [readS, length]
  split <;> omega

/-- A field of two bytes is below 65536. -/
theorem fieldU_two_lt (off : Nat) (bs : List Byte) : fieldU off 2 bs < 65536 := by
  have h := readU_lt (slice off 2 bs)
  rwa [slice_length] at h

/-! ## Codes in a byte, read modulo its width -/

/-- A code of a byte's width reads back from its byte. -/
theorem toNat_ofNat_byte {n : Nat} (h : n < 256) : (BitVec.ofNat 8 n).toNat = n := by
  rw [BitVec.toNat_ofNat]
  exact Nat.mod_eq_of_lt h

@[simp] theorem headSetOfCode_mod (p : HeadSet) : headSetOfCode (p.code % 256) = some p := by
  cases p <;> rfl

@[simp] theorem lossModeOfCode_mod (m : LossMode) : lossModeOfCode (m.code % 256) = some m := by
  cases m <;> rfl

@[simp] theorem exitKindOfCode_mod (k : ExitKind) : exitKindOfCode (k.code % 256) = some k := by
  cases k <;> rfl

@[simp] theorem channelOfCode_mod (c : Channel) : channelOfCode (c.code % 256) = some c := by
  cases c <;> rfl

@[simp] theorem comparisonOfCode_mod (c : Comparison) : comparisonOfCode (c.code % 256) = some c := by
  cases c <;> rfl

@[simp] theorem filterOfCode_mod (f : Filter) : filterOfCode (f.code % 256) = some f := by
  cases f <;> rfl

@[simp] theorem actionOfCode_mod (a : Action) : actionOfCode (a.code % 256) = some a := by
  cases a <;> rfl

/-- The first byte of a guard record holds the owner in its low bits and the enabled flag in its highest (R195). -/
def ownerByte (o : Owner) (enabled : Bool) : Byte :=
  BitVec.ofNat 8 (o.code + if enabled then 128 else 0)

theorem ownerOfCode_byte (o : Owner) (enabled : Bool) : ownerOfCode ((ownerByte o enabled).toNat % 4) = some o := by
  rcases o with (_ | _) | _ <;> cases enabled <;> rfl

theorem enabled_byte (o : Owner) (enabled : Bool) : (ownerByte o enabled).toNat.testBit 7 = enabled := by
  rcases o with (_ | _) | _ <;> cases enabled <;> rfl

end Sys2Proof.Machine
end

section
/-! SUPPORT. The records of the tables and their images (R194 to R196). -/

namespace Sys2Proof.Machine

open Sys2Proof.Safety

/-- Checks that all hold have no first that fails. -/
theorem firstFalse_of_all {l : List Bool} (h : ∀ b ∈ l, b = true) : firstFalse l = none := by
  induction l with
  | nil => rfl
  | cons b l ih =>
    obtain ⟨rfl, rest⟩ := List.forall_mem_cons.1 h
    rw [firstFalse, ih rest]
    rfl

/-! ## Map points and slots -/

theorem readPoint_image {p : MapPoint} (low : -2147483648 ≤ p.station) (high : p.station ≤ 2147483647)
    (ranged : p.inRange = true) : readPoint p.image = p := by
  obtain ⟨kfLow, kfHigh, dzLow, dzHigh⟩ := p.inRange_iff.1 ranged
  have kf : (readU (bytesOf 2 p.kf) : Int) = p.kf := readU_bytesOf (by omega) (by omega)
  simp [readPoint, MapPoint.image, readS_bytesOf_four low high, kf,
    readS_bytesOf_two (show -32768 ≤ p.dz by omega) (by omega)]

theorem readSlot_image {e : SlotEntry} (h : e.offset < 65536) : readSlot e.image = some e := by
  have offset : fieldU 0 2 e.image = e.offset := by
    rw [SlotEntry.image, fieldU_front, readU_bytesOf_nat h]
  obtain ⟨o, enabled⟩ := e
  rw [readSlot, offset]
  cases enabled <;> simp [SlotEntry.image]

theorem readSlot_offset {bs : List Byte} {e : SlotEntry} (h : readSlot bs = some e) : e.offset < 65536 := by
  have offset : e.offset = fieldU 0 2 bs := by
    unfold readSlot at h
    split at h
    · rw [← Option.some.inj h]
    · rw [← Option.some.inj h]
    · cases h
  rw [offset]
  exact fieldU_two_lt 0 bs

/-! ## Guard records -/

/-- The bytes hold the configuration of a guard record whose run fields are cleared, and it passes its checks (R115,
R195). -/
structure GuardRecord.HeldBy (g : GuardRecord) (bs : List Byte) : Prop where
  enabled    : (fieldU 0 1 bs).testBit 7 = g.enabled
  owner      : ownerOfCode (fieldU 0 1 bs % 4) = some g.owner
  channel    : channelOfCode (fieldU 1 1 bs) = some g.channel
  comparison : comparisonOfCode (fieldU 2 1 bs) = some g.comparison
  filter     : filterOfCode (fieldU 3 1 bs) = some g.filter
  lo         : fieldS 4 4 bs = g.lo
  hi         : fieldS 8 4 bs = g.hi
  arm        : fieldU 12 1 bs = g.arm.toNat
  action     : actionOfCode (fieldU 13 1 bs) = some g.action
  cap        : (fieldU 14 2 bs : Int) = g.cap
  rearmed    : g.rearmed = g
  watches    : g.owner.watches g.channel = true
  limits     : g.comparison.limitsOk g.lo g.hi = true
  arms       : g.owner.arms g.arm.toNat = true
  capped     : g.cap ≤ 1000

/-- What a guard record read from its image is (R115, R195). -/
theorem readGuard_iff {bs : List Byte} {g : GuardRecord} : readGuard bs = some g ↔ g.HeldBy bs := by
  have armByte : (BitVec.ofNat 8 (fieldU 12 1 bs)).toNat = fieldU 12 1 bs := toNat_ofNat_byte (fieldU_one_lt 12 bs)
  constructor
  · intro h
    simp only [readGuard, Option.bind_eq_bind, Option.bind_eq_some_iff, Option.ite_none_right_eq_some,
      Option.some.injEq, Bool.and_eq_true, decide_eq_true_eq] at h
    obtain ⟨o, ho, c, hc, m, hm, f, hf, a, ha, ⟨⟨⟨watches, limits⟩, arms⟩, capped⟩, rfl⟩ := h
    exact ⟨rfl, ho, hc, hm, hf, rfl, rfl, armByte.symm, ha, rfl, rfl, watches, limits, armByte.symm ▸ arms,
      Int.ofNat_le.2 capped⟩
  · intro h
    have arm : BitVec.ofNat 8 (fieldU 12 1 bs) = g.arm := BitVec.eq_of_toNat_eq (armByte.trans h.arm)
    have capped : fieldU 14 2 bs ≤ 1000 := Int.ofNat_le.1 (h.cap.symm ▸ h.capped)
    have checks : (g.owner.watches g.channel && g.comparison.limitsOk g.lo g.hi && g.owner.arms (fieldU 12 1 bs) &&
        decide (fieldU 14 2 bs ≤ 1000)) = true := by
      simp [h.watches, h.limits, h.arm, h.arms, capped]
    rw [← h.rearmed]
    simp only [readGuard, h.owner, h.channel, h.comparison, h.filter, h.action, h.lo, h.hi, h.cap, h.enabled, arm,
      Option.bind_eq_bind, Option.bind_some]
    exact if_pos checks

/-- The configuration part of a guard record's image (R195). -/
theorem GuardRecord.image_take (g : GuardRecord) : g.image.take 16 =
    ownerByte g.owner g.enabled :: BitVec.ofNat 8 g.channel.code :: BitVec.ofNat 8 g.comparison.code ::
      BitVec.ofNat 8 g.filter.code :: (bytesOf 4 g.lo ++ (bytesOf 4 g.hi ++
        (g.arm :: BitVec.ofNat 8 g.action.code :: bytesOf 2 g.cap))) := by
  rw [GuardRecord.image, List.take_left' (by simp [bytesOf_length])]
  simp [ownerByte]

/-- The image of a guard record that passes its checks holds its configuration (R195). -/
theorem GuardRecord.heldBy_image {g : GuardRecord} (loLow : -2147483648 ≤ g.lo) (loHigh : g.lo ≤ 2147483647)
    (hiLow : -2147483648 ≤ g.hi) (hiHigh : g.hi ≤ 2147483647) (watches : g.owner.watches g.channel = true)
    (limits : g.comparison.limitsOk g.lo g.hi = true) (arms : g.owner.arms g.arm.toNat = true) (positive : 0 ≤ g.cap)
    (capped : g.cap ≤ 1000) : g.rearmed.HeldBy (g.image.take 16) := by
  have cap : (readU (bytesOf 2 g.cap) : Int) = g.cap := readU_bytesOf positive (by omega)
  rw [g.image_take]
  constructor
  case watches => exact watches
  case limits => exact limits
  case arms => exact arms
  case capped => exact capped
  case rearmed => rfl
  all_goals simp [GuardRecord.rearmed, enabled_byte, ownerOfCode_byte, readS_bytesOf_four, *]

/-! ## The gantry profile -/

theorem readGantry_image {g : GantryProfile} (h : GantryInRange g) : readGantry g.image = g := by
  obtain ⟨tc, x0, x1, p0, p1, a0, a1, d0, d1, t0, t1, s0, s1, l0, l1, q0, q1, m0, m1, w, f0, f1, k0, k1, c0, c1, i0, i1⟩ := h
  simp (disch := omega) [readGantry, GantryProfile.image, readS_bytesOf_four, readU_bytesOf, readU_bytesOf_nat,
    Nat.mod_eq_of_lt]

/-- A profile in range passes the checks of its image where the codes of the image name a value (R141). -/
theorem gantryChecks_pass {bs : List Byte} (h : GantryInRange (readGantry bs))
    (present : (headSetOfCode (fieldU 0 1 bs)).isSome = true) (loss : (lossModeOfCode (fieldU 1 1 bs)).isSome = true) :
    firstFalse (gantryChecks bs) = none := by
  refine firstFalse_of_all ?_
  simp only [GantryInRange, readGantry] at h
  simp only [gantryChecks, List.mem_cons, List.not_mem_nil, or_false, forall_eq_or_imp, forall_eq, within_iff,
    List.contains_eq_mem, decide_eq_true_eq, present, loss, true_and]
  omega

theorem gantryChecks_image {g : GantryProfile} (h : GantryInRange g) : firstFalse (gantryChecks g.image) = none :=
  gantryChecks_pass ((readGantry_image h).symm ▸ h) (by simp [GantryProfile.image]) (by simp [GantryProfile.image])

/-! ## The pages of a head profile -/

/-- A profile in range passes the checks of a page's image where the code of the image names a value (R143). -/
theorem pageChecks_pass {p : HeadProfile} {page : Nat} {bs : List Byte} (h : ProfileInRange (p.withPage page bs))
    (known : page = 2 → (exitKindOfCode (fieldU 10 1 bs)).isSome = true) : firstFalse (pageChecks page bs) = none := by
  refine firstFalse_of_all ?_
  obtain ⟨depth, gains, limits, trim⟩ := h
  unfold pageChecks
  split
  · simp only [HeadProfile.withPage, readDepthPage] at depth
    simpa only [List.mem_cons, List.not_mem_nil, or_false, forall_eq_or_imp, forall_eq, within_iff, and_assoc] using depth
  · simp only [HeadProfile.withPage, readGainPage] at gains
    simp only [List.mem_cons, List.not_mem_nil, or_false, forall_eq_or_imp, forall_eq, within_iff]
    omega
  · simp only [HeadProfile.withPage, readLimitPage] at limits
    simp only [List.mem_cons, List.not_mem_nil, or_false, forall_eq_or_imp, forall_eq, within_iff, known rfl, true_and]
    omega
  · simp only [HeadProfile.withPage, readTrimPage] at trim
    simp only [List.mem_cons, List.not_mem_nil, or_false, forall_eq_or_imp, forall_eq, within_iff]
    omega

section
variable {p : HeadProfile}

theorem readDepthPage_image (h : ProfileInRange p) : readDepthPage (p.pageImage 0) = p.depth := by
  obtain ⟨range, -⟩ := h
  simp (disch := omega) [readDepthPage, HeadProfile.pageImage, readS_bytesOf_four, readU_bytesOf]

theorem readGainPage_image (h : ProfileInRange p) : readGainPage (p.pageImage 1) = p.gains := by
  obtain ⟨-, range, -⟩ := h
  simp (disch := omega) [readGainPage, HeadProfile.pageImage, readU_bytesOf, readU_bytesOf_nat]

theorem readLimitPage_image (h : ProfileInRange p) : readLimitPage (p.pageImage 2) = p.limits := by
  obtain ⟨-, -, range, -⟩ := h
  simp (disch := omega) [readLimitPage, HeadProfile.pageImage, readU_bytesOf, readU_bytesOf_nat]

theorem readTrimPage_image (h : ProfileInRange p) : readTrimPage (p.pageImage 3) = p.trim := by
  obtain ⟨-, -, -, range⟩ := h
  simp (disch := omega) [readTrimPage, HeadProfile.pageImage, readS_bytesOf_four, readU_bytesOf]

/-- A page of a profile in range reads back as that page of the profile (R143, R196). -/
theorem withPage_image (q : HeadProfile) {page : Nat} (h : ProfileInRange p) (named : page ≤ 3) :
    q.withPage page (p.pageImage page) =
      ⟨if page = 0 then p.depth else q.depth, if page = 1 then p.gains else q.gains,
        if page = 2 then p.limits else q.limits, if page = 3 then p.trim else q.trim⟩ := by
  obtain rfl | rfl | rfl | rfl : page = 0 ∨ page = 1 ∨ page = 2 ∨ page = 3 := by omega
  · simp [HeadProfile.withPage, readDepthPage_image h]
  · simp [HeadProfile.withPage, readGainPage_image h]
  · simp [HeadProfile.withPage, readLimitPage_image h]
  · simp [HeadProfile.withPage, readTrimPage_image h]

theorem pageChecks_image {page : Nat} (h : ProfileInRange p) (named : page ≤ 3) :
    firstFalse (pageChecks page (p.pageImage page)) = none := by
  have whole : p.withPage page (p.pageImage page) = p := by
    rw [withPage_image p h named]
    simp only [ite_self]
  refine pageChecks_pass (whole.symm ▸ h) ?_
  rintro rfl
  simp [HeadProfile.pageImage]

theorem pageImage_length {page : Nat} (named : page ≤ 3) : (p.pageImage page).length = pageLength page := by
  obtain rfl | rfl | rfl | rfl : page = 0 ∨ page = 1 ∨ page = 2 ∨ page = 3 := by omega
  all_goals simp [HeadProfile.pageImage, pageLength, bytesOf_length]

end

end Sys2Proof.Machine

namespace Sys2Proof.CompensationMaps

open Sys2Proof.Machine Sys2Proof.Safety

/-- Settles O28: each image read back field by field (`readPoint_image`, `GuardRecord.heldBy_image`, `readGantry_image`,
`withPage_image`, `readSlot_image`), and what an image that passes its checks holds (`readGuard_iff`, `readGantry_inRange`,
`withPage_inRange`). -/
theorem tableImagesReadBack : Obligations.TableImagesReadBack := by
  refine ⟨fun p low high ranged => readPoint_image low high ranged,
    fun g loLow loHigh hiLow hiHigh watches limits arms positive capped =>
      readGuard_iff.2 (GuardRecord.heldBy_image loLow loHigh hiLow hiHigh watches limits arms positive capped),
    fun g h => ⟨readGantry_image h, gantryChecks_image h⟩,
    fun p q page h named => ⟨pageChecks_image h named, pageImage_length named, withPage_image q h named⟩,
    fun e h => readSlot_image h, fun bs => fieldS_four 0 bs, fun bs g read => ?_,
    fun bs h => readGantry_inRange h, fun p page bs h _ passes => withPage_inRange h passes,
    fun bs e h => readSlot_offset h⟩
  have held := readGuard_iff.1 read
  obtain ⟨loLow, loHigh⟩ := fieldS_four 4 bs
  obtain ⟨hiLow, hiHigh⟩ := fieldS_four 8 bs
  rw [held.lo] at loLow loHigh
  rw [held.hi] at hiLow hiHigh
  have positive : 0 ≤ g.cap := held.cap ▸ Int.natCast_nonneg _
  exact ⟨loLow, loHigh, hiLow, hiHigh, held.watches, held.limits, held.arms, positive, held.capped⟩

end Sys2Proof.CompensationMaps
end

section
/-! SUPPORT. Guard records by their codes, and the guard table, the gantry profile and the slot map written, check by check
(R115, R142, R153, R195). -/

namespace Sys2Proof.Machine

open Sys2Proof.Safety

/-! ## Codes of a guard record -/

theorem ownerOfCode_iff {n : Nat} {o : Owner} : ownerOfCode n = some o ↔ n = o.code := by
  constructor
  · intro h
    unfold ownerOfCode at h
    split at h <;> cases h <;> rfl
  · rintro rfl
    rcases o with (_ | _) | _ <;> rfl

theorem channelOfCode_iff {n : Nat} {c : Channel} : channelOfCode n = some c ↔ n = c.code := by
  constructor
  · intro h
    unfold channelOfCode at h
    split at h <;> cases h <;> rfl
  · rintro rfl
    cases c <;> rfl

theorem comparisonOfCode_iff {n : Nat} {c : Comparison} : comparisonOfCode n = some c ↔ n = c.code := by
  constructor
  · intro h
    unfold comparisonOfCode at h
    split at h <;> cases h <;> rfl
  · rintro rfl
    cases c <;> rfl

theorem filterOfCode_iff {n : Nat} {f : Filter} : filterOfCode n = some f ↔ n = f.code := by
  constructor
  · intro h
    unfold filterOfCode at h
    split at h <;> cases h <;> rfl
  · rintro rfl
    cases f <;> rfl

theorem actionOfCode_iff {n : Nat} {a : Action} : actionOfCode n = some a ↔ n = a.code := by
  constructor
  · intro h
    unfold actionOfCode at h
    split at h <;> cases h <;> rfl
  · rintro rfl
    cases a <;> rfl

theorem exists_owner_iff {n : Nat} : (∃ o, ownerOfCode n = some o) ↔ n ≤ 2 := by
  constructor
  · rintro ⟨o, named⟩
    rw [ownerOfCode_iff.1 named]
    rcases o with (_ | _) | _ <;> decide
  · intro h
    exact Option.isSome_iff_exists.1 ((by decide : ∀ n ≤ 2, (ownerOfCode n).isSome = true) n h)

theorem exists_channel_iff {n : Nat} : (∃ c, channelOfCode n = some c) ↔ n ≤ 9 := by
  constructor
  · rintro ⟨c, named⟩
    rw [channelOfCode_iff.1 named]
    cases c <;> decide
  · intro h
    exact Option.isSome_iff_exists.1 ((by decide : ∀ n ≤ 9, (channelOfCode n).isSome = true) n h)

theorem exists_comparison_iff {n : Nat} : (∃ c, comparisonOfCode n = some c) ↔ n ≤ 3 := by
  constructor
  · rintro ⟨c, named⟩
    rw [comparisonOfCode_iff.1 named]
    cases c <;> decide
  · intro h
    exact Option.isSome_iff_exists.1 ((by decide : ∀ n ≤ 3, (comparisonOfCode n).isSome = true) n h)

theorem exists_filter_iff {n : Nat} : (∃ f, filterOfCode n = some f) ↔ n ≤ 3 := by
  constructor
  · rintro ⟨f, named⟩
    rw [filterOfCode_iff.1 named]
    cases f <;> decide
  · intro h
    exact Option.isSome_iff_exists.1 ((by decide : ∀ n ≤ 3, (filterOfCode n).isSome = true) n h)

theorem exists_action_iff {n : Nat} : (∃ a, actionOfCode n = some a) ↔ n ≤ 4 := by
  constructor
  · rintro ⟨a, named⟩
    rw [actionOfCode_iff.1 named]
    cases a <;> decide
  · intro h
    exact Option.isSome_iff_exists.1 ((by decide : ∀ n ≤ 4, (actionOfCode n).isSome = true) n h)

/-! ## The checks of a guard record by its codes (R115) -/

/-- The gantry watches the two channels from code 8 on, and a head those below (R116). -/
theorem Owner.watches_iff (o : Owner) (c : Channel) : o.watches c = true ↔ (o.code = 2 ↔ 8 ≤ c.code) := by
  have gantry : (decide (c = .xSkew) || decide (c = .xLag)) = decide (8 ≤ c.code) := by cases c <;> rfl
  rcases o with (_ | _) | _ <;> simp [Owner.watches, gantry, Owner.code, HeadId.code]

theorem Owner.arms_iff (o : Owner) (bits : Nat) :
    o.arms bits = true ↔ (o.code ≠ 2 → bits < 32) ∧ (o.code = 2 → bits < 8) := by
  rcases o with (_ | _) | _ <;> simp [Owner.arms, Owner.code, HeadId.code]

/-- The two comparisons that use both limits have the codes from 2 on. -/
theorem Comparison.limitsOk_iff (c : Comparison) (lo hi : Int) :
    c.limitsOk lo hi = true ↔ (2 ≤ c.code → lo ≤ hi) := by
  cases c <;> simp [Comparison.limitsOk, Comparison.code]

/-- A field of a guard record's bytes fails its check, in the order of R115 and by the codes of R195. -/
def FailsGuardChecks (bs : List Byte) : Prop :=
  let owner := fieldU 0 1 bs % 4
  let channel := fieldU 1 1 bs
  let arm := fieldU 12 1 bs
  owner = 3 ∨ 9 < channel ∨ (owner ≠ 2 ∧ 8 ≤ channel) ∨ (owner = 2 ∧ channel < 8) ∨
    3 < fieldU 2 1 bs ∨ (2 ≤ fieldU 2 1 bs ∧ fieldS 8 4 bs < fieldS 4 4 bs) ∨ 3 < fieldU 3 1 bs ∨
    (owner ≠ 2 ∧ 32 ≤ arm) ∨ (owner = 2 ∧ 8 ≤ arm) ∨ 4 < fieldU 13 1 bs ∨ 1000 < fieldU 14 2 bs

section
variable {bs : List Byte}

theorem GuardRecord.HeldBy.passes {g : GuardRecord} (held : g.HeldBy bs) : ¬ FailsGuardChecks bs := by
  have ownerNamed := exists_owner_iff.1 ⟨_, held.owner⟩
  have channelNamed := exists_channel_iff.1 ⟨_, held.channel⟩
  have comparisonNamed := exists_comparison_iff.1 ⟨_, held.comparison⟩
  have filterNamed := exists_filter_iff.1 ⟨_, held.filter⟩
  have actionNamed := exists_action_iff.1 ⟨_, held.action⟩
  have watches := (g.owner.watches_iff g.channel).1 held.watches
  have limits := (g.comparison.limitsOk_iff g.lo g.hi).1 held.limits
  have arms := (g.owner.arms_iff g.arm.toNat).1 held.arms
  have capped : fieldU 14 2 bs ≤ 1000 := Int.ofNat_le.1 (held.cap.symm ▸ held.capped)
  rw [← ownerOfCode_iff.1 held.owner, ← channelOfCode_iff.1 held.channel] at watches
  rw [← comparisonOfCode_iff.1 held.comparison, ← held.lo, ← held.hi] at limits
  rw [← ownerOfCode_iff.1 held.owner, ← held.arm] at arms
  unfold FailsGuardChecks
  omega

/-- Bytes whose fields all pass their checks hold a guard record (R115). -/
theorem readGuard_of_passes (passes : ¬ FailsGuardChecks bs) : ∃ g, readGuard bs = some g := by
  simp only [FailsGuardChecks] at passes
  obtain ⟨o, owner⟩ := exists_owner_iff.2 (show fieldU 0 1 bs % 4 ≤ 2 by omega)
  obtain ⟨c, channel⟩ := exists_channel_iff.2 (show fieldU 1 1 bs ≤ 9 by omega)
  obtain ⟨m, comparison⟩ := exists_comparison_iff.2 (show fieldU 2 1 bs ≤ 3 by omega)
  obtain ⟨f, filter⟩ := exists_filter_iff.2 (show fieldU 3 1 bs ≤ 3 by omega)
  obtain ⟨a, action⟩ := exists_action_iff.2 (show fieldU 13 1 bs ≤ 4 by omega)
  have watches : o.watches c = true := (o.watches_iff c).2 (by
    rw [← ownerOfCode_iff.1 owner, ← channelOfCode_iff.1 channel]
    omega)
  have limits : m.limitsOk (fieldS 4 4 bs) (fieldS 8 4 bs) = true := (m.limitsOk_iff _ _).2 (by
    rw [← comparisonOfCode_iff.1 comparison]
    omega)
  have arms : o.arms (fieldU 12 1 bs) = true := (o.arms_iff _).2 (by
    rw [← ownerOfCode_iff.1 owner]
    omega)
  have capped : fieldU 14 2 bs ≤ 1000 := by omega
  simp [readGuard, owner, channel, comparison, filter, action, watches, limits, arms, capped]

theorem readGuard_of_fails (fails : FailsGuardChecks bs) : readGuard bs = none :=
  Option.eq_none_iff_forall_not_mem.2 fun _ read => (readGuard_iff.1 read).passes fails

end

/-! ## Writes by their checks -/

section
variable {s : State} {i : Nat} {bs : List Byte}

theorem writeGuard_active (active : s.active = true) : writeGuard s i bs = s.refuse .state :=
  if_pos active

theorem writeGuard_index (rest : s.active = false) (out : 11 < i) : writeGuard s i bs = s.refuse .index := by
  rw [writeGuard, if_neg (by simp [rest]), if_pos (by omega)]

theorem writeGuard_unread (rest : s.active = false) (inside : i ≤ 11) (unread : readGuard bs = none) :
    writeGuard s i bs = s.refuse .value := by
  rw [writeGuard, if_neg (by simp [rest]), if_neg (by omega), unread]

theorem writeGuard_done {g : GuardRecord} (rest : s.active = false) (inside : i ≤ 11) (read : readGuard bs = some g) :
    writeGuard s i bs = (s.putGuard i g).done .empty := by
  rw [writeGuard, if_neg (by simp [rest]), if_neg (by omega), read]

theorem writeGantry_state (mode : s.service.mode ≠ .config) : writeGantry s i bs = s.refuse .state :=
  if_pos mode

theorem writeGantry_index (mode : s.service.mode = .config) (out : i ≠ 0) : writeGantry s i bs = s.refuse .index := by
  rw [writeGantry, if_neg (not_not.2 mode), if_pos out]

theorem writeGantry_field {field : Nat} (mode : s.service.mode = .config) (first : i = 0)
    (fails : firstFalse (gantryChecks bs) = some field) :
    writeGantry s i bs = s.refuseWith .value (.number field) := by
  rw [writeGantry, if_neg (not_not.2 mode), if_neg (not_not.2 first), fails]

theorem writeGantry_done (mode : s.service.mode = .config) (first : i = 0)
    (passes : firstFalse (gantryChecks bs) = none) :
    writeGantry s i bs = (s.putGantry (readGantry bs)).done .empty := by
  rw [writeGantry, if_neg (not_not.2 mode), if_neg (not_not.2 first), passes]

theorem readSlot_unknown (unknown : 1 < fieldU 2 1 bs) : readSlot bs = none := by
  unfold readSlot
  split
  case h_3 => rfl
  all_goals omega

theorem readSlot_known (known : fieldU 2 1 bs ≤ 1) :
    readSlot bs = some ⟨fieldU 0 2 bs, fieldU 2 1 bs == 1⟩ := by
  obtain flag | flag : fieldU 2 1 bs = 0 ∨ fieldU 2 1 bs = 1 := by omega
  all_goals rw [readSlot, flag]; rfl

theorem writeSlot_state (mode : s.service.mode ≠ .config) : writeSlot s i bs = s.refuse .state :=
  if_pos mode

theorem writeSlot_index (mode : s.service.mode = .config) (out : 27 < i) : writeSlot s i bs = s.refuse .index := by
  rw [writeSlot, if_neg (not_not.2 mode), if_pos (by omega)]

theorem writeSlot_unread (mode : s.service.mode = .config) (inside : i ≤ 27) (unread : readSlot bs = none) :
    writeSlot s i bs = s.refuse .value := by
  rw [writeSlot, if_neg (not_not.2 mode), if_neg (by omega), unread]

theorem writeSlot_done {e : SlotEntry} (mode : s.service.mode = .config) (inside : i ≤ 27)
    (read : readSlot bs = some e) :
    writeSlot s i bs = ({ s with slotMap := s.slotMap.set i e } : State).done .empty := by
  rw [writeSlot, if_neg (not_not.2 mode), if_neg (by omega), read]

end

/-! ## WRITE RECORD by table (R175) -/

section
variable {s : State} {r : Request}

theorem answerWriteRecord_guard (hl : r.length.toNat = 16) :
    answerWriteRecord s { r with table := 2 } = writeGuard s r.index.toNat (slice 0 16 r.payload) :=
  if_pos hl

theorem answerWriteRecord_gantry (hl : r.length.toNat = 42) :
    answerWriteRecord s { r with table := 3 } = writeGantry s r.index.toNat (slice 0 42 r.payload) :=
  if_pos hl

theorem answerWriteRecord_slot (hl : r.length.toNat = 3) :
    answerWriteRecord s { r with table := 5 } = writeSlot s r.index.toNat (slice 0 3 r.payload) :=
  if_pos hl

end

end Sys2Proof.Machine

namespace Sys2Proof.Guards

open Sys2Proof.Machine Sys2Proof.Safety

/-- Settles O30: each table by the first check that fails; a guard record is read where no check of R115 fails
(`readGuard_of_passes`), and holds what its bytes say (`readGuard_iff`). -/
theorem guardGantryAndSlotMapWritten : Obligations.GuardGantryAndSlotMapWritten := by
  refine ⟨fun r s serving length => ?_, fun r s serving => ?_⟩
  · intro i bs owner channel arm fails answers
    have answer ⦃t c⦄ (ha : writeGuard s i bs = ⟨t, c, .empty⟩) : answers t c :=
      exec_answered rfl serving rfl rfl ((answerWriteRecord_guard length).trans ha)
    refine ⟨fun active => answer (writeGuard_active active), fun rest out => answer (writeGuard_index rest out),
      fun rest inside failed => answer (writeGuard_unread rest inside (readGuard_of_fails failed)),
      fun rest inside passes => ?_⟩
    obtain ⟨g, read⟩ := readGuard_of_passes passes
    have held := readGuard_iff.1 read
    refine ⟨g, answer (writeGuard_done rest inside read), held.enabled.symm, (ownerOfCode_iff.1 held.owner).symm,
      (channelOfCode_iff.1 held.channel).symm, (comparisonOfCode_iff.1 held.comparison).symm,
      (filterOfCode_iff.1 held.filter).symm, held.lo.symm, held.hi.symm, held.arm.symm,
      (actionOfCode_iff.1 held.action).symm, held.cap.symm, ?_⟩
    rw [← held.rearmed]
    exact ⟨rfl, rfl, rfl⟩
  · intro i gantry slot
    refine ⟨fun length => ?_, fun length => ?_⟩
    · intro bs
      have answer ⦃t c d⦄ (ha : writeGantry s i bs = ⟨t, c, d⟩) : gantry t c d :=
        exec_answered rfl serving rfl rfl ((answerWriteRecord_gantry length).trans ha)
      exact ⟨fun mode => answer (writeGantry_state mode), fun mode out => answer (writeGantry_index mode out),
        fun _ mode first fails => answer (writeGantry_field mode first fails),
        fun mode first passes => answer (writeGantry_done mode first passes)⟩
    · intro bs
      have answer ⦃t c⦄ (ha : writeSlot s i bs = ⟨t, c, .empty⟩) : slot t c :=
        exec_answered rfl serving rfl rfl ((answerWriteRecord_slot length).trans ha)
      exact ⟨fun mode => answer (writeSlot_state mode), fun mode out => answer (writeSlot_index mode out),
        fun mode inside unknown => answer (writeSlot_unread mode inside (readSlot_unknown unknown)),
        fun mode inside known => answer (writeSlot_done mode inside (readSlot_known known))⟩

end Sys2Proof.Guards
end

section
/-! SUPPORT. Supply, the modes and their requests: loss of supply and the RESET line, CLEAR FAULT, a head profile's page by
its checks, and that every step keeps the mode, the pass and the slot map in force in agreement. -/

namespace Sys2Proof.Machine

open Sys2Proof.Safety

/-! ## A frame that a reset meets (R151) -/

theorem Port.cutAt_passing (p : Port) (passed : Nat) :
    p.cutAt passed = { p with passing := none, outgoing := (p.cutAt passed).outgoing } := by
  unfold Port.cutAt
  split <;> rfl

theorem Port.cutAt_idle {p : Port} (idle : p.passing = none) (passed : Nat) : p.cutAt passed = p := by
  unfold Port.cutAt
  split
  next passing _ => cases idle.symm.trans passing
  next => rw [← idle]

theorem Port.cutAt_of {p : Port} {f : PassingFrame} {o : OutFrame} (passing : p.passing = some f)
    (outgoing : p.outgoing = some o) (passed : Nat) :
    (p.cutAt passed).outgoing = some ⟨o.payload.take passed ++ f.payload.drop passed,
      if ∃ start ∈ f.written, start < passed then .bad else .unchanged⟩ := by
  simp only [Port.cutAt, passing, outgoing, List.any_eq_true, decide_eq_true_eq]

/-! ## CLEAR FAULT (R140) -/

section
variable {s : State} {r : Request}

theorem State.clearing_iff (s : State) (h : HeadId) :
    s.clearing h = true ↔ s.headState h = .withdraw ∨ s.headState h = .spindown := by
  simp [State.clearing]

theorem State.clearing_either (s : State) :
    (s.clearing .a || s.clearing .b) = true ↔ ∃ h, s.headState h = .withdraw ∨ s.headState h = .spindown := by
  rw [Bool.or_eq_true, State.clearing_iff, State.clearing_iff]
  exact ⟨fun e => e.elim (⟨.a, ·⟩) (⟨.b, ·⟩), fun ⟨h, e⟩ => match h with
    | .a => .inl e
    | .b => .inr e⟩

theorem answerClearFault_refused
    (refused : (∃ h, s.headState h = .withdraw ∨ s.headState h = .spindown) ∨ s.lines.stop = true) :
    answerClearFault s r = s.refuse .state := by
  rw [answerClearFault]
  rcases refused with busy | stop
  · rw [if_pos (s.clearing_either.2 busy)]
  · rw [if_pos stop, ite_self]

theorem answerClearFault_done (rest : ¬ ∃ h, s.headState h = .withdraw ∨ s.headState h = .spindown)
    (stop : s.lines.stop = false) : answerClearFault s r = s.clearFault.done .empty := by
  rw [answerClearFault, if_neg (mt s.clearing_either.1 rest), stop]
  rfl

end

/-! ## A head profile's page by its checks (R144) -/

section
variable {s : State} {h : HeadId} {page : Nat} {bs : List Byte}

/-- A head profile is open to writes in CONFIG, out of the pass and in WAITING (R144). -/
theorem State.profileOpen_iff (s : State) (h : HeadId) : s.profileOpen h = true ↔ s.service.mode = .config ∨
    s.headState h = .idle ∨ s.headState h = .waiting ∨ s.headState h = .finished ∨ s.headState h = .stopped := by
  simp only [State.profileOpen, State.outOfPass, Bool.or_eq_true, Bool.not_eq_true', decide_eq_true_eq]
  cases s.headState h <;> simp [HeadState.working]

theorem writePage_closed (closed : ¬ s.profileOpen h = true) : writePage s h page bs = s.refuse .state := by
  rw [writePage, if_pos (by simpa using closed)]

theorem writePage_field {field : Nat} (opened : s.profileOpen h = true)
    (fails : firstFalse (pageChecks page bs) = some field) :
    writePage s h page bs = s.refuseWith .value (.items [page, field]) := by
  simp only [writePage, opened, fails, Bool.not_true, Bool.false_eq_true, if_false]

theorem writePage_broken {field : Nat} (opened : s.profileOpen h = true)
    (passes : firstFalse (pageChecks page bs) = none) (mode : s.service.mode ≠ .config)
    (broken : ((s.head h).profile.withPage page bs).brokenRelation page = some field) :
    writePage s h page bs = s.refuseWith .value (.items [page, field]) := by
  simp only [writePage, opened, passes, broken, Bool.not_true, Bool.false_eq_true, if_false]

theorem writePage_done (opened : s.profileOpen h = true) (passes : firstFalse (pageChecks page bs) = none)
    (related : s.service.mode = .config ∨ ((s.head h).profile.withPage page bs).brokenRelation page = none) :
    writePage s h page bs =
      (s.modHead h fun x => { x with profile := (s.head h).profile.withPage page bs }).done .empty := by
  simp only [writePage, opened, passes, Bool.not_true, Bool.false_eq_true, if_false]
  rcases related with mode | kept
  · simp only [mode]
  · rw [kept]
    cases s.service.mode <;> rfl

end

section
variable {s : State} {r : Request} {h : HeadId}

theorem answerWriteRecord_page (head : headOfCode r.head.toNat = some h) (named : r.index.toNat ≤ 3) :
    answerWriteRecord s { r with table := 4 } = s.ofLength r (pageLength r.index.toNat)
      (writePage s h r.index.toNat (slice 0 (pageLength r.index.toNat) r.payload)) := by
  refine (State.onHead_of head s _).trans ?_
  exact if_neg (by exact Nat.not_lt.2 named)

theorem answerWriteRecord_noPage (head : headOfCode r.head.toNat = some h) (out : 3 < r.index.toNat) :
    answerWriteRecord s { r with table := 4 } = s.refuse .index :=
  (State.onHead_of head s _).trans (if_pos out)

end

end Sys2Proof.Machine

namespace Sys2Proof.OperatingModes

open Sys2Proof.Machine Sys2Proof.Safety

/-- Settles O14: each of the three by its condition, and the frame that a reset meets by `Port.cutAt_of`. -/
theorem supplyResetAndStart : Obligations.SupplyResetAndStart := by
  refine ⟨fun s => ⟨_, rfl, rfl, rfl⟩, fun pulse s long alive => ?_, fun pulse s short => ?_, fun s starting => ?_⟩
  · refine ⟨_, congrArg Host.Outcome.next (if_pos ⟨long, alive⟩), rfl, rfl, s.port.cutAt_passing _,
      fun idle => Port.cutAt_idle idle _, fun f o passing outgoing => Port.cutAt_of passing outgoing _⟩
  · exact congrArg Host.Outcome.next (if_neg fun ⟨long, _⟩ => absurd short (Nat.not_lt.2 long))
  · exact congrArg Host.Outcome.next (if_pos starting)

/-- Settles O39: the two checks, and the state that a CLEAR FAULT taken leaves. -/
theorem clearFaultEmptiesTheRecord : Obligations.ClearFaultEmptiesTheRecord := by
  intro r s serving length busy
  have answer ⦃t c⦄ (ha : answerClearFault s r = ⟨t, c, .empty⟩) :
      exec (.clearFault r) s = .next (replied t .clearFault r c .empty) :=
    exec_answered rfl serving (by rw [length]; rfl) rfl ha
  exact ⟨fun refused => answer (answerClearFault_refused refused),
    fun rest stop => answer (answerClearFault_done rest stop)⟩

/-- Settles O31: the index, the length, and the checks of a page in their order. -/
theorem headProfilePageWritten : Obligations.HeadProfilePageWritten := by
  intro r h s serving head page bs p opened answers
  have answer ⦃t c d⦄ (ha : answerWriteRecord s { r with table := 4 } = ⟨t, c, d⟩) : answers t c d :=
    exec_answered rfl serving rfl rfl ha
  refine ⟨fun out => answer (answerWriteRecord_noPage head out), fun named wrong => answer ?_, fun named length => ?_⟩
  · exact (answerWriteRecord_page head named).trans (State.ofLength_refused wrong ..)
  · have written ⦃t c d⦄ (ha : writePage s h page bs = ⟨t, c, d⟩) : answers t c d :=
      answer ((answerWriteRecord_page head named).trans ((if_pos length).trans ha))
    have opens (e : opened) := (s.profileOpen_iff h).2 e
    exact ⟨fun closed => written (writePage_closed (mt (s.profileOpen_iff h).1 closed)),
      fun field e fails => written (writePage_field (opens e) fails),
      fun field e passes mode broken => written (writePage_broken (opens e) passes mode broken),
      fun e passes related => written (writePage_done (opens e) passes related)⟩

end Sys2Proof.OperatingModes
end

section
/-! SUPPORT. What a request leaves of the mode, the pass, the slot maps and the output set, and that every step keeps a
pass out of CONFIG and the slot map in force outside CONFIG alone. -/

namespace Sys2Proof.Machine

open Sys2Proof.Safety

/-- The mode, the pass, the slot map, the slot map in force and the pending output set. -/
def State.governed (s : State) : NodeMode × PassRecord × List SlotEntry × Option (List SlotEntry) × OutputSet :=
  (s.service.mode, s.pass, s.slotMap, s.inForce, s.ring.output)

/-- An update beside the mode, the pass, the slot maps and the pending output set. -/
def Beside (s t : State) : Prop := t.governed = s.governed

section
variable {s t u : State}

theorem Beside.fields (a : Beside s t) : t.service.mode = s.service.mode ∧ t.pass = s.pass ∧ t.slotMap = s.slotMap ∧
    t.inForce = s.inForce ∧ t.ring.output = s.ring.output := by
  simpa only [Beside, State.governed, Prod.mk.injEq] using a

theorem Beside.refl (s : State) : Beside s s := rfl

theorem Beside.trans (a : Beside s t) (b : Beside t u) : Beside s u := Eq.trans b a

theorem Beside.modHead (x : HeadId) (f : Head → Head) : Beside s (s.modHead x f) := by
  simp [Beside, State.governed]

theorem Beside.modMap (x : HeadId) (f : CompMap → CompMap) : Beside s (s.modMap x f) := by
  simp [Beside, State.governed]

theorem Beside.modSeq (x : HeadId) (f : Sequencer → Sequencer) : Beside s (s.modSeq x f) := by
  simp [Beside, State.governed]

theorem Beside.raise (k : EventKind) (d : Nat) : Beside s (s.raise k d) := by
  rw [State.raise_eq]
  exact .refl s

theorem Beside.refuseFence (x : HeadId) (k : Nat) : Beside s (s.refuseFence x k) :=
  (Beside.modMap x _).trans (.raise ..)

theorem Beside.putGuards (k : Nat) (gs : List GuardRecord) : Beside s (Machine.putGuards k gs s) := by
  induction gs generalizing k s with
  | nil => exact .refl s
  | cons g gs ih =>
    have put : Beside s (s.putGuard k g) := .refl s
    exact put.trans (ih (k + 1))

/-! ## WRITE RECORD -/

theorem Beside.onHead (r : Request) {f : HeadId → Answer} (hf : ∀ x, Beside s (f x).state) :
    Beside s (s.onHead r f).state := by
  unfold State.onHead
  split
  · exact hf _
  · exact .refl s

theorem Beside.ofLength (r : Request) (n : Nat) {a : Answer} (ha : Beside s a.state) :
    Beside s (s.ofLength r n a).state := by
  unfold State.ofLength
  split
  · exact ha
  · exact .refl s

theorem Beside.writePoint (x : HeadId) (k : Nat) (p : MapPoint) : Beside s (Machine.writePoint s x k p).state := by
  unfold Machine.writePoint
  dsimp only
  split
  · exact .modMap ..
  · exact .refuseFence ..
  · exact .refl s

theorem Beside.writeHeader (x : HeadId) (n : Nat) : Beside s (Machine.writeHeader s x n).state := by
  unfold Machine.writeHeader
  dsimp only
  split
  · exact .refl s
  · split
    · exact .refl s
    · split
      · exact .refl s
      · split
        · exact .refuseFence ..
        · exact .modMap ..

theorem Beside.writeGuard (i : Nat) (bs : List Byte) : Beside s (Machine.writeGuard s i bs).state := by
  unfold Machine.writeGuard
  repeat' split
  all_goals exact .refl s

theorem Beside.writeGantry (i : Nat) (bs : List Byte) : Beside s (Machine.writeGantry s i bs).state := by
  unfold Machine.writeGantry
  repeat' split
  all_goals exact .refl s

theorem Beside.writePage (x : HeadId) (page : Nat) (bs : List Byte) :
    Beside s (Machine.writePage s x page bs).state := by
  unfold Machine.writePage
  dsimp only
  split
  · exact .refl s
  · split
    · exact .refl s
    · split
      · exact .modHead ..
      · exact .modHead ..
      · exact .refl s

/-- A slot map entry is written in CONFIG, and nothing else changes (R153). -/
theorem writeSlot_state_eq (s : State) (i : Nat) (bs : List Byte) : (writeSlot s i bs).state = s ∨
    s.service.mode = .config ∧ ∃ slots, (writeSlot s i bs).state = { s with slotMap := slots } := by
  unfold writeSlot
  split
  · exact .inl rfl
  next mode =>
    split
    · exact .inl rfl
    · split
      · exact .inr ⟨not_not.1 mode, _, rfl⟩
      · exact .inl rfl

/-- WRITE RECORD changes the slot map, in CONFIG, or none of what `Beside` lists (R175). -/
theorem answerWriteRecord_beside (s : State) (r : Request) : Beside s (answerWriteRecord s r).state ∨
    s.service.mode = .config ∧ ∃ slots, (answerWriteRecord s r).state = { s with slotMap := slots } := by
  unfold answerWriteRecord
  split
  case h_1 => exact .inl (.refl s)
  case h_2 => exact .inl (.onHead r fun _ => .refl s)
  case h_3 =>
    unfold answerWriteMap
    split
    · exact .inl (.onHead r fun x => .ofLength r 10 (.writeHeader x _))
    · exact .inl (.onHead r fun x => .ofLength r 8 (.writePoint x _ _))
  case h_4 => exact .inl (.ofLength r 16 (.writeGuard ..))
  case h_5 => exact .inl (.ofLength r 42 (.writeGantry ..))
  case h_6 =>
    refine .inl (.onHead r fun x => ?_)
    split
    · exact .refl s
    · exact .ofLength r _ (.writePage ..)
  case h_7 =>
    unfold answerWriteSlotMap State.ofLength
    split
    · exact (writeSlot_state_eq s _ _).imp (congrArg State.governed) id
    · exact .inl (.refl s)

/-! ## Queues and streams -/

theorem Beside.appendRecord (x : HeadId) (bs : List Byte) : Beside s (Machine.appendRecord s x bs).state := by
  unfold Machine.appendRecord
  dsimp only
  split
  · exact .refl s
  · split
    · exact .refl s
    · split
      · exact .modSeq ..
      · exact .refl s

theorem Beside.cancel (x : HeadId) : Beside s (s.cancel x) := by
  unfold State.cancel
  split
  · exact .modSeq ..
  · exact .modSeq ..

theorem Beside.completeStream (c : Stream) (records : List (List Byte)) :
    Beside s (Machine.completeStream s c records).state := by
  have closed : Beside s s.closeStream := .refl s
  unfold Machine.completeStream
  dsimp only
  split
  · exact closed
  · split
    · unfold applySegments
      dsimp only
      split
      · exact closed
      · split
        · exact closed.trans (.modSeq ..)
        · exact closed
    · unfold applyPoints
      dsimp only
      split
      · exact closed.trans (.modMap ..)
      · split
        · exact closed.trans (.refuseFence ..)
        · exact closed
    · unfold applyGuards
      split
      · exact closed
      · split
        · exact closed.trans (.putGuards ..)
        · exact closed

theorem Beside.streamData (r : Request) : Beside s (answerStreamData s r).state := by
  unfold answerStreamData
  dsimp only
  split
  · exact .refl s
  · split
    · exact .refl s
    · split
      · exact .completeStream ..
      · exact .refl s

end

/-- The requests that may change the mode, the pass or a slot map. -/
def RequestKind.governs : RequestKind → Bool
  | .writeRecord => true
  | .passStart => true
  | .passHold => true
  | .passResume => true
  | .passAbort => true
  | .enterReady => true
  | .enterConfig => true
  | .clearFault => true
  | _ => false

/-- The other requests change none of what `Beside` lists. -/
theorem answer_beside {k : RequestKind} (other : k.governs = false) (s : State) (r : Request) :
    Beside s (k.answer s r).state := by
  cases k <;> simp only [RequestKind.governs, Bool.true_eq_false] at other <;> simp only [RequestKind.answer]
  case readRecord => exact (answerReadRecord_state s r).symm ▸ .refl s
  case appendSegment => exact .onHead r fun x => .appendRecord x _
  case cancelPending => exact .onHead r fun x => .cancel x
  case streamData => exact .streamData r
  case takeEvent => exact .refl s
  all_goals
    dsimp only [answerReadStatus, answerStreamOpen, answerStreamCancel, answerSetEventMask, answerResetNode]
    repeat' split
    all_goals exact .refl s

end Sys2Proof.Machine

namespace Sys2Proof.Safety

open Sys2Proof.Machine

/-! ## The mode, the pass and the slot map in force -/

/-- A pass is active only outside CONFIG, and the slot map in force is that last written, outside CONFIG alone (R135,
R154). -/
def ModeOk (s : State) : Prop := PassMode s ∧ SlotsInForce s

section
variable {s t : State}

theorem ModeOk.beside (ok : ModeOk s) (a : Beside s t) : ModeOk t := by
  obtain ⟨mode, pass, slotMap, inForce, -⟩ := a.fields
  rwa [ModeOk, PassMode, SlotsInForce, State.active, mode, pass, slotMap, inForce]

/-- The blocks begin no pass, and take the mode from READY to FAULT alone (R139). -/
theorem ModeOk.worked (ok : ModeOk s) (w : Worked s t) : ModeOk t := by
  obtain ⟨pass, slots⟩ := ok
  have config : t.service.mode = .config ↔ s.service.mode = .config := by
    rcases w.mode with e | ⟨ready, fault⟩
    · rw [e]
    · simp [ready, fault]
  refine ⟨fun active e => pass (w.active active) (config.1 e), ?_⟩
  rw [SlotsInForce, w.inForce, w.slotMap, if_congr config rfl rfl]
  exact slots

/-- PASS START is taken in READY (R3). -/
theorem ModeOk.passStart (ok : ModeOk s) (r : Request) : ModeOk (answerPassStart s r).state := by
  unfold answerPassStart
  split
  · exact ok
  next mode =>
    have named (o : PassOrder) : ModeOk { s with pass := o.record } :=
      ⟨fun _ e => absurd (not_not.1 mode ▸ e) (by decide), ok.2⟩
    repeat' split
    case h_2 => exact (named _).worked (s.startPass_worked _)
    all_goals exact ok

/-- PASS RESUME returns a pass that is active already, in READY (R9). -/
theorem ModeOk.passResume (ok : ModeOk s) (r : Request) : ModeOk (answerPassResume s r).state := by
  unfold answerPassResume
  dsimp only
  split
  · exact ok
  next mode =>
    have resumed : ModeOk s.resumePass := ⟨fun _ e => absurd (not_not.1 mode ▸ e) (by decide), ok.2⟩
    repeat' split
    case isFalse.isFalse.isFalse => exact resumed
    all_goals exact ok

/-- CLEAR FAULT leaves CONFIG, and returns FAULT to READY (R140). -/
theorem ModeOk.clearFault (ok : ModeOk s) : ModeOk s.clearFault := by
  obtain ⟨pass, slots⟩ := ok
  have config : s.clearFault.service.mode = .config ↔ s.service.mode = .config := by
    simp only [State.clearFault]
    split
    next e => simp [e]
    next => rfl
  refine ⟨fun active e => pass active (config.1 e), ?_⟩
  rw [SlotsInForce, if_congr config rfl rfl]
  exact slots

/-- A slot map entry is written in CONFIG, where no slot map is in force (R153). -/
theorem ModeOk.writeRecord (ok : ModeOk s) (r : Request) : ModeOk (answerWriteRecord s r).state := by
  rcases answerWriteRecord_beside s r with a | ⟨mode, slots, e⟩
  · exact ok.beside a
  · rw [e]
    refine ⟨ok.1, ?_⟩
    have none : s.inForce = none := by rw [ok.2, if_pos mode]
    exact none.trans (if_pos mode).symm

/-- ENTER READY puts the slot map in force, in CONFIG, where no pass is active (R136, R137). -/
theorem ModeOk.enterReady (ok : ModeOk s) (r : Request) : ModeOk (answerEnterReady s r).state := by
  unfold answerEnterReady
  split
  · exact ok
  · split
    · exact ok
    · exact ⟨fun _ e => (nomatch e), rfl⟩

/-- ENTER CONFIG withdraws the slot map in force, where no pass is active (R138). -/
theorem ModeOk.enterConfig (ok : ModeOk s) (r : Request) : ModeOk (answerEnterConfig s r).state := by
  unfold answerEnterConfig
  split
  · exact ok
  · split
    · exact ok
    next rest => exact ⟨fun active => absurd active rest, rfl⟩

theorem ModeOk.answer (ok : ModeOk s) (k : RequestKind) (r : Request) : ModeOk (k.answer s r).state := by
  cases governs : k.governs with
  | false => exact ok.beside (answer_beside governs s r)
  | true =>
    cases k <;> simp only [RequestKind.governs, Bool.false_eq_true] at governs <;> simp only [RequestKind.answer]
    case writeRecord => exact ok.writeRecord r
    case passStart => exact ok.passStart r
    case passResume => exact ok.passResume r
    case enterReady => exact ok.enterReady r
    case enterConfig => exact ok.enterConfig r
    case passHold =>
      unfold answerPassHold
      repeat' split
      case isFalse.isFalse => exact ok.worked (s.holdOrder_worked _)
      all_goals exact ok
    case passAbort =>
      unfold answerPassAbort
      repeat' split
      case isFalse.isFalse => exact ok.worked s.abortPass_worked
      all_goals exact ok
    case clearFault =>
      unfold answerClearFault
      repeat' split
      case isFalse.isFalse => exact ok.clearFault
      all_goals exact ok

/-- A reset takes the node to CONFIG, without a pass and with no slot map in force (R134, R154). -/
theorem ModeOk.ofReset (rest : t.active = false) (mode : t.service.mode = .config) (none : t.inForce = none) :
    ModeOk t :=
  ⟨fun active => (nomatch rest.symm.trans active), none.trans (if_pos mode).symm⟩

end

/-- Every part of a command keeps the mode, the pass and the slot map in force in agreement. -/
theorem modeOk_kept : Kept ModeOk where
  worked := fun _ _ w ok => ok.worked w
  power := fun _ _ => id
  port := fun _ _ => id
  pending := fun _ _ => id
  reply := fun _ _ => id
  powerOn := fun _ => .ofReset rfl rfl rfl
  reset := fun _ _ _ _ => .ofReset rfl rfl rfl
  answer := fun k _ r ok => ok.answer k r
  bad := fun _ => id
  short := fun _ => id
  early := fun _ => id
  accepted := fun _ _ _ => id
  samples := fun _ _ => id
  missed := fun _ _ _ _ => id
  lost := fun _ => id
  idle := fun _ _ _ => id
  close := fun _ => id

end Sys2Proof.Safety

namespace Sys2Proof.OperatingModes

open Sys2Proof.Safety

/-- Settles O6: the blocks only take READY to FAULT and begin no pass (`ModeOk.worked`), PASS START is taken in READY, and
the slot map in force follows the mode (`ModeOk.answer`); every step is made of these (`Kept`). -/
theorem stepKeepsModeAndSlotMap : Obligations.StepKeepsModeAndSlotMap :=
  fun _ _ pass slots e => modeOk_kept.step ⟨pass, slots⟩ e

end Sys2Proof.OperatingModes
end

section
/-! SUPPORT. The eight checks of ENTER READY one by one, each by what it asks of the records and by the data of its refusal
(R136), and the two requests that change between CONFIG and READY. -/

namespace Sys2Proof.Machine

open Sys2Proof.Safety

/-- The first of a list in order whose test holds. -/
theorem find?_eq_of_first {α : Type} {R : α → α → Prop} {p : α → Bool} {l : List α} {x : α} (order : l.Pairwise R)
    (mem : x ∈ l) (holds : p x = true) (first : ∀ y ∈ l, R y x → p y = false) : l.find? p = some x := by
  obtain ⟨front, rest, rfl⟩ := List.append_of_mem mem
  refine List.find?_eq_some_iff_append.2 ⟨holds, front, rest, rfl, fun y hy => ?_⟩
  have before := (List.pairwise_append.1 order).2.2 y hy x List.mem_cons_self
  rw [first y (List.mem_append_left _ hy) before]
  rfl

/-! ## The relations of a profile (R143) -/

/-- The depth window, the fault run-out and the torque limits of a profile are in order. -/
def HeadProfile.Related (p : HeadProfile) : Prop :=
  p.depth.dMin < p.depth.dMax ∧ (p.limits.faultExit = .runOut → 1 ≤ p.limits.faultRunOut) ∧ p.trim.tLo ≤ p.trim.tHi

/-- The first relation that a profile breaks, in page order, is that of `page`, whose later field is `field`. -/
def HeadProfile.Breaks (p : HeadProfile) (page field : Nat) : Prop :=
  let window := p.depth.dMin < p.depth.dMax
  let runs := p.limits.faultExit = .runOut → 1 ≤ p.limits.faultRunOut
  page = 0 ∧ field = 1 ∧ ¬ window ∨ page = 2 ∧ field = 6 ∧ window ∧ ¬ runs ∨
    page = 3 ∧ field = 1 ∧ window ∧ runs ∧ p.trim.tHi < p.trim.tLo

section
variable {p : HeadProfile}

theorem HeadProfile.brokenRelation_depth (p : HeadProfile) :
    p.brokenRelation 0 = if p.depth.dMin < p.depth.dMax then none else some 1 := rfl

theorem HeadProfile.brokenRelation_limits (p : HeadProfile) : p.brokenRelation 2 =
    if p.limits.faultExit = .runOut → 1 ≤ p.limits.faultRunOut then none else some 6 := by
  have negated : (p.limits.faultExit = .runOut ∧ p.limits.faultRunOut < 1) ↔
      ¬ (p.limits.faultExit = .runOut → 1 ≤ p.limits.faultRunOut) := by
    rw [Classical.not_imp, Int.not_le]
  rw [HeadProfile.brokenRelation, if_congr negated rfl rfl, ite_not]

theorem HeadProfile.brokenRelation_trim (p : HeadProfile) :
    p.brokenRelation 3 = if p.trim.tLo ≤ p.trim.tHi then none else some 1 := rfl

theorem HeadProfile.firstBroken_eq (p : HeadProfile) : p.firstBroken =
    ((p.brokenRelation 0).map (Prod.mk 0)).or
      (((p.brokenRelation 2).map (Prod.mk 2)).or ((p.brokenRelation 3).map (Prod.mk 3))) := by
  unfold HeadProfile.firstBroken
  cases h0 : p.brokenRelation 0 <;> cases h2 : p.brokenRelation 2 <;> cases h3 : p.brokenRelation 3 <;>
    simp [h0, h2, h3]

theorem HeadProfile.firstBroken_none_iff : p.firstBroken = none ↔ p.Related := by
  simp only [HeadProfile.firstBroken_eq, HeadProfile.brokenRelation_depth, HeadProfile.brokenRelation_limits,
    HeadProfile.brokenRelation_trim, Option.or_eq_none_iff, Option.map_eq_none_iff, ite_eq_left_iff, reduceCtorEq,
    imp_false, not_not, HeadProfile.Related]

theorem HeadProfile.firstBroken_of {page field : Nat} (breaks : p.Breaks page field) :
    p.firstBroken = some (page, field) := by
  rw [HeadProfile.firstBroken_eq, HeadProfile.brokenRelation_depth, HeadProfile.brokenRelation_limits,
    HeadProfile.brokenRelation_trim]
  rcases breaks with ⟨rfl, rfl, window⟩ | ⟨rfl, rfl, window, runs⟩ | ⟨rfl, rfl, window, runs, torque⟩
  · rw [if_neg window]
    rfl
  · rw [if_pos window, if_neg runs]
    rfl
  · rw [if_pos window, if_pos runs, if_neg (Int.not_le.2 torque)]
    rfl

end

/-! ## The slots of the slot map as it stands -/

section
variable {s : State} {id i j : Nat}

/-- A channel is enabled in the slot map. -/
def State.SlotEnabled (s : State) (id : Nat) : Prop := ∃ e, s.slotMap[id]? = some e ∧ e.enabled = true

/-- An enabled slot lies behind the service area, within the largest payload (R136, check 7). -/
def State.SlotInside (s : State) (id : Nat) : Prop :=
  ∀ e, s.slotMap[id]? = some e → e.enabled = true → 64 ≤ e.offset ∧ e.offset + channelWidth id ≤ 1024

/-- Two enabled slots share no byte (R136, check 8). -/
def State.SlotsApart (s : State) (i j : Nat) : Prop :=
  ∀ e f, s.slotMap[i]? = some e → s.slotMap[j]? = some f → e.enabled = true → f.enabled = true →
    e.offset + channelWidth i ≤ f.offset ∨ f.offset + channelWidth j ≤ e.offset

/-- A channel of a present head (R136, check 6). -/
def HeadSet.Owns (p : HeadSet) (id : Nat) : Prop :=
  p.has .a = true ∧ id ∈ [0, 1, 2, 3, 4, 5, 6, 17, 18, 19, 20] ∨
    p.has .b = true ∧ id ∈ [7, 8, 9, 10, 11, 12, 13, 21, 22, 23, 24]

theorem HeadSet.mem_channels {p : HeadSet} : id ∈ p.channels ↔ p.Owns id := by
  unfold HeadSet.channels HeadSet.Owns
  cases p.has .a <;> cases p.has .b <;> simp
  omega

theorem HeadSet.channels_order (p : HeadSet) : p.channels.Pairwise (· < ·) := by
  cases p <;> decide

theorem State.firstDisabled_eq (s : State) (ids : List Nat) :
    s.firstDisabled ids = ids.find? fun id => !(s.slotMap[id]?).any SlotEntry.enabled := by
  unfold State.firstDisabled
  congr 1
  funext id
  cases s.slotMap[id]? <;> rfl

theorem State.slotEnabled_iff : (s.slotMap[id]?).any SlotEntry.enabled = true ↔ s.SlotEnabled id := by
  cases e : s.slotMap[id]? <;> simp [State.SlotEnabled, e]

theorem State.firstDisabled_none_iff {ids : List Nat} :
    s.firstDisabled ids = none ↔ ∀ id ∈ ids, s.SlotEnabled id := by
  simp only [State.firstDisabled_eq, List.find?_eq_none, Bool.not_eq_true, Bool.not_eq_false', State.slotEnabled_iff]

theorem State.firstDisabled_of {ids : List Nat} (order : ids.Pairwise (· < ·)) (mem : id ∈ ids)
    (disabled : ¬ s.SlotEnabled id) (first : ∀ j ∈ ids, j < id → s.SlotEnabled j) : s.firstDisabled ids = some id := by
  rw [State.firstDisabled_eq]
  refine find?_eq_of_first order mem ?_ fun j hj before => ?_
  · rw [Bool.eq_false_of_not_eq_true (mt State.slotEnabled_iff.1 disabled)]
    rfl
  · rw [State.slotEnabled_iff.2 (first j hj before)]
    rfl

/-! ## The enabled slots in id order -/

/-- A channel with its slot, where it is enabled. -/
def State.enabledSlot (s : State) (id : Nat) : Option (Nat × SlotEntry) :=
  ((s.slotMap[id]?).filter SlotEntry.enabled).map (Prod.mk id)

theorem State.enabledSlots_eq (s : State) : s.enabledSlots = (List.range 28).filterMap s.enabledSlot := by
  unfold State.enabledSlots
  congr 1
  funext id
  unfold State.enabledSlot
  cases s.slotMap[id]? with
  | none => rfl
  | some e => cases enabled : e.enabled <;> simp [enabled, Option.filter]

theorem State.enabledSlot_iff {k : Nat} {e : SlotEntry} :
    s.enabledSlot k = some (id, e) ↔ k = id ∧ s.slotMap[k]? = some e ∧ e.enabled = true := by
  simp only [State.enabledSlot, Option.map_eq_some_iff, Option.filter_eq_some_iff, Prod.mk.injEq]
  exact ⟨fun ⟨_, held, named, rfl⟩ => ⟨named, held⟩, fun ⟨named, held⟩ => ⟨e, held, named, rfl⟩⟩

theorem State.mem_enabledSlots {e : SlotEntry} :
    (id, e) ∈ s.enabledSlots ↔ id < 28 ∧ s.slotMap[id]? = some e ∧ e.enabled = true := by
  simp only [State.enabledSlots_eq, List.mem_filterMap, List.mem_range, State.enabledSlot_iff]
  exact ⟨fun ⟨_, named, rfl, held⟩ => ⟨named, held⟩, fun ⟨named, held⟩ => ⟨id, named, rfl, held⟩⟩

theorem State.enabledSlots_order (s : State) : s.enabledSlots.Pairwise fun e f => e.1 < f.1 := by
  rw [State.enabledSlots_eq]
  refine List.pairwise_filterMap.2 (List.pairwise_lt_range.imp fun below e he f hf => ?_)
  rw [← (State.enabledSlot_iff.1 he).1, ← (State.enabledSlot_iff.1 hf).1]
  exact below

theorem slotInside_iff {e : SlotEntry} :
    slotInside (id, e) = true ↔ 64 ≤ e.offset ∧ e.offset + channelWidth id ≤ 1024 := by
  simp [slotInside, SlotEntry.within]

/-- Every enabled slot passes check 7 of R136 where each channel's does. -/
theorem State.slotsInside_iff :
    (s.enabledSlots.find? fun e => !slotInside e) = none ↔ ∀ id < 28, s.SlotInside id := by
  simp only [List.find?_eq_none, Bool.not_eq_true, Bool.not_eq_false']
  constructor
  · exact fun inside id named e entry enabled => slotInside_iff.1 (inside (id, e)
      (State.mem_enabledSlots.2 ⟨named, entry, enabled⟩))
  · rintro inside ⟨id, e⟩ mem
    obtain ⟨named, entry, enabled⟩ := State.mem_enabledSlots.1 mem
    exact slotInside_iff.2 (inside id named e entry enabled)

theorem State.slotOutside_of (named : id < 28) (outside : ¬ s.SlotInside id) (first : ∀ j < id, s.SlotInside j) :
    ∃ e, (s.enabledSlots.find? fun e => !slotInside e) = some (id, e) := by
  simp only [State.SlotInside, not_forall] at outside
  obtain ⟨e, entry, enabled, outside⟩ := outside
  refine ⟨e, find?_eq_of_first s.enabledSlots_order (State.mem_enabledSlots.2 ⟨named, entry, enabled⟩) ?_ ?_⟩
  · rw [Bool.eq_false_of_not_eq_true (mt slotInside_iff.1 outside)]
    rfl
  · rintro ⟨j, f⟩ mem below
    obtain ⟨-, entryBefore, enabledBefore⟩ := State.mem_enabledSlots.1 mem
    rw [slotInside_iff.2 (first j below f entryBefore enabledBefore)]
    rfl

/-! ## Overlapping slots -/

theorem slotsOverlap_iff {e f : SlotEntry} : slotsOverlap (i, e) (j, f) = false ↔
    f.offset + channelWidth j ≤ e.offset ∨ e.offset + channelWidth i ≤ f.offset := by
  simp only [slotsOverlap, Bool.and_eq_false_iff, decide_eq_false_iff_not, Nat.not_lt]

/-- The search goes on behind slots that overlap none of the lower ones. -/
theorem firstOverlap_append (seen front rest : List (Nat × SlotEntry)) :
    firstOverlap seen (front ++ rest) = (firstOverlap seen front).or (firstOverlap (seen ++ front) rest) := by
  induction front generalizing seen with
  | nil => simp [firstOverlap]
  | cons e front ih =>
    rw [List.cons_append, firstOverlap, firstOverlap]
    cases seen.find? fun f => slotsOverlap e f with
    | some f => rfl
    | none => simpa only [List.append_assoc, List.singleton_append] using ih (seen ++ [e])

theorem firstOverlap_none_iff {seen l : List (Nat × SlotEntry)} : firstOverlap seen l = none ↔
    (∀ e ∈ l, ∀ f ∈ seen, slotsOverlap e f = false) ∧ l.Pairwise fun f e => slotsOverlap e f = false := by
  induction l generalizing seen with
  | nil => simp [firstOverlap]
  | cons e l ih =>
    rw [firstOverlap]
    cases found : seen.find? fun f => slotsOverlap e f with
    | some f =>
      have overlaps : slotsOverlap e f = true := List.find?_some found
      have clash : ¬ ∀ x ∈ e :: l, ∀ y ∈ seen, slotsOverlap x y = false := fun apart =>
        Bool.noConfusion ((apart e List.mem_cons_self f (List.mem_of_find?_eq_some found)).symm.trans overlaps)
      exact iff_of_false (by simp) fun h => clash h.1
    | none =>
      have free : ∀ f ∈ seen, slotsOverlap e f = false := by simpa using List.find?_eq_none.1 found
      simp only [ih, List.mem_append, List.mem_singleton, or_imp, imp_and, forall_and, forall_eq, List.forall_mem_cons,
        List.pairwise_cons]
      exact ⟨fun ⟨⟨below, behind⟩, order⟩ => ⟨⟨free, below⟩, behind, order⟩,
        fun ⟨⟨_, below⟩, behind, order⟩ => ⟨⟨below, behind⟩, order⟩⟩

/-- No slot overlaps a lower one where the enabled slots lie apart (R136, check 8). -/
theorem State.slotsApart_iff : firstOverlap [] s.enabledSlots = none ↔ ∀ i < 28, ∀ j < i, s.SlotsApart j i := by
  rw [firstOverlap_none_iff]
  constructor
  · rintro ⟨-, order⟩ i named j below e f entryJ entryI enabledJ enabledI
    have both := (order.and s.enabledSlots_order)
    have memJ : (j, e) ∈ s.enabledSlots := State.mem_enabledSlots.2 ⟨below.trans named, entryJ, enabledJ⟩
    have memI : (i, f) ∈ s.enabledSlots := State.mem_enabledSlots.2 ⟨named, entryI, enabledI⟩
    obtain ⟨front, rest, split⟩ := List.append_of_mem memI
    rw [split] at both memJ
    obtain ⟨-, behind, across⟩ := List.pairwise_append.1 both
    rcases List.mem_append.1 memJ with before | after
    · exact slotsOverlap_iff.1 (across _ before _ List.mem_cons_self).1
    · rcases List.mem_cons.1 after with same | later
      · exact absurd (congrArg Prod.fst same) below.ne
      · exact absurd ((List.pairwise_cons.1 behind).1 _ later).2 (Nat.not_lt.2 below.le)
  · intro apart
    refine ⟨fun _ _ _ hf => (nomatch hf), s.enabledSlots_order.imp_of_mem ?_⟩
    rintro ⟨j, e⟩ ⟨i, f⟩ memJ memI below
    obtain ⟨-, entryJ, enabledJ⟩ := State.mem_enabledSlots.1 memJ
    obtain ⟨named, entryI, enabledI⟩ := State.mem_enabledSlots.1 memI
    exact slotsOverlap_iff.2 (apart i named j below e f entryJ entryI enabledJ enabledI)

/-- The pair found is the lowest slot that overlaps a lower one, with the lowest that it overlaps (R136, check 8). -/
theorem State.firstOverlap_of (named : i < 28) (below : j < i) (overlap : ¬ s.SlotsApart j i)
    (before : ∀ k < i, ∀ l < k, s.SlotsApart l k) (lowest : ∀ l < j, s.SlotsApart l i) :
    firstOverlap [] s.enabledSlots = some (i, j) := by
  simp only [State.SlotsApart, not_forall] at overlap
  obtain ⟨e, f, entryJ, entryI, enabledJ, enabledI, overlap⟩ := overlap
  have memI : (i, f) ∈ s.enabledSlots := State.mem_enabledSlots.2 ⟨named, entryI, enabledI⟩
  have memJ : (j, e) ∈ s.enabledSlots := State.mem_enabledSlots.2 ⟨below.trans named, entryJ, enabledJ⟩
  obtain ⟨front, rest, split⟩ := List.append_of_mem memI
  have order := s.enabledSlots_order
  rw [split] at order memJ
  obtain ⟨frontOrder, behind, across⟩ := List.pairwise_append.1 order
  have slotOf {g : Nat × SlotEntry} (hg : g ∈ front) :
      g.1 < i ∧ s.slotMap[g.1]? = some g.2 ∧ g.2.enabled = true := by
    have mem : (g.1, g.2) ∈ s.enabledSlots := split ▸ List.mem_append_left _ hg
    exact ⟨across _ hg _ List.mem_cons_self, (State.mem_enabledSlots.1 mem).2⟩
  have frontJ : (j, e) ∈ front := by
    rcases List.mem_append.1 memJ with here | after
    · exact here
    · rcases List.mem_cons.1 after with same | later
      · exact absurd (congrArg Prod.fst same) below.ne
      · exact absurd ((List.pairwise_cons.1 behind).1 _ later) (Nat.not_lt.2 below.le)
  have frontFree : firstOverlap [] front = none := by
    refine firstOverlap_none_iff.2 ⟨fun _ _ _ hf => (nomatch hf), frontOrder.imp_of_mem ?_⟩
    intro g k hg hk under
    obtain ⟨-, entryG, enabledG⟩ := slotOf hg
    obtain ⟨low, entryK, enabledK⟩ := slotOf hk
    exact slotsOverlap_iff.2 (before _ low _ under _ _ entryG entryK enabledG enabledK)
  have found : (front.find? fun g => slotsOverlap (i, f) g) = some (j, e) := by
    refine find?_eq_of_first frontOrder frontJ ?_ fun g hg under => ?_
    · exact Bool.eq_true_of_not_eq_false (mt slotsOverlap_iff.1 overlap)
    · obtain ⟨-, entryG, enabledG⟩ := slotOf hg
      exact slotsOverlap_iff.2 (lowest _ under _ _ entryG entryI enabledG enabledI)
  rw [split, firstOverlap_append, frontFree, Option.none_or, List.nil_append, firstOverlap, found]

end

/-! ## The checks by their numbers -/

/-- A check of ENTER READY by its number: the data of its refusal where it fails (R136). -/
def State.readyCheck (s : State) : Nat → Option ReplyData
  | 1 => if s.gantry.present = .none then some (.number 1) else none
  | 2 => if s.gantry.xMax < s.gantry.approachSpeed then some (.number 2) else none
  | 3 => (s.presentBroken .a).map fun x => .items [3, x.1, x.2]
  | 4 => (s.presentBroken .b).map fun x => .items [4, x.1, x.2]
  | 5 => (s.firstDisabled [14, 15, 16, 25, 26, 27]).map fun (id : Nat) => .items [5, id]
  | 6 => (s.firstDisabled s.gantry.present.channels).map fun (id : Nat) => .items [6, id]
  | 7 => (s.enabledSlots.find? fun e => !slotInside e).map fun e => .items [7, e.1]
  | 8 => (firstOverlap [] s.enabledSlots).map fun x => .items [8, x.1, x.2]
  | _ => none

/-- The checks up to a number pass. -/
def State.ReadyUpTo (s : State) (n : Nat) : Prop := ∀ m, 1 ≤ m → m ≤ n → s.readyCheck m = none

section
variable {s : State} {n : Nat}

/-- The failure of ENTER READY is that of the first check that fails. -/
theorem State.readyFailure_eq (s : State) :
    s.readyFailure = [1, 2, 3, 4, 5, 6, 7, 8].findSome? s.readyCheck := by
  simp only [List.findSome?, State.readyCheck, State.readyFailure]
  split
  · rfl
  · split
    · rfl
    · cases s.presentBroken .a with
      | some x => rfl
      | none =>
        cases s.presentBroken .b with
        | some x => rfl
        | none =>
          cases s.firstDisabled [14, 15, 16, 25, 26, 27] with
          | some id => rfl
          | none =>
            cases s.firstDisabled s.gantry.present.channels with
            | some id => rfl
            | none =>
              cases s.enabledSlots.find? fun e => !slotInside e with
              | some e => rfl
              | none => cases firstOverlap [] s.enabledSlots <;> rfl

theorem State.readyUpTo_zero (s : State) : s.ReadyUpTo 0 := fun m low high => absurd high (by omega)

theorem State.readyUpTo_succ : s.ReadyUpTo (n + 1) ↔ s.ReadyUpTo n ∧ s.readyCheck (n + 1) = none := by
  refine ⟨fun h => ⟨fun m low high => h m low (by omega), h _ (by omega) le_rfl⟩, fun ⟨h, last⟩ m low high => ?_⟩
  rcases Nat.lt_or_eq_of_le high with below | rfl
  · exact h m low (by omega)
  · exact last

theorem State.readyFailure_none_iff : s.readyFailure = none ↔ s.ReadyUpTo 8 := by
  simp only [State.readyFailure_eq, List.findSome?_eq_none_iff, State.ReadyUpTo]
  refine forall_congr' fun m => ⟨fun h low high => h ?_, fun h mem => h ?_ ?_⟩
  · simp only [List.mem_cons, List.not_mem_nil, or_false]
    omega
  all_goals
    simp only [List.mem_cons, List.not_mem_nil, or_false] at mem
    omega

theorem State.readyFailure_of {d : ReplyData} (passed : s.ReadyUpTo n) (fails : s.readyCheck (n + 1) = some d) :
    s.readyFailure = some d := by
  have named : n < 8 := by
    by_contra beyond
    have none : s.readyCheck (n + 1) = none := by
      unfold State.readyCheck
      split
      case h_9 => rfl
      all_goals omega
    cases none.symm.trans fails
  rw [State.readyFailure_eq]
  refine List.findSome?_eq_some_iff.2 ⟨List.range' 1 n, n + 1, List.range' (n + 2) (7 - n), ?_, fails, fun m hm => ?_⟩
  · interval_cases n <;> rfl
  · obtain ⟨low, high⟩ := List.mem_range'_1.1 hm
    exact passed m low (by omega)

/-! ## What each check asks -/

theorem State.readyCheck_one : s.readyCheck 1 = none ↔ s.gantry.present ≠ .none := by
  simp only [State.readyCheck, ite_eq_right_iff, reduceCtorEq, imp_false, ne_eq]

theorem State.readyCheck_two : s.readyCheck 2 = none ↔ s.gantry.approachSpeed ≤ s.gantry.xMax := by
  simp only [State.readyCheck, ite_eq_right_iff, reduceCtorEq, imp_false, Int.not_lt]

theorem State.presentBroken_none_iff {h : HeadId} :
    s.presentBroken h = none ↔ (s.gantry.present.has h = true → (s.head h).profile.Related) := by
  simp only [State.presentBroken, ite_eq_right_iff, HeadProfile.firstBroken_none_iff]

theorem State.presentBroken_of {h : HeadId} {page field : Nat} (present : s.gantry.present.has h = true)
    (breaks : (s.head h).profile.Breaks page field) : s.presentBroken h = some (page, field) := by
  rw [State.presentBroken, if_pos present, HeadProfile.firstBroken_of breaks]

theorem State.readyCheck_three :
    s.readyCheck 3 = none ↔ (s.gantry.present.has .a = true → (s.head .a).profile.Related) := by
  rw [State.readyCheck, Option.map_eq_none_iff, State.presentBroken_none_iff]

theorem State.readyCheck_four :
    s.readyCheck 4 = none ↔ (s.gantry.present.has .b = true → (s.head .b).profile.Related) := by
  rw [State.readyCheck, Option.map_eq_none_iff, State.presentBroken_none_iff]

theorem State.readyCheck_five : s.readyCheck 5 = none ↔ ∀ id ∈ [14, 15, 16, 25, 26, 27], s.SlotEnabled id := by
  rw [State.readyCheck, Option.map_eq_none_iff, State.firstDisabled_none_iff]

theorem State.readyCheck_six : s.readyCheck 6 = none ↔ ∀ id, s.gantry.present.Owns id → s.SlotEnabled id := by
  simp only [State.readyCheck, Option.map_eq_none_iff, State.firstDisabled_none_iff, HeadSet.mem_channels]

theorem State.readyCheck_seven : s.readyCheck 7 = none ↔ ∀ id < 28, s.SlotInside id := by
  rw [State.readyCheck, Option.map_eq_none_iff, State.slotsInside_iff]

theorem State.readyCheck_eight : s.readyCheck 8 = none ↔ ∀ i < 28, ∀ j < i, s.SlotsApart j i := by
  rw [State.readyCheck, Option.map_eq_none_iff, State.slotsApart_iff]

/-! ## ENTER READY and ENTER CONFIG (R136 to R138) -/

variable {r : Request}

theorem answerEnterReady_state (mode : s.service.mode ≠ .config) : answerEnterReady s r = s.refuse .state :=
  if_pos mode

theorem answerEnterReady_value {d : ReplyData} (mode : s.service.mode = .config) (fails : s.readyFailure = some d) :
    answerEnterReady s r = s.refuseWith .value d := by
  rw [answerEnterReady, if_neg (not_not.2 mode), fails]

theorem answerEnterReady_done (mode : s.service.mode = .config) (passes : s.readyFailure = none) :
    answerEnterReady s r = s.enterReady.done .empty := by
  rw [answerEnterReady, if_neg (not_not.2 mode), passes]

theorem answerEnterConfig_config (mode : s.service.mode = .config) : answerEnterConfig s r = s.done .empty :=
  if_pos mode

theorem answerEnterConfig_state (mode : s.service.mode ≠ .config) (active : s.active = true) :
    answerEnterConfig s r = s.refuse .state := by
  rw [answerEnterConfig, if_neg mode, if_pos active]

theorem answerEnterConfig_done (mode : s.service.mode ≠ .config) (rest : s.active = false) :
    answerEnterConfig s r =
      ({ s with service := { s.service with mode := .config }, inForce := none } : State).done .empty := by
  rw [answerEnterConfig, if_neg mode, if_neg (by simp [rest])]

end

end Sys2Proof.Machine

namespace Sys2Proof.OperatingModes

open Sys2Proof.Machine Sys2Proof.Safety

/-- A check more joins those that have passed. -/
theorem passed_succ {s : State} {n : Nat} {passed asks mode : Prop} (before : passed ↔ mode ∧ s.ReadyUpTo n)
    (check : s.readyCheck (n + 1) = none ↔ asks) : passed ∧ asks ↔ mode ∧ s.ReadyUpTo (n + 1) := by
  rw [before, State.readyUpTo_succ, check, and_assoc]

/-- Settles O38: each check by what it asks (`State.readyCheck_one` and its fellows), and its refusal where the checks before
it pass (`State.readyFailure_of`). -/
theorem modesEntered : Obligations.ModesEntered := by
  intro r s serving length enabled p related broken owned inside apart c1 c2 c3 c4 c5 c6 c7 c8 ready config
  have answer ⦃t c d⦄ (ha : answerEnterReady s r = ⟨t, c, d⟩) : ready t c d :=
    exec_answered rfl serving (by rw [length]; rfl) rfl ha
  have leave ⦃t c⦄ (ha : answerEnterConfig s r = ⟨t, c, .empty⟩) : config t c :=
    exec_answered rfl serving (by rw [length]; rfl) rfl ha
  have p0 : s.service.mode = .config ↔ s.service.mode = .config ∧ s.ReadyUpTo 0 :=
    (and_iff_left s.readyUpTo_zero).symm
  have p1 : c1 ↔ _ := passed_succ p0 State.readyCheck_one
  have p2 : c2 ↔ _ := passed_succ p1 State.readyCheck_two
  have p3 : c3 ↔ _ := passed_succ p2 State.readyCheck_three
  have p4 : c4 ↔ _ := passed_succ p3 State.readyCheck_four
  have p5 : c5 ↔ _ := passed_succ p4 State.readyCheck_five
  have p6 : c6 ↔ _ := passed_succ p5 State.readyCheck_six
  have p7 : c7 ↔ _ := passed_succ p6 State.readyCheck_seven
  have p8 : c8 ↔ _ := passed_succ p7 State.readyCheck_eight
  have refuses ⦃n d⦄ (passed : s.service.mode = .config ∧ s.ReadyUpTo n) (fails : s.readyCheck (n + 1) = some d) :
      ready s .value d :=
    answer (answerEnterReady_value passed.1 (State.readyFailure_of passed.2 fails))
  refine ⟨fun mode => answer (answerEnterReady_state mode), fun mode fails => ?_, fun mode absent => ?_,
    fun passed above => ?_, fun page field passed present breaks => ?_, fun page field passed present breaks => ?_,
    fun id mem passed disabled first => ?_, fun id passed owns disabled first => ?_,
    fun id named passed outside first => ?_, fun i named j below passed overlap before lowest => ?_, fun passed => ?_,
    fun mode => leave (answerEnterConfig_config mode), fun mode active => leave (answerEnterConfig_state mode active),
    fun mode rest => leave (answerEnterConfig_done mode rest)⟩
  · have failed : s.readyFailure ≠ none := fun none => fails (p8.2 ⟨mode, State.readyFailure_none_iff.1 none⟩)
    obtain ⟨d, fails⟩ := Option.ne_none_iff_exists'.1 failed
    exact ⟨d, answer (answerEnterReady_value mode fails)⟩
  · exact refuses (p0.1 mode) (if_pos absent)
  · exact refuses (p1.1 passed) (if_pos above)
  · exact refuses (p2.1 passed) (congrArg (Option.map _) (State.presentBroken_of present breaks))
  · exact refuses (p3.1 passed) (congrArg (Option.map _) (State.presentBroken_of present breaks))
  · exact refuses (p4.1 passed) (congrArg (Option.map _) (State.firstDisabled_of (by decide) mem disabled first))
  · exact refuses (p5.1 passed) (congrArg (Option.map _) (State.firstDisabled_of (HeadSet.channels_order _)
      (HeadSet.mem_channels.2 owns) disabled fun j hj => first j (HeadSet.mem_channels.1 hj)))
  · obtain ⟨e, found⟩ := State.slotOutside_of named outside first
    exact refuses (p6.1 passed) (congrArg (Option.map _) found)
  · exact refuses (p7.1 passed) (congrArg (Option.map _) (State.firstOverlap_of named below overlap before lowest))
  · obtain ⟨mode, passes⟩ := p8.1 passed
    exact answer (answerEnterReady_done mode (State.readyFailure_none_iff.2 passes))

end Sys2Proof.OperatingModes
end

section
/-! SUPPORT. What a frame carries as it leaves the node: bytes written over others, the answered area, the output slots one
by one, and the frame check (R151, R166, R171). -/

namespace Sys2Proof.Machine

open Sys2Proof.Safety

/-! ## The bytes of a value (R189) -/

theorem bytesOfNat_getElem? (w v : Nat) {i : Nat} (inside : i < w) :
    (bytesOfNat w v)[i]? = some (BitVec.ofNat 8 (v / 256 ^ i)) := by
  induction w generalizing v i with
  | zero => omega
  | succ w ih =>
    cases i with
    | zero => simp [bytesOfNat]
    | succ i =>
      rw [bytesOfNat, List.getElem?_cons_succ, ih _ (by omega), Nat.div_div_eq_div_mul, pow_succ']

/-- The bytes below `w` of a value are those of its remainder in `w` bytes. -/
theorem byte_of_remainder (v : Int) {w i : Nat} (inside : i < w) :
    v % 2 ^ (8 * w) / 2 ^ (8 * i) % 256 = v / 2 ^ (8 * i) % 256 := by
  obtain ⟨above, rfl⟩ : ∃ above, w = i + (above + 1) := ⟨w - i - 1, by omega⟩
  have power : (2 : Int) ^ (8 * (i + (above + 1))) = 2 ^ (8 * i) * (256 * 2 ^ (8 * above)) := by
    rw [show 8 * (i + (above + 1)) = 8 * i + (8 + 8 * above) by omega, pow_add, pow_add]
    rfl
  have positive : (0 : Int) < 2 ^ (8 * i) := by positivity
  rw [power]
  set q := v / (2 ^ (8 * i) * (256 * 2 ^ (8 * above))) with quotient
  have whole : v % (2 ^ (8 * i) * (256 * 2 ^ (8 * above))) = v + 2 ^ (8 * i) * (256 * (-(2 ^ (8 * above) * q))) := by
    rw [Int.emod_def, ← quotient]
    ring
  rw [whole, Int.add_mul_ediv_left _ _ positive.ne', Int.add_mul_emod_self_left]

/-- Each byte of a value, least significant first, in two's complement (R189). -/
theorem bytesOf_getElem? (w : Nat) (v : Int) {i : Nat} (inside : i < w) :
    (bytesOf w v)[i]? = some (BitVec.ofInt 8 (v / 2 ^ (8 * i))) := by
  have remains : 0 ≤ v % 2 ^ (8 * w) := Int.emod_nonneg _ (by positivity)
  have power : (2 : Int) ^ (8 * i) = 256 ^ i := by rw [pow_mul]; rfl
  rw [bytesOf, bytesOfNat_getElem? w _ inside, ← BitVec.ofInt_natCast]
  congr 1
  refine BitVec.eq_of_toNat_eq ?_
  rw [BitVec.toNat_ofInt, BitVec.toNat_ofInt]
  push_cast
  rw [Int.toNat_of_nonneg remains, ← power]
  exact congrArg Int.toNat (byte_of_remainder v inside)

/-! ## Bytes written over others -/

section
variable {off i : Nat} {new bs : List Byte}

theorem overwrite_length (off : Nat) (new bs : List Byte) : (overwrite off new bs).length = bs.length := by
  simp only [overwrite, List.length_append, List.length_take, List.length_drop]
  omega

theorem overwrite_outside (outside : i < off ∨ off + new.length ≤ i) : (overwrite off new bs)[i]? = bs[i]? := by
  unfold overwrite
  by_cases below : i < off
  · by_cases held : i < bs.length
    · rw [List.append_assoc, List.getElem?_append_left (by simp; omega), List.getElem?_take_of_lt below]
    · have length := overwrite_length off new bs
      unfold overwrite at length
      rw [List.getElem?_eq_none (by omega), List.getElem?_eq_none (by omega)]
  · by_cases held : i < bs.length
    · have front : (bs.take off ++ new.take (bs.length - off)).length = off + new.length := by
        simp only [List.length_append, List.length_take]
        omega
      rw [List.getElem?_append_right (by omega), front, List.getElem?_drop]
      congr 1
      omega
    · have length := overwrite_length off new bs
      unfold overwrite at length
      rw [List.getElem?_eq_none (by omega), List.getElem?_eq_none (by omega)]

theorem overwrite_inside (fits : off + new.length ≤ bs.length) (inside : i < new.length) :
    (overwrite off new bs)[off + i]? = new[i]? := by
  have front : (bs.take off).length = off := by
    rw [List.length_take]
    omega
  rw [overwrite, List.take_of_length_le (by omega : new.length ≤ bs.length - off), List.append_assoc,
    List.getElem?_append_right (by omega), front, Nat.add_sub_cancel_left, List.getElem?_append_left inside]

end

/-! ## The output slots one after another (R166) -/

/-- The slots of some output channels written over a payload. -/
def State.putSlots (s : State) (ids : List Nat) (payload : List Byte) : List Byte :=
  ids.foldl (fun p id => overwrite (s.slotOffset id) (s.outputBytes id) p) payload

theorem State.writeSlots_eq (s : State) (payload : List Byte) :
    s.writeSlots payload = s.putSlots (s.writtenIds payload.length) payload := rfl

section
variable {s : State} {ids : List Nat} {id i n : Nat} {payload : List Byte}

theorem State.putSlots_cons (s : State) (id : Nat) (ids : List Nat) (payload : List Byte) :
    s.putSlots (id :: ids) payload = s.putSlots ids (overwrite (s.slotOffset id) (s.outputBytes id) payload) := rfl

theorem State.putSlots_length (s : State) (ids : List Nat) (payload : List Byte) :
    (s.putSlots ids payload).length = payload.length := by
  induction ids generalizing payload with
  | nil => rfl
  | cons id ids ih => rw [State.putSlots_cons, ih, overwrite_length]

theorem State.putSlots_outside
    (outside : ∀ id ∈ ids, i < s.slotOffset id ∨ s.slotOffset id + (s.outputBytes id).length ≤ i) :
    (s.putSlots ids payload)[i]? = payload[i]? := by
  induction ids generalizing payload with
  | nil => rfl
  | cons id ids ih =>
    obtain ⟨first, rest⟩ := List.forall_mem_cons.1 outside
    rw [State.putSlots_cons, ih rest, overwrite_outside first]

/-- A slot that shares no byte with another one keeps its channel's bytes, whichever are written behind it. -/
theorem State.putSlots_inside (mem : id ∈ ids)
    (fits : s.slotOffset id + (s.outputBytes id).length ≤ payload.length)
    (apart : ∀ j ∈ ids, j ≠ id → s.slotOffset j + (s.outputBytes j).length ≤ s.slotOffset id ∨
      s.slotOffset id + (s.outputBytes id).length ≤ s.slotOffset j)
    (inside : i < (s.outputBytes id).length) :
    (s.putSlots ids payload)[s.slotOffset id + i]? = (s.outputBytes id)[i]? := by
  induction ids generalizing payload with
  | nil => cases mem
  | cons k ids ih =>
    rw [State.putSlots_cons]
    by_cases later : id ∈ ids
    · exact ih later (by rwa [overwrite_length]) fun j hj => apart j (List.mem_cons_of_mem k hj)
    · obtain rfl : id = k := (List.mem_cons.1 mem).resolve_right later
      rw [State.putSlots_outside, overwrite_inside fits inside]
      intro j hj
      have := apart j (List.mem_cons_of_mem _ hj) fun e => later (e ▸ hj)
      omega

/-- Such a slot holds its channel's bytes. -/
theorem State.putSlots_slot (mem : id ∈ ids)
    (fits : s.slotOffset id + (s.outputBytes id).length ≤ payload.length)
    (apart : ∀ j ∈ ids, j ≠ id → s.slotOffset j + (s.outputBytes j).length ≤ s.slotOffset id ∨
      s.slotOffset id + (s.outputBytes id).length ≤ s.slotOffset j) :
    ((s.putSlots ids payload).drop (s.slotOffset id)).take (s.outputBytes id).length = s.outputBytes id := by
  refine List.ext_getElem? fun i => ?_
  by_cases inside : i < (s.outputBytes id).length
  · rw [List.getElem?_take_of_lt inside, List.getElem?_drop, State.putSlots_inside mem fits apart inside]
  · have out := Nat.not_lt.1 inside
    rw [List.getElem?_eq_none ((List.length_take_le ..).trans out), List.getElem?_eq_none out]

/-! ## The channels -/

/-- A channel is written outside CONFIG where it is enabled in the slot map in force and its slot lies within the payload
(R166, R167). -/
theorem State.mem_writtenIds : id ∈ s.writtenIds n ↔ 17 ≤ id ∧ id ≤ 27 ∧ s.service.mode ≠ .config ∧
    ∃ slots e, s.inForce = some slots ∧ slots[id]? = some e ∧ e.enabled = true ∧ s.slotOffset id = e.offset ∧
      e.offset + channelWidth id ≤ n := by
  have named : id ∈ [17, 18, 19, 20, 21, 22, 23, 24, 25, 26, 27] ↔ 17 ≤ id ∧ id ≤ 27 := by
    simp only [List.mem_cons, List.not_mem_nil, or_false]
    omega
  unfold State.writtenIds State.slotOffset
  split
  next mode => simp [mode]
  next force _ => simp [force]
  next slots force mode =>
    simp only [List.mem_filter, named, force, Option.some.injEq, and_assoc]
    refine and_congr_right fun _ => and_congr_right fun _ => ?_
    rw [and_iff_right (fun e => mode e)]
    cases entry : slots[id]? <;> simp [entry, SlotEntry.within]

/-- Each output channel has as many bytes as its kind is wide (R153, R190). -/
theorem State.outputBytes_length (s : State) {id : Nat} (low : 17 ≤ id) (high : id ≤ 27) :
    (s.outputBytes id).length = channelWidth id := by
  rcases Nat.lt_or_eq_of_le high with below | rfl
  · interval_cases id <;> exact bytesOf_length ..
  · rfl

/-- A written channel's slot lies within the payload, and its bytes fill it. -/
theorem State.written_fits (mem : id ∈ s.writtenIds n) :
    (s.outputBytes id).length = channelWidth id ∧ s.slotOffset id + channelWidth id ≤ n := by
  obtain ⟨low, high, -, slots, e, -, -, -, offset, fits⟩ := State.mem_writtenIds.1 mem
  exact ⟨s.outputBytes_length low high, offset ▸ fits⟩

/-- The values of the eleven output channels in id order (R166, R190). -/
theorem State.outputBytes_all (s : State) : (List.range 11).map (fun k => s.outputBytes (17 + k)) =
    [bytesOf 4 s.ring.output.a.zDemand, bytesOf 1 s.ring.output.a.zMode.code, bytesOf 2 s.ring.output.a.spindle,
      bytesOf 2 s.ring.output.a.yTrim, bytesOf 4 s.ring.output.b.zDemand, bytesOf 1 s.ring.output.b.zMode.code,
      bytesOf 2 s.ring.output.b.spindle, bytesOf 2 s.ring.output.b.yTrim, bytesOf 4 s.ring.output.xSpeed,
      bytesOf 1 s.ring.output.xMode.code, s.statusBytes] := rfl

end

/-! ## Serving leaves the pending output set -/

/-- No request forms an output set. -/
theorem answer_output (k : RequestKind) (s : State) (r : Request) :
    (k.answer s r).state.ring.output = s.ring.output := by
  cases governs : k.governs with
  | false =>
    obtain ⟨-, -, -, -, output⟩ := (answer_beside governs s r).fields
    exact output
  | true =>
    cases k <;> simp only [RequestKind.governs, Bool.false_eq_true] at governs <;> simp only [RequestKind.answer]
    case writeRecord =>
      rcases answerWriteRecord_beside s r with a | ⟨-, slots, e⟩
      · obtain ⟨-, -, -, -, output⟩ := a.fields
        exact output
      · rw [e]
    case passStart =>
      unfold answerPassStart
      repeat' split
      case h_2 =>
        rw [State.done, State.startPass_frame]
      all_goals rfl
    case passHold =>
      unfold answerPassHold
      repeat' split
      case isFalse.isFalse => exact (s.holdOrder_tended (still := True) .request).output
      all_goals rfl
    case passAbort =>
      unfold answerPassAbort
      repeat' split
      case isFalse.isFalse => exact (s.abortPass_tended (still := True)).output
      all_goals rfl
    all_goals
      dsimp only [answerPassResume, answerEnterReady, answerEnterConfig, answerClearFault]
      repeat' split
      all_goals rfl

theorem State.serveCode_output (s : State) (code : BitVec 8) (r : Request) :
    (s.serveCode code r).ring.output = s.ring.output := by
  have checked (k : RequestKind) : (s.checkedAnswer k r).state.ring.output = s.ring.output := by
    unfold State.checkedAnswer
    split
    · exact answer_output k s r
    · rfl
  unfold State.serveCode
  split
  next k _ =>
    refine Eq.trans ?_ (checked k)
    unfold State.serve State.answerRequest
    dsimp only
    split <;> rfl
  next => rfl

theorem State.serveArea_output (s : State) (payload : List Byte) :
    (s.serveArea payload).ring.output = s.ring.output := by
  unfold State.serveArea
  dsimp only
  split
  · exact s.serveCode_output ..
  · rfl

/-! ## The answered area (R171) -/

theorem sealArea_length (area : List Byte) : (sealArea area).length = area.length :=
  overwrite_length ..

theorem replyArea_length (strap : Nat) (code : BitVec 8) (q : Request) (r : Reply) (s : State) :
    (replyArea strap code q r s.statusBytes).length = 64 := by
  have status : s.statusBytes.length = 8 := rfl
  simp only [replyArea, sealArea_length, List.length_append, List.length_cons, List.length_nil, bytesOf_length,
    slice_length, status]

/-- An area is answered in a frame that holds one, over its 64 bytes, or it is sent on (R169, R171). -/
theorem State.serveArea_area (s : State) (payload : List Byte) : (s.serveArea payload).port.area = none ∨
    64 ≤ payload.length ∧ ∃ a, (s.serveArea payload).port.area = some a ∧ a.length = 64 := by
  unfold State.serveArea
  dsimp only
  split
  next served =>
    refine .inr ⟨served.1, ?_⟩
    unfold State.serveCode
    split
    · exact ⟨_, rfl, replyArea_length ..⟩
    · exact ⟨_, rfl, replyArea_length ..⟩
  next => exact .inl rfl

section
variable {s : State} {payload a : List Byte} {i : Nat}

theorem State.payloadOut_passed (sent : s.port.area = none) (payload : List Byte) : s.payloadOut payload = payload := by
  rw [State.payloadOut, sent]

theorem State.payloadOut_answered (answered : s.port.area = some a) (payload : List Byte) :
    s.payloadOut payload = overwrite 0 a payload := by
  rw [State.payloadOut, answered]

theorem State.payloadOut_length (s : State) (payload : List Byte) : (s.payloadOut payload).length = payload.length := by
  unfold State.payloadOut
  split
  · exact overwrite_length ..
  · rfl

/-- Behind an answered area a payload is as it arrived, and where no area is answered all of it is. -/
theorem State.payloadOut_behind (short : ∀ a, s.port.area = some a → a.length = 64)
    (behind : 64 ≤ i ∨ s.port.area = none) : (s.payloadOut payload)[i]? = payload[i]? := by
  cases area : s.port.area with
  | none => rw [State.payloadOut_passed area]
  | some a =>
    have reached : 64 ≤ i := behind.resolve_right (by simp [area])
    rw [State.payloadOut_answered area, overwrite_outside (.inr (by simpa [short a area] using reached))]

theorem State.payloadOut_area (answered : s.port.area = some a) (held : a.length ≤ payload.length)
    (inside : i < a.length) : (s.payloadOut payload)[i]? = a[i]? := by
  have written := overwrite_inside (off := 0) (by simpa using held) inside
  rwa [Nat.zero_add, ← State.payloadOut_answered answered] at written

end

/-! ## The frame as it leaves (R151) -/

/-- The payload as it leaves: the answered area, and the output slots written over it. -/
def State.payloadSent (t : State) (payload : List Byte) : List Byte := t.writeSlots (t.payloadOut payload)

/-- Where the node has written: the area, and the slots of the channels that are written. -/
def State.writtenAt (t : State) (length : Nat) : List Nat :=
  if t.port.area.isSome then 0 :: (t.writtenIds length).map t.slotOffset else (t.writtenIds length).map t.slotOffset

/-- The frame that a ready node sends on, over the state that its area leaves. -/
theorem State.carryFrame_port (s : State) (f : Frame) :
    let t := s.serveArea f.payload
    (s.carryFrame f).port = { t.port with
      passing := some ⟨f.payload, f.checkGood, t.writtenAt f.payload.length⟩
      outgoing := some ⟨t.payloadSent f.payload, checkOut (!(t.writtenAt f.payload.length).isEmpty) f.checkGood⟩ } := rfl

section
variable {t : State} {payload : List Byte}

theorem State.payloadSent_eq (t : State) (payload : List Byte) :
    t.payloadSent payload = t.putSlots (t.writtenIds payload.length) (t.payloadOut payload) := by
  rw [State.payloadSent, State.writeSlots_eq, State.payloadOut_length]

theorem State.payloadSent_length (t : State) (payload : List Byte) :
    (t.payloadSent payload).length = payload.length := by
  rw [State.payloadSent_eq, State.putSlots_length, State.payloadOut_length]

theorem State.payloadSent_outside {i : Nat}
    (outside : ∀ id ∈ t.writtenIds payload.length, i < t.slotOffset id ∨ t.slotOffset id + channelWidth id ≤ i) :
    (t.payloadSent payload)[i]? = (t.payloadOut payload)[i]? := by
  rw [State.payloadSent_eq]
  refine State.putSlots_outside fun id mem => ?_
  rw [(State.written_fits mem).1]
  exact outside id mem

theorem State.payloadSent_slot {id : Nat} (mem : id ∈ t.writtenIds payload.length)
    (apart : ∀ j ∈ t.writtenIds payload.length, j ≠ id →
      t.slotOffset j + channelWidth j ≤ t.slotOffset id ∨ t.slotOffset id + channelWidth id ≤ t.slotOffset j) :
    ((t.payloadSent payload).drop (t.slotOffset id)).take (channelWidth id) = t.outputBytes id := by
  obtain ⟨wide, fits⟩ := State.written_fits mem
  rw [State.payloadSent_eq, ← wide]
  refine State.putSlots_slot mem (by rwa [wide, State.payloadOut_length]) fun j hj other => ?_
  rw [(State.written_fits hj).1, wide]
  exact apart j hj other

theorem State.mem_writtenAt {length start : Nat} : start ∈ t.writtenAt length ↔
    t.port.area ≠ none ∧ start = 0 ∨ ∃ id ∈ t.writtenIds length, start = t.slotOffset id := by
  unfold State.writtenAt
  cases t.port.area <;> simp [eq_comm]

theorem State.writtenAt_nil {length : Nat} :
    t.writtenAt length = [] ↔ t.port.area = none ∧ t.writtenIds length = [] := by
  unfold State.writtenAt
  cases t.port.area <;> simp

theorem checkOut_eq {α : Type} (l : List α) (good : Bool) [Decidable (l = [])] : checkOut (!l.isEmpty) good =
    if l = [] then .unchanged else if good = true then .regenerated else .bad := by
  cases l with
  | nil => exact (if_pos rfl).symm
  | cons x l => exact (if_neg (List.cons_ne_nil x l)).symm

end

end Sys2Proof.Machine

namespace Sys2Proof.OperatingModes

open Sys2Proof.Machine Sys2Proof.Safety

/-- Settles O16: the frame leaves with the area that is answered (`State.payloadOut_area`), the slots of the channels that
are written (`State.payloadSent_slot`), and else as it arrived (`State.payloadSent_outside`, `State.payloadOut_behind`). -/
theorem frameCarriesPendingOutputs : Obligations.FrameCarriesPendingOutputs := by
  refine ⟨rfl, fun w v => ⟨bytesOf_length w v, fun i inside => bytesOf_getElem? w v inside⟩, fun f s =>
    ⟨fun passed => ⟨_, congrArg Host.Outcome.next (if_neg passed), rfl, rfl⟩, fun ready => ?_⟩⟩
  let t := s.serveArea f.payload
  have short (a) (answered : t.port.area = some a) : a.length = 64 ∧ 64 ≤ f.payload.length := by
    rcases s.serveArea_area f.payload with sent | ⟨held, b, written, length⟩
    · cases sent.symm.trans answered
    · cases written.symm.trans answered
      exact ⟨length, held⟩
  have port := s.carryFrame_port f
  refine ⟨s.carryFrame f, _, _, congrArg Host.Outcome.next (if_pos ready), congrArg Port.outgoing port,
    congrArg Port.passing port, t.payloadSent_length f.payload, ?_, fun id => State.mem_writtenIds (s := t),
    fun i behind out => ?_, fun a answered => ?_, fun id mem apart => State.payloadSent_slot (t := t) mem apart,
    fun start => State.mem_writtenAt (t := t), ?_⟩
  · intro set zMode
    have coded (m : ZMode) : bytesOf 1 m.code = zMode m := by cases m <;> rfl
    have all := t.outputBytes_all
    rw [s.serveArea_output, coded, coded] at all
    refine all.trans ?_
    cases s.ring.output.xMode <;> rfl
  · exact (State.payloadSent_outside (t := t) out).trans
      (State.payloadOut_behind (fun a answered => (short a answered).1) behind)
  · obtain ⟨whole, held⟩ := short a answered
    refine ⟨whole, held, fun i inside out => ?_⟩
    exact (State.payloadSent_outside (t := t) out).trans
      (State.payloadOut_area (s := t) answered (whole ▸ held) (whole ▸ inside))
  · refine (checkOut_eq (t.writtenAt f.payload.length) f.checkGood).trans ?_
    exact if_congr State.writtenAt_nil rfl rfl

end Sys2Proof.OperatingModes
end

section
/-! SUPPORT. The counters of the ring port, the fault record and the fault count: what the work of the blocks, a request, a
frame and an expiry do to them. -/

namespace Sys2Proof.Machine

/-- The ring port record, the fault record and the fault count. -/
def State.tallies (s : State) : RingPort × Option FaultRecord × Nat :=
  (s.ring, s.events.fault, s.events.faultCount)

/-- An update beside the ring port record, the fault record and the fault count. -/
def BesideTallies (s t : State) : Prop := t.tallies = s.tallies

section
variable {s t u : State}

theorem BesideTallies.refl (s : State) : BesideTallies s s := rfl

theorem BesideTallies.trans (a : BesideTallies s t) (b : BesideTallies t u) : BesideTallies s u := Eq.trans b a

theorem BesideTallies.modHead (x : HeadId) (f : Head → Head) : BesideTallies s (s.modHead x f) := by
  simp [BesideTallies, State.tallies]

theorem BesideTallies.raise (k : EventKind) (d : Nat) : BesideTallies s (s.raise k d) := by
  simp [BesideTallies, State.tallies]

theorem BesideTallies.refuseFence (x : HeadId) (k : Nat) : BesideTallies s (s.refuseFence x k) :=
  (BesideTallies.modHead x _).trans (.raise ..)

theorem BesideTallies.putGuards (k : Nat) (gs : List GuardRecord) : BesideTallies s (Machine.putGuards k gs s) := by
  induction gs generalizing k s with
  | nil => exact .refl s
  | cons g gs ih =>
    have put : BesideTallies s (s.putGuard k g) := .refl s
    exact put.trans (ih (k + 1))

theorem BesideTallies.onHead (r : Request) {f : HeadId → Answer} (hf : ∀ x, BesideTallies s (f x).state) :
    BesideTallies s (s.onHead r f).state := by
  unfold State.onHead
  split
  · exact hf _
  · exact .refl s

theorem BesideTallies.ofLength (r : Request) (n : Nat) {a : Answer} (ha : BesideTallies s a.state) :
    BesideTallies s (s.ofLength r n a).state := by
  unfold State.ofLength
  split
  · exact ha
  · exact .refl s

theorem BesideTallies.writePoint (x : HeadId) (k : Nat) (p : MapPoint) :
    BesideTallies s (Machine.writePoint s x k p).state := by
  unfold Machine.writePoint
  dsimp only
  split
  · exact .modHead ..
  · exact .refuseFence ..
  · exact .refl s

theorem BesideTallies.writeHeader (x : HeadId) (n : Nat) : BesideTallies s (Machine.writeHeader s x n).state := by
  unfold Machine.writeHeader
  dsimp only
  repeat' split
  case isFalse.isFalse.isFalse.isTrue => exact .refuseFence ..
  case isFalse.isFalse.isFalse.isFalse => exact .modHead ..
  all_goals exact .refl s

theorem BesideTallies.writePage (x : HeadId) (page : Nat) (bs : List Byte) :
    BesideTallies s (Machine.writePage s x page bs).state := by
  unfold Machine.writePage
  dsimp only
  split
  · exact .refl s
  · split
    · exact .refl s
    · split
      · exact .modHead ..
      · exact .modHead ..
      · exact .refl s

/-- WRITE RECORD writes no counter and no fault (R175). -/
theorem BesideTallies.writeRecord (r : Request) : BesideTallies s (answerWriteRecord s r).state := by
  unfold answerWriteRecord
  split
  case h_1 => exact .refl s
  case h_2 => exact .onHead r fun _ => .refl s
  case h_3 =>
    unfold answerWriteMap
    split
    · exact .onHead r fun x => .ofLength r 10 (.writeHeader x _)
    · exact .onHead r fun x => .ofLength r 8 (.writePoint x _ _)
  case h_6 =>
    refine .onHead r fun x => ?_
    split
    · exact .refl s
    · exact .ofLength r _ (.writePage ..)
  all_goals
    refine .ofLength r _ ?_
    dsimp only [writeGuard, writeGantry, writeSlot]
    repeat' split
    all_goals exact .refl s

theorem BesideTallies.appendRecord (x : HeadId) (bs : List Byte) :
    BesideTallies s (Machine.appendRecord s x bs).state := by
  unfold Machine.appendRecord
  dsimp only
  split
  · exact .refl s
  · split
    · exact .refl s
    · split
      · exact .modHead ..
      · exact .refl s

theorem BesideTallies.cancel (x : HeadId) : BesideTallies s (s.cancel x) := by
  unfold State.cancel
  split
  · exact .modHead ..
  · exact .modHead ..

/-- A complete stream closes, and its records reach the queues, the maps and the guard records alone (R180). -/
theorem BesideTallies.completeStream (c : Stream) (records : List (List Byte)) :
    BesideTallies s (Machine.completeStream s c records).state := by
  have closed : BesideTallies s s.closeStream := .refl s
  unfold Machine.completeStream
  dsimp only
  split
  · exact closed
  · refine closed.trans ?_
    split
    · unfold applySegments
      dsimp only
      split
      · exact .refl _
      · split
        · exact .modHead ..
        · exact .refl _
    · unfold applyPoints
      dsimp only
      split
      · exact .modHead ..
      · split
        · exact .refuseFence ..
        · exact .refl _
    · unfold applyGuards
      split
      · exact .refl _
      · split
        · exact .putGuards ..
        · exact .refl _

theorem BesideTallies.streamData (r : Request) : BesideTallies s (answerStreamData s r).state := by
  unfold answerStreamData
  dsimp only
  split
  · exact .refl s
  · split
    · exact .refl s
    · split
      · exact .completeStream ..
      · exact .refl s

end

theorem countUp_le (top n : Nat) : countUp top n ≤ top := by
  rw [countUp_eq_min]
  exact min_le_right ..

/-- A stale count stays in its range (R159). -/
theorem judgeFreshness_count {captured reference : Option Int} {stale : Nat} (h : stale ≤ 65535) :
    (judgeFreshness captured reference stale).2.2 ≤ 65535 := by
  unfold judgeFreshness
  split
  · exact h
  · split
    · exact countUp_le ..
    · exact Nat.zero_le _

/-- An over-range count stays in its range (R160). -/
theorem countOverRange_le {stale : Bool} {force : Option Int} {n : Nat} (h : n ≤ 65535) :
    countOverRange stale force n ≤ 65535 := by
  unfold countOverRange
  split
  · split
    · exact countUp_le ..
    · exact h
  · exact h

end Sys2Proof.Machine

namespace Sys2Proof.Safety

open Sys2Proof.Machine

/-- The fault count of an event unit lies in its range, and its fault record is filled exactly while faults have been
counted (R183, R187). -/
def FaultsCounted (u : EventUnit) : Prop :=
  u.faultCount ≤ 65535 ∧ (u.fault.isSome = true ↔ 1 ≤ u.faultCount)

/-- A fault recorded counts 1 or more and fills the record (R187). -/
theorem eventClosed_faultsCounted : EventClosed FaultsCounted where
  insert := fun _ _ _ _ counted _ => counted
  record := fun u f _ => by
    have counted : 1 ≤ countUp 65535 u.faultCount := by
      rw [countUp_eq_min]
      omega
    exact ⟨countUp_le .., fun _ => counted, fun _ => rfl⟩

/-- The counters of the ring port lie in their ranges, and so does the fault count, with the fault record filled exactly
while faults have been counted (R152, R183, R187). -/
def CountsOk (s : State) : Prop := RingCounts s ∧ FaultsCounted s.events

section
variable {s t : State}

theorem CountsOk.beside (ok : CountsOk s) (a : BesideTallies s t) : CountsOk t := by
  obtain ⟨ring, fault, count⟩ : t.ring = s.ring ∧ t.events.fault = s.events.fault ∧
      t.events.faultCount = s.events.faultCount := by
    simpa only [BesideTallies, State.tallies, Prod.mk.injEq] using a
  rwa [CountsOk, RingCounts, FaultsCounted, ring, fault, count]

/-- The blocks change the output set of the ring port alone, and record faults as R187 says. -/
theorem CountsOk.worked (ok : CountsOk s) (w : Worked s t) : CountsOk t := by
  obtain ⟨ring, faults⟩ := ok
  refine ⟨?_, w.events _ eventClosed_faultsCounted faults⟩
  rw [RingCounts, w.ring]
  exact ring

theorem CountsOk.ofReset {clearA clearB : Int} (ring : t.ring = .initial clearA clearB) (events : t.events = .initial) :
    CountsOk t := by
  rw [CountsOk, RingCounts, FaultsCounted, ring, events]
  simp [RingPort.initial, EventUnit.initial]

/-- ENTER READY clears the sequence references, and CLEAR FAULT empties the fault record with its count (R137, R140); the
requests on a pass are the work of the blocks; and the others leave the counters, the fault record and the fault count as
they are. -/
theorem CountsOk.answer (ok : CountsOk s) (k : RequestKind) (r : Request) : CountsOk (k.answer s r).state := by
  cases k <;> simp only [RequestKind.answer]
  case readRecord => exact (answerReadRecord_state s r).symm ▸ ok
  case writeRecord => exact ok.beside (.writeRecord r)
  case appendSegment => exact ok.beside (.onHead r fun x => .appendRecord x _)
  case cancelPending => exact ok.beside (.onHead r fun x => .cancel x)
  case streamData => exact ok.beside (.streamData r)
  case takeEvent => exact ok
  case passStart =>
    have named (o : PassOrder) : CountsOk { s with pass := o.record } := ok
    unfold answerPassStart
    repeat' split
    case h_2 => exact (named _).worked (s.startPass_worked _)
    all_goals exact ok
  case passHold =>
    unfold answerPassHold
    repeat' split
    case isFalse.isFalse => exact ok.worked (s.holdOrder_worked _)
    all_goals exact ok
  case passAbort =>
    unfold answerPassAbort
    repeat' split
    case isFalse.isFalse => exact ok.worked s.abortPass_worked
    all_goals exact ok
  case clearFault =>
    have cleared : FaultsCounted s.clearFault.events := by simp [FaultsCounted, State.clearFault]
    unfold answerClearFault
    repeat' split
    case isFalse.isFalse => exact ⟨ok.1, cleared⟩
    all_goals exact ok
  all_goals
    dsimp only [answerReadStatus, answerStreamOpen, answerStreamCancel, answerPassResume, answerEnterReady,
      answerEnterConfig, answerSetEventMask, answerResetNode]
    repeat' split
    all_goals exact ok

/-- A frame accepted, numbered modulo 2^32, ends the misses and the coast sets counted (R155). -/
theorem CountsOk.countAccepted (ok : CountsOk s) (now : Nat) (pins : Pins) : CountsOk (s.countAccepted now pins) := by
  obtain ⟨⟨-, -, -, rest⟩, faults⟩ := ok
  exact ⟨⟨Nat.zero_le _, Nat.mod_lt _ (by decide), Nat.zero_le _, rest⟩, faults⟩

/-- The samples of a frame move the stale counts and the over-range counts (R159, R160). -/
theorem CountsOk.takeSamples (ok : CountsOk s) (captured : List (Option Int)) :
    CountsOk { s with ring := s.ring.takeSamples captured } := by
  obtain ⟨⟨miss, set, coast, early, short, bad, staleA, staleB, staleX, overA, overB⟩, faults⟩ := ok
  exact ⟨⟨miss, set, coast, early, short, bad, judgeFreshness_count staleA, judgeFreshness_count staleB,
    judgeFreshness_count staleX, countOverRange_le overA, countOverRange_le overB⟩, faults⟩

/-- An expiry counts a miss and a coast set (R162). -/
theorem CountsOk.countMiss (ok : CountsOk s) (due tc : Nat) (stop : Bool) : CountsOk (s.countMiss due tc stop) := by
  obtain ⟨⟨-, set, -, rest⟩, faults⟩ := ok
  exact ⟨⟨countUp_le .., set, countUp_le .., rest⟩, faults⟩

theorem CountsOk.refuseBad (ok : CountsOk s) : CountsOk s.refuseBad := by
  obtain ⟨⟨miss, set, coast, early, short, -, rest⟩, faults⟩ := ok
  exact ⟨⟨miss, set, coast, early, short, countUp_le .., rest⟩, faults⟩

theorem CountsOk.refuseShort (ok : CountsOk s) : CountsOk s.refuseShort := by
  obtain ⟨⟨miss, set, coast, early, -, rest⟩, faults⟩ := ok
  exact ⟨⟨miss, set, coast, early, countUp_le .., rest⟩, faults⟩

theorem CountsOk.countEarly (ok : CountsOk s) :
    CountsOk { s with ring := { s.ring with early := countUp 65535 s.ring.early } } := by
  obtain ⟨⟨miss, set, coast, -, rest⟩, faults⟩ := ok
  exact ⟨⟨miss, set, coast, countUp_le .., rest⟩, faults⟩

end

/-- Every part of a command keeps the counters and the fault count in their ranges. -/
theorem countsOk_kept : Kept CountsOk where
  worked := fun _ _ w ok => ok.worked w
  power := fun _ _ => id
  port := fun _ _ => id
  pending := fun _ _ => id
  reply := fun _ _ => id
  powerOn := fun _ => .ofReset rfl rfl
  reset := fun _ _ _ _ => .ofReset rfl rfl
  answer := fun k _ r ok => ok.answer k r
  bad := fun _ ok => ok.refuseBad
  short := fun _ ok => ok.refuseShort
  early := fun _ ok => ok.countEarly
  accepted := fun _ now pins ok => ok.countAccepted now pins
  samples := fun _ captured ok => ok.takeSamples captured
  missed := fun _ due tc stop ok => ok.countMiss due tc stop
  lost := fun _ => id
  idle := fun _ _ _ => id
  close := fun _ => id

end Sys2Proof.Safety

namespace Sys2Proof.CycleFrame

open Sys2Proof.Safety

/-- Settles O8: each counter that a frame or an expiry moves stops at its limit (`CountsOk.countAccepted` to
`CountsOk.countEarly`), and a fault is recorded and cleared with its count (`eventClosed_faultsCounted`,
`CountsOk.answer`); every step is made of these (`Kept`). -/
theorem stepKeepsCounterRanges : Obligations.StepKeepsCounterRanges :=
  fun _ _ ring faults e => countsOk_kept.step ⟨ring, faults⟩ e

end Sys2Proof.CycleFrame
end

section
/-! SUPPORT. The tests of a completed frame one by one (R155, R156), and what an accepted frame leaves in the ring port. -/

namespace Sys2Proof.Machine

section
variable {s : State} {f : PassingFrame} {now : Nat} {pins : Pins}

/-- A node without a reset due tests the frame that has passed. -/
theorem State.completeFrame_passing (due : s.service.resetDue = false) (passing : s.port.passing = some f) :
    s.completeFrame now pins = ({ s with port := { s.port with passing := none } } : State).testFrame f now pins := by
  simp only [State.completeFrame, due, Bool.false_eq_true, if_false, passing]

theorem State.testFrame_bad (bad : f.checkGood = false) : s.testFrame f now pins = s.refuseBad := by
  simp [State.testFrame, bad]

theorem State.testFrame_short (good : f.checkGood = true) (short : s.covers f.payload.length = false) :
    s.testFrame f now pins = s.refuseShort := by
  simp [State.testFrame, good, short]

theorem State.testFrame_early (good : f.checkGood = true) (covers : s.covers f.payload.length = true)
    (early : s.ring.isEarly now = true) : s.testFrame f now pins = s.refuseEarly := by
  simp [State.testFrame, good, covers, early]

theorem State.testFrame_accepted (good : f.checkGood = true) (covers : s.covers f.payload.length = true)
    (due : s.ring.isEarly now = false) : s.testFrame f now pins = s.acceptFrame f.payload now pins := by
  simp [State.testFrame, good, covers, due]

theorem State.refuseBad_eq (s : State) :
    s.refuseBad = { s with ring := { s.ring with badCheck := min (s.ring.badCheck + 1) 65535 } } := by
  rw [State.refuseBad, countUp_eq_min]

theorem State.refuseShort_eq (s : State) :
    s.refuseShort = { s with ring := { s.ring with short := min (s.ring.short + 1) 65535 } } := by
  rw [State.refuseShort, countUp_eq_min]

theorem State.refuseEarly_eq (s : State) :
    s.refuseEarly = ({ s with ring := { s.ring with early := min (s.ring.early + 1) 65535 } } : State).raise .ringTiming
      (min (s.ring.early + 1) 65535) := by
  simp [State.refuseEarly, countUp_eq_min, detailNumber_eq_min]

end

end Sys2Proof.Machine

namespace Sys2Proof.CycleFrame

open Sys2Proof.Machine

/-- Settles O21: the first test that fails decides (`State.testFrame_bad` and its fellows), and each refusal counts. -/
theorem refusedFramesCount : Obligations.RefusedFramesCount := by
  intro now pins f s running due passing u
  have tested : exec (.frameCompletion now pins) s = .next (u.testFrame f now pins) := by
    rw [exec_frameCompletion running, State.completeFrame_passing due passing]
  rw [tested]
  refine ⟨fun bad => ?_, fun good short => ?_, fun good covers early => ?_⟩
  · rw [State.testFrame_bad bad, State.refuseBad_eq]
  · rw [State.testFrame_short (s := u) good short, State.refuseShort_eq]
  · rw [State.testFrame_early (s := u) good covers early, State.refuseEarly_eq]

end Sys2Proof.CycleFrame
end

section
/-! SUPPORT. The values of the input channels of an accepted frame: their slots, the freshness of their groups, and what is
handed over (R153, R158 to R160). -/

namespace Sys2Proof.Machine

/-! ## Fields as sums of bytes (R189) -/

theorem slice_succ (off len : Nat) (bs : List Byte) :
    slice off (len + 1) bs = bs.getD off 0 :: slice (off + 1) len bs := by
  unfold slice
  rcases Nat.lt_or_ge off bs.length with inside | out
  · rw [List.drop_eq_getElem_cons inside, List.getD_eq_getElem _ _ inside]
    simp only [List.take_succ_cons, List.cons_append, List.length_cons, Nat.add_sub_add_right]
  · rw [List.drop_eq_nil_of_le out, List.drop_eq_nil_of_le (Nat.le_succ_of_le out), List.getD_eq_default _ _ out]
    simp [List.replicate_succ]

/-- An unsigned field is the sum of its bytes, each with the weight of its place. -/
theorem fieldU_eq_sum (off len : Nat) (bs : List Byte) :
    fieldU off len bs = ((List.range len).map fun i => (bs.getD (off + i) 0).toNat * 256 ^ i).sum := by
  unfold fieldU
  induction len generalizing off with
  | zero => simp [slice, readU]
  | succ len ih =>
    have shifted : ((fun i => (bs.getD (off + i) 0).toNat * 256 ^ i) ∘ Nat.succ) =
        fun i => 256 * ((bs.getD (off + 1 + i) 0).toNat * 256 ^ i) := by
      funext i
      rw [Function.comp_apply, Nat.succ_eq_add_one, pow_succ, show off + (i + 1) = off + 1 + i by omega]
      ring
    rw [slice_succ, readU, ih, List.range_succ_eq_map, List.map_cons, List.sum_cons, List.map_map, shifted,
      List.sum_map_mul_left]
    simp

/-- A signed field is the two's complement of the unsigned one. -/
theorem fieldS_eq (off len : Nat) (bs : List Byte) : fieldS off len bs =
    if 2 ^ (8 * len) ≤ 2 * fieldU off len bs then (fieldU off len bs : Int) - 2 ^ (8 * len) else fieldU off len bs := by
  rw [fieldS, readS, slice_length, fieldU]

/-! ## Captured values -/

/-- The widths of the input channels (R153). -/
theorem channelWidth_input : ∀ id < 17, channelWidth id = [2, 2, 2, 2, 4, 2, 1, 2, 2, 2, 2, 4, 2, 1, 4, 4, 1].getD id 0 := by
  decide

section
variable {slots : List SlotEntry} {e : SlotEntry} {payload : List Byte} {id : Nat}

theorem captureInputs_none (payload : List Byte) (id : Nat) : (captureInputs none payload).getD id none = none :=
  List.getElem?_getD_replicate_default_eq ..

theorem captureInputs_some (input : id < 17) :
    (captureInputs (some slots) payload).getD id none = captureChannel slots payload id := by
  simp [captureInputs, List.getD, input]

theorem captureChannel_disabled (entry : slots[id]? = some e) (off : e.enabled = false) :
    captureChannel slots payload id = none := by
  simp [captureChannel, entry, off]

theorem captureChannel_enabled (entry : slots[id]? = some e) (on : e.enabled = true) :
    captureChannel slots payload id = some (if id ∈ [3, 4, 10, 11, 14, 15] ∧
        2 ^ (8 * channelWidth id) ≤ 2 * fieldU e.offset (channelWidth id) payload then
      (fieldU e.offset (channelWidth id) payload : Int) - 2 ^ (8 * channelWidth id)
      else fieldU e.offset (channelWidth id) payload) := by
  simp only [captureChannel, entry, on, if_true, inputSigned, List.contains_iff_mem, fieldS_eq, ite_and]

end

/-! ## Freshness -/

/-- A group is stale where its sequence value is captured and equals the reference (R159). -/
theorem judgeFreshness_stale (captured reference : Option Int) (n : Nat) :
    (judgeFreshness captured reference n).1 = true ↔ captured ≠ none ∧ captured = reference := by
  unfold judgeFreshness
  cases captured with
  | none => simp
  | some v =>
    dsimp only
    split
    next same => simp [same]
    next other => simpa [eq_comm] using other

/-- A captured sequence value becomes the reference, and the stale count runs on where it was that already (R159). -/
theorem judgeFreshness_captured {captured reference : Option Int} {n : Nat} {v : Int} (taken : captured = some v) :
    (judgeFreshness captured reference n).2.1 = some v ∧
      (judgeFreshness captured reference n).2.2 = if reference = some v then min (n + 1) 65535 else 0 := by
  rw [taken, judgeFreshness]
  split
  · exact ⟨rfl, countUp_eq_min ..⟩
  · exact ⟨rfl, rfl⟩

/-- The sequence value of a channel's group among some captured values (R159). -/
def sequenceOf (captured : List (Option Int)) (id : Nat) : Option Int :=
  if id < 7 then captured.getD 6 none else if id < 14 then captured.getD 13 none else captured.getD 16 none

/-- The reference of a channel's group (R159). -/
def RingPort.referenceOf (r : RingPort) (id : Nat) : Option Int :=
  if id < 7 then r.reference.a else if id < 14 then r.reference.b else r.reference.x

/-- Whether a channel's group is stale on a set with some captured values (R159). -/
def RingPort.staleOn (r : RingPort) (captured : List (Option Int)) (id : Nat) : Bool :=
  staleOf (judgeFreshness (captured.getD 6 none) r.reference.a r.stale.a).1
    (judgeFreshness (captured.getD 13 none) r.reference.b r.stale.b).1
    (judgeFreshness (captured.getD 16 none) r.reference.x r.stale.x).1 id

theorem RingPort.staleOn_iff (r : RingPort) (captured : List (Option Int)) (id : Nat) :
    r.staleOn captured id = true ↔ sequenceOf captured id ≠ none ∧ sequenceOf captured id = r.referenceOf id := by
  unfold RingPort.staleOn staleOf sequenceOf RingPort.referenceOf
  split
  · exact judgeFreshness_stale ..
  · split
    · exact judgeFreshness_stale ..
    · exact judgeFreshness_stale ..

/-! ## Hand-over -/

theorem absentMarker_eq (id : Nat) :
    absentMarker id = if id = 2 ∨ id = 9 then 65535 else if id = 3 ∨ id = 10 then -32768 else 0 := by
  simp [absentMarker, isTemp, isLateral]

/-- A channel of a stale group, or one not captured, hands over its last good value and keeps it (R158, R160). -/
theorem handChannel_stands {id : Nat} {stale : Bool} {captured good : Option Int} (h : captured = none ∨ stale = true) :
    handChannel id stale captured good = (good.getD (absentMarker id), good) := by
  unfold handChannel
  cases captured with
  | none => rfl
  | some v => simp [h.resolve_left (by simp)]

/-- A captured channel of a fresh group hands over its value, a FORCE within its limit; a marker is not kept (R160). -/
theorem handChannel_fresh (id : Nat) (v : Int) (good : Option Int) :
    let handed := if id = 0 ∨ id = 7 then min v 65000 else v
    handChannel id false (some v) good =
      (handed, if (id = 2 ∨ id = 9) ∧ v = 65535 ∨ (id = 3 ∨ id = 10) ∧ v = -32768 then good else some handed) := by
  intro handed
  by_cases force : id = 0 ∨ id = 7
  · have kept : ¬ ((id = 2 ∨ id = 9) ∧ v = 65535 ∨ (id = 3 ∨ id = 10) ∧ v = -32768) := by omega
    simp [handChannel, isForce, handed, force, kept]
  · simp only [handChannel, isForce, isTemp, isLateral, handed, force, Bool.or_eq_true, beq_iff_eq, Bool.false_eq_true,
      if_false]
    by_cases temp : (id = 2 ∨ id = 9) ∧ v = 65535
    · rw [if_pos temp, if_pos (.inl temp)]
    · rw [if_neg temp]
      by_cases lateral : (id = 3 ∨ id = 10) ∧ v = -32768
      · rw [if_pos lateral, if_pos (.inr lateral)]
      · rw [if_neg lateral, if_neg (not_or.2 ⟨temp, lateral⟩)]

/-- A FORCE above 65,000 in a fresh group counts, and nothing else does (R160). -/
theorem countOverRange_counts (stale : Bool) (force : Option Int) (n : Nat) :
    (∀ v, force = some v → 65000 < v → ¬ stale = true → countOverRange stale force n = min (n + 1) 65535) ∧
    ((∀ v, force = some v → v ≤ 65000) ∨ stale = true → countOverRange stale force n = n) := by
  unfold countOverRange
  refine ⟨fun v captured above fresh => ?_, fun within => ?_⟩
  · simp [captured, above, fresh, countUp_eq_min]
  · cases force with
    | none => rfl
    | some v =>
      refine if_neg fun counts => ?_
      obtain ⟨fresh, above⟩ : stale = false ∧ 65000 < v := by simpa using counts
      exact within.elim (fun h => absurd above (not_lt.2 (h v rfl))) (by simp [fresh])

/-- What the ring port holds of a channel behind the samples of a frame (R158 to R160). -/
theorem RingPort.takeSamples_channel (r : RingPort) (captured : List (Option Int)) {id : Nat} (input : id < 17) :
    ((r.takeSamples captured).handed.getD id 0, (r.takeSamples captured).lastGood.getD id none) =
      handChannel id (r.staleOn captured id) (captured.getD id none) (r.lastGood.getD id none) := by
  simp [RingPort.takeSamples, RingPort.staleOn, List.getD, input]

@[simp] theorem State.countIdle_ring (s : State) : s.countIdle.ring = s.ring := by
  rw [s.countIdle_frame.1]

@[simp] theorem State.restoreRing_ring (s : State) (misses : Nat) : (s.restoreRing misses).ring = s.ring :=
  s.raise_ring ..

/-- The work of an accepted set forms its output set, and leaves the rest of the ring port as it is (R155, R166). -/
theorem State.countIdle_sampleSet_ring (s : State) : ∃ o, s.countIdle.sampleSet.ring = { s.ring with output := o } :=
  ⟨_, by rw [(State.sampleSet_worked _).ring, State.countIdle_ring]⟩

/-- An accepted frame leaves the ring port with its counts and samples, and with the output set of the set it runs (R155,
R158, R166). -/
theorem State.acceptFrame_ring (s : State) (payload : List Byte) (now : Nat) (pins : Pins) :
    ∃ o, (s.acceptFrame payload now pins).ring =
      { (s.countAccepted now pins).ring.takeSamples (captureInputs s.inForce payload) with output := o } := by
  unfold State.acceptFrame
  dsimp only
  refine (State.countIdle_sampleSet_ring _).imp fun o worked => worked.trans ?_
  split
  · rw [State.restoreRing_ring]
  · rfl

end Sys2Proof.Machine

namespace Sys2Proof.CycleFrame

open Sys2Proof.Machine

/-- Settles O23: a captured value is the field of its slot (`captureChannel_enabled`, `fieldU_eq_sum`), and each channel is
handed over by the staleness of its group (`RingPort.takeSamples_channel`, `handChannel_stands`, `handChannel_fresh`). -/
theorem staleGroupsHandOverLastGood : Obligations.StaleGroupsHandOverLastGood := by
  intro now pins f s running due passing good covers late captured sequence reference lastGood
  let c := captureInputs s.inForce f.payload
  let u : State := { s with port := { s.port with passing := none } }
  let t := u.acceptFrame f.payload now pins
  have run : exec (.frameCompletion now pins) s = .next t := by
    rw [exec_frameCompletion running, State.completeFrame_passing due passing,
      State.testFrame_accepted (s := u) good covers late]
  obtain ⟨o, ring⟩ : ∃ o, t.ring = { (s.countAccepted now pins).ring.takeSamples c with output := o } :=
    u.acceptFrame_ring ..
  have channel (id : Nat) (input : id < 17) : (t.ring.handed.getD id 0, t.ring.lastGood.getD id none) =
      handChannel id (s.ring.staleOn c id) (captured id) (lastGood id) := by
    rw [ring]
    exact s.ring.takeSamples_channel c input
  have stale (id : Nat) : s.ring.staleOn c id = true ↔ sequence id ≠ none ∧ sequence id = reference id :=
    s.ring.staleOn_iff c id
  have counts (id before : Nat) := countOverRange_counts (s.ring.staleOn c id) (captured id) before
  simp only [stale] at counts
  refine ⟨fun id input => ⟨fun unmapped => ?_, fun slots e inForce entry => ⟨fun off => ?_, fun on => ?_⟩⟩, t, run,
    fun id input => ⟨fun stands => ?_, fun v taken fresh => ?_⟩, ?_, ⟨?_, ?_⟩, fun v taken => ?_, fun v taken => ?_,
    fun v taken => ?_⟩
  · simp only [captured, unmapped, captureInputs_none]
  · simp only [captured, inForce]
    rw [captureInputs_some input, captureChannel_disabled entry off]
  · intro width raw
    have wide : channelWidth id = width := channelWidth_input id input
    simp only [captured, inForce]
    rw [captureInputs_some input, captureChannel_enabled entry on, wide, fieldU_eq_sum]
  · have both := channel id input
    rw [handChannel_stands (stands.imp_right (stale id).2), absentMarker_eq] at both
    obtain ⟨handed, kept⟩ := Prod.mk.inj both
    exact ⟨kept, handed⟩
  · have both := channel id input
    rw [Bool.eq_false_iff.2 (mt (stale id).1 fresh), taken, handChannel_fresh] at both
    obtain ⟨handed, kept⟩ := Prod.mk.inj both
    exact ⟨handed, by rw [handed, kept]⟩
  · rw [ring]
    rfl
  · rw [ring]
    exact counts 0 s.ring.overRangeA
  · rw [ring]
    exact counts 7 s.ring.overRangeB
  all_goals
    rw [ring]
    exact judgeFreshness_captured taken

end Sys2Proof.CycleFrame
end

section
/-! SUPPORT. What the requests beside the streams leave of the service unit, and that every step keeps the stream context
and the staging buffer in agreement (O7). -/

namespace Sys2Proof.Machine

open Sys2Proof.Safety

/-! ## What a WRITE RECORD can leave -/

@[simp] theorem State.done_state (s : State) (d : ReplyData) : (s.done d).state = s := rfl

section
variable {P : State → Prop} {s : State}

theorem writePoint_leaves (stands : P s) (map : ∀ x f, P (s.modMap x f)) (fence : ∀ x k, P (s.refuseFence x k))
    (x : HeadId) (k : Nat) (p : MapPoint) : P (writePoint s x k p).state := by
  unfold writePoint
  dsimp only
  split
  · rw [State.done_state]
    exact map ..
  · exact fence ..
  · exact stands

theorem writeHeader_leaves (stands : P s) (map : ∀ x f, P (s.modMap x f)) (fence : ∀ x k, P (s.refuseFence x k))
    (x : HeadId) (n : Nat) : P (writeHeader s x n).state := by
  unfold writeHeader
  dsimp only
  split
  · exact stands
  · split
    · exact stands
    · split
      · exact stands
      · split
        · exact fence ..
        · rw [State.done_state]
          exact map ..

theorem writePage_leaves (stands : P s) (head : ∀ x f, P (s.modHead x f)) (x : HeadId) (page : Nat)
    (bs : List Byte) : P (writePage s x page bs).state := by
  unfold writePage
  dsimp only
  split
  · exact stands
  · split
    · exact stands
    · split
      · rw [State.done_state]
        exact head ..
      · rw [State.done_state]
        exact head ..
      · exact stands

theorem State.onHead_leaves (stands : P s) (r : Request) {f : HeadId → Answer} (hf : ∀ x, P (f x).state) :
    P (s.onHead r f).state := by
  unfold State.onHead
  split
  · exact hf _
  · exact stands

theorem State.ofLength_leaves (stands : P s) (r : Request) (n : Nat) {a : Answer} (ha : P a.state) :
    P (s.ofLength r n a).state := by
  unfold State.ofLength
  split
  · exact ha
  · exact stands

/-- A WRITE RECORD leaves the state as it stands, or with a head's map or profile, a guard record, the gantry profile or the
slot map written, or with a refusal of the fence counted (R175). -/
theorem answerWriteRecord_leaves (stands : P s) (head : ∀ x f, P (s.modHead x f))
    (fence : ∀ x k, P (s.refuseFence x k)) (guard : ∀ i g, P (s.putGuard i g)) (gantry : ∀ g, P (s.putGantry g))
    (slots : ∀ l, P { s with slotMap := l }) (r : Request) : P (answerWriteRecord s r).state := by
  have map (x : HeadId) (f : CompMap → CompMap) : P (s.modMap x f) := head ..
  unfold answerWriteRecord
  split
  case h_1 => exact stands
  case h_2 => exact State.onHead_leaves stands r fun _ => stands
  case h_3 =>
    unfold answerWriteMap
    split
    · refine State.onHead_leaves stands r fun x => State.ofLength_leaves stands r 10 ?_
      exact writeHeader_leaves stands map fence x _
    · refine State.onHead_leaves stands r fun x => State.ofLength_leaves stands r 8 ?_
      exact writePoint_leaves stands map fence x _ _
  case h_4 =>
    refine State.ofLength_leaves stands r 16 ?_
    unfold writeGuard
    split
    · exact stands
    · split
      · exact stands
      · split
        · exact guard ..
        · exact stands
  case h_5 =>
    refine State.ofLength_leaves stands r 42 ?_
    unfold writeGantry
    split
    · exact stands
    · split
      · exact stands
      · split
        · exact stands
        · exact gantry _
  case h_6 =>
    refine State.onHead_leaves stands r fun x => ?_
    split
    · exact stands
    · exact State.ofLength_leaves stands r _ (writePage_leaves stands head x _ _)
  case h_7 =>
    refine State.ofLength_leaves stands r 3 ?_
    unfold writeSlot
    split
    · exact stands
    · split
      · exact stands
      · split
        · exact slots _
        · exact stands

end

/-! ## What leaves the service unit -/

@[simp] theorem State.refuseFence_service (s : State) (x : HeadId) (k : Nat) :
    (s.refuseFence x k).service = s.service := by
  simp [State.refuseFence]

@[simp] theorem putGuards_service (k : Nat) (gs : List GuardRecord) (s : State) :
    (putGuards k gs s).service = s.service := by
  induction gs generalizing k s with
  | nil => rfl
  | cons g gs ih => exact ih (k + 1) (s.putGuard k g)

theorem answerWriteRecord_service (s : State) (r : Request) : (answerWriteRecord s r).state.service = s.service :=
  answerWriteRecord_leaves (P := fun t => t.service = s.service) rfl (s.modHead_service · ·) (s.refuseFence_service · ·)
    (fun _ _ => rfl) (fun _ => rfl) (fun _ => rfl) r

theorem answerAppend_service (s : State) (r : Request) : (answerAppend s r).state.service = s.service := by
  refine State.onHead_leaves (P := fun t => t.service = s.service) rfl r fun x => ?_
  unfold appendRecord
  dsimp only
  split
  · rfl
  · split
    · rfl
    · split
      · exact s.modSeq_service ..
      · rfl

theorem answerCancel_service (s : State) (r : Request) : (answerCancel s r).state.service = s.service := by
  refine State.onHead_leaves (P := fun t => t.service = s.service) rfl r fun x => ?_
  show (s.cancel x).service = s.service
  unfold State.cancel
  split
  · exact s.modSeq_service ..
  · exact s.modSeq_service ..

/-- A complete stream leaves the service unit with the stream closed, whatever becomes of its records (R180). -/
theorem completeStream_service (s : State) (c : Stream) (records : List (List Byte)) :
    (completeStream s c records).state.service = s.closeStream.service := by
  unfold completeStream
  dsimp only
  split
  · rfl
  · split
    · unfold applySegments
      dsimp only
      split
      · rfl
      · split
        · exact State.modSeq_service ..
        · rfl
    · unfold applyPoints
      dsimp only
      split
      · exact State.modMap_service ..
      · split
        · exact State.refuseFence_service ..
        · rfl
    · unfold applyGuards
      split
      · rfl
      · split
        · exact putGuards_service ..
        · rfl

end Sys2Proof.Machine

namespace Sys2Proof.Safety

open Sys2Proof.Machine

section
variable {s t : State}

/-! ## The stream context and the staging buffer -/

theorem StreamOk.ofClosed (closed : s.service.stream = none) (empty : s.service.staging = []) : StreamOk s := by
  rw [StreamOk, closed]
  exact empty

theorem streamOk_open {c : Stream} (opened : s.service.stream = some c) : StreamOk s ↔
    1 ≤ c.remaining ∧ c.count ≤ 64 ∧ s.service.staging.length + c.remaining = c.count := by
  rw [StreamOk, opened]

theorem StreamOk.same (ok : StreamOk s) (e : t.service = s.service) : StreamOk t := by
  rwa [StreamOk, e]

/-- The blocks change the mode of the service unit alone. -/
theorem StreamOk.worked (ok : StreamOk s) (w : Worked s t) : StreamOk t := by
  rw [StreamOk, w.service]
  exact ok

/-- The idle timer of an open stream is no part of the agreement. -/
theorem StreamOk.idle {c : Stream} (ok : StreamOk s) (opened : s.service.stream = some c) (n : Nat) :
    StreamOk { s with service := { s.service with stream := some { c with idle := n } } } :=
  (streamOk_open opened).1 ok

theorem streamRecordsOf_length (r : Request) (n : Nat) : (streamRecordsOf r n).length = n := by
  simp [streamRecordsOf]

/-- A stream is opened for 1 to 64 records, all of them to come (R178). -/
theorem StreamOk.streamOpen (ok : StreamOk s) (r : Request) : StreamOk (answerStreamOpen s r).state := by
  unfold answerStreamOpen
  dsimp only
  split
  · exact ok
  · split
    · exact ok
    · split
      · exact ok
      next admitted =>
        simp only [Bool.or_eq_true, Bool.not_eq_true', not_or, Bool.not_eq_false, within_iff] at admitted
        obtain ⟨-, low, high⟩ := admitted
        have most : fieldU 4 2 r.payload ≤ 64 := by omega
        exact ⟨show 1 ≤ fieldU 4 2 r.payload by omega, most, Nat.zero_add _⟩

/-- A STREAM DATA moves records from those to come to those staged, and closes the stream with the last of them (R179,
R180). -/
theorem StreamOk.streamData (ok : StreamOk s) (r : Request) : StreamOk (answerStreamData s r).state := by
  unfold answerStreamData
  dsimp only
  split
  · exact ok
  next c opened =>
    obtain ⟨-, most, sum⟩ := (streamOk_open opened).1 ok
    split
    · exact ok
    next enough =>
      split
      · rw [StreamOk, completeStream_service]
        rfl
      next more =>
        have staged : (s.service.staging ++ streamRecordsOf r (r.length.toNat / 16)).length + (c.remaining -
            r.length.toNat / 16) = c.count := by
          rw [List.length_append, streamRecordsOf_length]
          omega
        exact ⟨show 1 ≤ c.remaining - r.length.toNat / 16 by omega, most, staged⟩

theorem StreamOk.streamCancel (ok : StreamOk s) (r : Request) : StreamOk (answerStreamCancel s r).state := by
  unfold answerStreamCancel
  split
  · exact .ofClosed rfl rfl
  · exact ok

/-- The three requests on a stream keep the agreement by what they stage; the requests on a pass are the work of the
blocks; and the others leave the context and the buffer as they are. -/
theorem StreamOk.answer (ok : StreamOk s) (k : RequestKind) (r : Request) : StreamOk (k.answer s r).state := by
  cases k <;> simp only [RequestKind.answer]
  case readRecord => exact (answerReadRecord_state s r).symm ▸ ok
  case writeRecord => exact ok.same (answerWriteRecord_service s r)
  case appendSegment => exact ok.same (answerAppend_service s r)
  case cancelPending => exact ok.same (answerCancel_service s r)
  case streamOpen => exact ok.streamOpen r
  case streamData => exact ok.streamData r
  case streamCancel => exact ok.streamCancel r
  case takeEvent => exact ok
  case passStart =>
    have named (o : PassOrder) : StreamOk { s with pass := o.record } := ok
    unfold answerPassStart
    repeat' split
    case h_2 => exact (named _).worked (s.startPass_worked _)
    all_goals exact ok
  case passHold =>
    unfold answerPassHold
    repeat' split
    case isFalse.isFalse => exact ok.worked (s.holdOrder_worked _)
    all_goals exact ok
  case passAbort =>
    unfold answerPassAbort
    repeat' split
    case isFalse.isFalse => exact ok.worked s.abortPass_worked
    all_goals exact ok
  all_goals
    dsimp only [answerReadStatus, answerPassResume, answerEnterReady, answerEnterConfig, answerClearFault,
      answerSetEventMask, answerResetNode]
    repeat' split
    all_goals exact ok

end

/-- Every part of a command keeps the stream context and the staging buffer in agreement. -/
theorem streamOk_kept : Kept StreamOk where
  worked := fun _ _ w ok => ok.worked w
  power := fun _ _ => id
  port := fun _ _ => id
  pending := fun _ _ => id
  reply := fun _ _ => id
  powerOn := fun _ => .ofClosed rfl rfl
  reset := fun _ _ _ _ => .ofClosed rfl rfl
  answer := fun k _ r ok => ok.answer k r
  bad := fun _ => id
  short := fun _ => id
  early := fun _ => id
  accepted := fun _ _ _ => id
  samples := fun _ _ => id
  missed := fun _ _ _ _ => id
  lost := fun _ => id
  idle := fun _ _ opened ok => ok.idle opened _
  close := fun _ _ => .ofClosed rfl rfl

end Sys2Proof.Safety

namespace Sys2Proof.ServiceRequests

open Sys2Proof.Safety

/-- Settles O7: a stream opens with all its records to come (`StreamOk.streamOpen`), STREAM DATA moves them to the staging
buffer (`StreamOk.streamData`), and every other part of a command leaves both or closes the stream (`streamOk_kept`). -/
theorem stepKeepsStreamContext : Obligations.StepKeepsStreamContext :=
  fun _ _ ok e => streamOk_kept.step ok e

end Sys2Proof.ServiceRequests
end
section
/-! SUPPORT. STREAM OPEN and STREAM CANCEL by what they answer, and a stream that expires (O33). -/

namespace Sys2Proof.Machine

open Sys2Proof.Safety

/-- The table that a code names for a stream (R178). -/
theorem streamTableOfCode_iff {n : Nat} {t : StreamTable} : streamTableOfCode n = some t ↔ t.code = n := by
  constructor
  · intro named
    unfold streamTableOfCode at named
    split at named <;> cases named <;> rfl
  · rintro rfl
    cases t <;> rfl

theorem streamTable_known {n : Nat} (known : n ≤ 2) : ∃ t : StreamTable, t.code = n := by
  obtain rfl | rfl | rfl : n = 0 ∨ n = 1 ∨ n = 2 := by omega
  · exact ⟨.segment, rfl⟩
  · exact ⟨.map, rfl⟩
  · exact ⟨.guard, rfl⟩

theorem streamTableOfCode_unknown {n : Nat} (out : 2 < n) : streamTableOfCode n = none := by
  refine Option.eq_none_iff_forall_ne_some.2 fun t named => ?_
  have code := streamTableOfCode_iff.1 named
  cases t <;> simp only [StreamTable.code] at code <;> omega

/-- A head selector within its range names the head of its code (R190). -/
theorem headOfCode_known {n : Nat} (known : n ≤ 1) : ∃ h : HeadId, headOfCode n = some h ∧ h.code = n := by
  obtain rfl | rfl : n = 0 ∨ n = 1 := by omega
  · exact ⟨.a, rfl, rfl⟩
  · exact ⟨.b, rfl, rfl⟩

/-- The head and the count that a STREAM OPEN may name beside a table: any head for the guard table, which has none (R178,
R179). -/
def StreamTable.Admits (table : StreamTable) (bs : List Byte) : Prop :=
  (table = .guard ∨ fieldU 1 1 bs ≤ 1) ∧ 1 ≤ fieldU 4 2 bs ∧ fieldU 4 2 bs ≤ 64

/-- The context that a STREAM OPEN fills (R178). -/
def StreamTable.opened (table : StreamTable) (bs : List Byte) : Stream where
  table := table
  head := (headOfCode (fieldU 1 1 bs)).getD .a
  first := fieldU 2 2 bs
  count := fieldU 4 2 bs
  remaining := fieldU 4 2 bs
  expected := BitVec.ofNat 16 (fieldU 6 2 bs)
  idle := 0

section
variable {s : State} {r : Request} {table : StreamTable}

theorem answerStreamOpen_busy {c : Stream} (opened : s.service.stream = some c) :
    answerStreamOpen s r = s.refuse .busy := by
  simp only [answerStreamOpen, opened]

theorem answerStreamOpen_unknown (closed : s.service.stream = none) (out : 2 < fieldU 0 1 r.payload) :
    answerStreamOpen s r = s.refuse .value := by
  simp only [answerStreamOpen, closed, streamTableOfCode_unknown out]

/-- STREAM OPEN on a table that its selector names, without a stream open (R178). -/
theorem answerStreamOpen_named (closed : s.service.stream = none) (named : table.code = fieldU 0 1 r.payload) :
    (table.Admits r.payload → answerStreamOpen s r = ({ s with service := { s.service with
      stream := some (table.opened r.payload), staging := [] } } : State).done .empty) ∧
    (¬ table.Admits r.payload → answerStreamOpen s r = s.refuse .value) := by
  have head : (headOfCode (fieldU 1 1 r.payload)).isNone = true ↔ ¬ fieldU 1 1 r.payload ≤ 1 := by
    refine ⟨fun none known => ?_, fun out => by rw [headOfCode_unknown (not_le.1 out)]; rfl⟩
    obtain ⟨h, some, -⟩ := headOfCode_known known
    rw [some] at none
    cases none
  have refused : ((decide (table ≠ .guard) && (headOfCode (fieldU 1 1 r.payload)).isNone) ||
      !within 1 64 (fieldU 4 2 r.payload)) = true ↔ ¬ table.Admits r.payload := by
    simp only [Bool.or_eq_true, Bool.and_eq_true, decide_eq_true_eq, head, Bool.not_eq_true', ← Bool.not_eq_true,
      within_iff, StreamTable.Admits, not_and_or, not_or]
    refine or_congr_right ?_
    omega
  simp only [answerStreamOpen, closed, streamTableOfCode_iff.2 named]
  exact ⟨fun admits => if_neg (mt refused.1 (not_not.2 admits)), fun out => if_pos (refused.2 out)⟩

theorem answerStreamCancel_open {c : Stream} (opened : s.service.stream = some c) :
    answerStreamCancel s r = s.closeStream.done (.items [1, (c.remaining : Int)]) := by
  simp only [answerStreamCancel, opened]

theorem answerStreamCancel_closed (closed : s.service.stream = none) :
    answerStreamCancel s r = s.done (.number 0) := by
  simp only [answerStreamCancel, closed]

end

section
variable {s : State} {c : Stream}

theorem State.expireStream_due (opened : s.service.stream = some c) (due : s.gantry.streamTimeout ≤ c.idle) :
    s.expireStream = s.closeStream.raise .streamExpired (packDetail c.table.code c.remaining) := by
  simp only [State.expireStream, State.streamDue, opened, if_pos due]

theorem State.expireStream_below (opened : s.service.stream = some c) (below : c.idle < s.gantry.streamTimeout) :
    s.expireStream = s := by
  simp only [State.expireStream, State.streamDue, opened, if_neg (not_le.2 below)]

theorem exec_streamExpired (running : s.power = .running) : exec .streamExpired s = .next s.expireStream :=
  congrArg Host.Outcome.next (State.ifRunning_of running _)

end

end Sys2Proof.Machine

namespace Sys2Proof.ServiceRequests

open Sys2Proof.Machine Sys2Proof.Safety

/-- Settles O33: STREAM OPEN by the table its selector names (`answerStreamOpen_named`), the expiry by the idle timer
(`State.expireStream_due`, `State.expireStream_below`), and STREAM CANCEL by whether a stream is open. -/
theorem streamsOpenExpireAndCancel : Obligations.StreamsOpenExpireAndCancel := by
  refine ⟨fun r s serving length => ?_, fun c s running opened => ⟨fun due => ?_, fun below => ?_⟩,
    fun r s serving length => ?_⟩
  · intro table head count admitted answers
    have answer ⦃t c⦄ (ha : answerStreamOpen s r = ⟨t, c, .empty⟩) : answers t c :=
      exec_answered rfl serving (by rw [length]; rfl) rfl ha
    have admits (t : StreamTable) (named : t.code = table) : t.Admits r.payload ↔ admitted := by
      have guard : t = .guard ↔ table = 2 := by rw [← named]; cases t <;> decide
      have known : table ≤ 2 := by rw [← named]; cases t <;> decide
      simp only [StreamTable.Admits, guard, admitted]
      omega
    refine ⟨fun opened => ?_, fun closed out => ?_, fun closed known => ?_⟩
    · obtain ⟨c, opened⟩ := Option.ne_none_iff_exists'.1 opened
      exact answer (answerStreamOpen_busy opened)
    · rcases Nat.lt_or_ge 2 table with unknown | known
      · exact answer (answerStreamOpen_unknown closed unknown)
      · obtain ⟨t, code⟩ := streamTable_known known
        exact answer ((answerStreamOpen_named closed code).2 (mt (admits t code).1 out))
    · obtain ⟨t, code⟩ : ∃ t : StreamTable, t.code = table := streamTable_known (by omega)
      refine ⟨t.opened r.payload, answer ((answerStreamOpen_named closed code).1 ((admits t code).2 known)), code,
        fun headed => ?_, rfl, rfl, rfl, ?_, rfl⟩
      · have selected : head ≤ 1 := by omega
        obtain ⟨h, some, coded⟩ := headOfCode_known selected
        rw [StreamTable.opened, some]
        exact coded
      · exact (BitVec.toNat_ofNat ..).trans (Nat.mod_eq_of_lt (fieldU_two_lt 6 r.payload))
  · rw [exec_streamExpired running, State.expireStream_due opened due, State.closeStream_of opened]
  · rw [exec_streamExpired running, State.expireStream_below opened below]
  · have answer ⦃t d⦄ (ha : answerStreamCancel s r = ⟨t, .done, d⟩) :
        exec (.streamCancel r) s = .next (replied t .streamCancel r .done d) :=
      exec_answered rfl serving (by rw [length]; rfl) rfl ha
    cases opened : s.service.stream with
    | none => exact answer (answerStreamCancel_closed opened)
    | some c =>
      have closes := answer (answerStreamCancel_open opened)
      rwa [State.closeStream_of opened] at closes

end Sys2Proof.ServiceRequests
end
section
/-! SUPPORT. An area in a frame as the command of its request (O17). -/

namespace Sys2Proof.Machine

open Sys2Proof.Safety

/-- The code of a request names it (R191). -/
theorem RequestKind.ofCode_code (k : RequestKind) : RequestKind.ofCode k.code = some k := by
  cases k <;> rfl

/-- A code that names none of the eighteen requests (R170, R191). -/
theorem RequestKind.ofCode_unknown {code : BitVec 8} (unknown : unknownCode code = true) :
    RequestKind.ofCode code.toNat = none := by
  refine List.find?_eq_none.2 fun k _ named => ?_
  have code : k.code = code.toNat := beq_iff_eq.1 named
  simp only [unknownCode, ← code] at unknown
  cases k <;> cases unknown

theorem exec_unknownRequest {s : State} (serving : s.serving = true) (code : BitVec 8) (r : Request) :
    exec (.unknownRequest code r) s = .next (s.serveUnknown code r) :=
  congrArg Host.Outcome.next (if_pos serving)

theorem exec_cycleFrame {s : State} (running : s.power = .running) (f : Frame) :
    exec (.cycleFrame f) s = .next (s.carryFrame f) :=
  congrArg Host.Outcome.next (if_pos running)

section
variable {s : State} {payload : List Byte}

/-- An addressed area is served by its code (R169, R170). -/
theorem State.serveArea_served (held : 64 ≤ payload.length) (serving : s.serving = true)
    (strap : fieldU 0 1 (payload.take 64) = s.lines.strap.toNat) (sealed : xorHalves (payload.take 64) = 0) :
    s.serveArea payload =
      s.serveCode (BitVec.ofNat 8 (fieldU 1 1 (payload.take 64))) (readArea (payload.take 64)) := by
  have addressed : s.addressed (payload.take 64) = true := by simp [State.addressed, strap, sealed]
  exact if_pos ⟨held, serving, addressed⟩

/-- An area that is not addressed to the node, or that it does not serve, is sent on (R169). -/
theorem State.serveArea_passed (passed : s.serving = false ∨ payload.length < 64 ∨
    fieldU 0 1 (payload.take 64) ≠ s.lines.strap.toNat ∨ xorHalves (payload.take 64) ≠ 0) :
    s.serveArea payload = s.passArea := by
  refine if_neg fun ⟨held, serving, addressed⟩ => ?_
  obtain ⟨strap, sealed⟩ : fieldU 0 1 (payload.take 64) = s.lines.strap.toNat ∧ xorHalves (payload.take 64) = 0 := by
    simpa [State.addressed] using addressed
  rcases passed with idle | short | other | broken
  · simp [idle] at serving
  · omega
  · exact other strap
  · exact broken sealed

end

end Sys2Proof.Machine

namespace Sys2Proof.ServiceRequests

open Sys2Proof.Machine Sys2Proof.Safety

/-- Settles O17: an addressed area is served by its code (`State.serveArea_served`), as the command of that code's request
is, and another one is sent on (`State.serveArea_passed`); the rest of a frame's passage changes the frame alone
(`State.carryFrame_eq`). -/
theorem frameServesItsArea : Obligations.FrameServesItsArea := by
  refine fun f s running => ⟨fun c held serving strap sealed coded => ?_, fun passed => ?_⟩
  · obtain ⟨u, served, runs⟩ : ∃ u, s.serveArea f.payload = u ∧ exec c s = .next u := by
      refine ⟨_, State.serveArea_served held serving strap sealed, ?_⟩
      rcases coded with ⟨k, code, asks⟩ | ⟨code, unknown, named, rfl⟩
      · have byte : (BitVec.ofNat 8 k.code).toNat = k.code := by cases k <;> rfl
        rw [code, State.serveCode, byte, RequestKind.ofCode_code, exec_asked asks, State.request, if_pos serving]
      · rw [named, BitVec.ofNat_toNat, BitVec.setWidth_eq, State.serveCode, RequestKind.ofCode_unknown unknown,
          exec_unknownRequest serving]
    refine ⟨s.carryFrame f, u, exec_cycleFrame running f, runs, ?_⟩
    rw [← served]
    exact s.carryFrame_eq f
  · have sent := State.serveArea_passed passed
    have frame := s.carryFrame_eq f
    rw [sent] at frame
    refine ⟨s.carryFrame f, exec_cycleFrame running f, ?_, ?_, ?_⟩ <;> rw [frame] <;> rfl

end Sys2Proof.ServiceRequests
end

section
/-! SUPPORT. The area of a reply: its seal and its fields (O19). -/

namespace Sys2Proof.Machine

open Sys2Proof.Safety

/-! ## The exclusive-or of an area -/

/-- The exclusive-or of two parts, where the first part holds whole half-words. -/
theorem xorHalves_append (back : List Byte) : ∀ {front : List Byte}, front.length % 2 = 0 →
    xorHalves (front ++ back) = xorHalves front ^^^ xorHalves back
  | [], _ => (BitVec.zero_xor).symm
  | [_], odd => by simp at odd
  | lo :: hi :: rest, even => by
    have even' : rest.length % 2 = 0 := by simpa [Nat.add_assoc] using even
    simp only [List.cons_append, xorHalves, xorHalves_append back even', BitVec.xor_assoc]

/-- The bytes of a check, least significant byte first. -/
def checkBytes (c : BitVec 16) : List Byte := [c.setWidth 8, (c >>> 8).setWidth 8]

theorem xorHalves_checkBytes (c : BitVec 16) : xorHalves (checkBytes c) = c := by
  have whole : ((c >>> 8).setWidth 8 ++ c.setWidth 8 : BitVec 16) = c := by
    refine BitVec.eq_of_getLsbD_eq fun i inside => ?_
    rw [BitVec.getLsbD_append]
    by_cases low : i < 8
    · simp [low]
    · have place : 8 + (i - 8) = i := by omega
      have above : i - 8 < 8 := by omega
      simp [low, place, above]
  simp only [checkBytes, xorHalves, whole]
  exact BitVec.xor_zero

section
variable {front back : List Byte}

/-- The check written over its place, which held 0 (R169, R171). -/
theorem sealArea_eq (ten : front.length = 10) : sealArea (front ++ [0, 0] ++ back) =
    front ++ checkBytes (xorHalves (front ++ [0, 0] ++ back)) ++ back := by
  have behind : (front ++ [0, 0] ++ back).drop 12 = back := List.drop_left' (by simp [ten])
  have before : (front ++ [0, 0] ++ back).take 10 = front := by rw [List.append_assoc, List.take_left' ten]
  have room : (checkBytes (xorHalves (front ++ [0, 0] ++ back))).take ((front ++ [0, 0] ++ back).length - 10) =
      checkBytes (xorHalves (front ++ [0, 0] ++ back)) := List.take_of_length_le (by simp [checkBytes, ten])
  show (front ++ [0, 0] ++ back).take 10 ++ (checkBytes _).take _ ++ (front ++ [0, 0] ++ back).drop 12 = _
  rw [before, room, behind]

/-- A sealed area has the exclusive-or 0 (R171). -/
theorem xorHalves_sealArea (ten : front.length = 10) : xorHalves (sealArea (front ++ [0, 0] ++ back)) = 0 := by
  have even : front.length % 2 = 0 := by rw [ten]
  have zeros : xorHalves (front ++ [0, 0] ++ back) = xorHalves front ^^^ xorHalves back := by
    rw [List.append_assoc, xorHalves_append _ even, xorHalves_append (front := [0, 0]) back rfl]
    exact congrArg _ BitVec.zero_xor
  have check : (checkBytes (xorHalves front ^^^ xorHalves back)).length % 2 = 0 := by simp [checkBytes]
  rw [sealArea_eq ten, zeros, List.append_assoc, xorHalves_append _ even, xorHalves_append back check,
    xorHalves_checkBytes, BitVec.xor_assoc, BitVec.xor_self, BitVec.xor_zero, BitVec.xor_self]
  rfl

end

/-! ## The fields of a reply's area (R191) -/

theorem Reply.dataBytes_length (r : Reply) : r.dataBytes.length ≤ 44 := List.length_take_le ..

/-- The data of a reply padded with zeros (R171). -/
theorem slice_padded {bs : List Byte} {n : Nat} (fits : bs.length ≤ n) :
    slice 0 n bs = bs ++ List.replicate (n - bs.length) 0 := by
  simp only [slice, List.drop_zero, List.take_of_length_le fits]

/-- The header of a reply's area before the check (R191). -/
def replyHeader (strap : Nat) (code : BitVec 8) (q : Request) (r : Reply) : List Byte :=
  BitVec.ofNat 8 (128 + strap) :: code :: (bytesOf 2 q.tag.toNat ++
    BitVec.ofNat 8 r.code.code :: BitVec.ofNat 8 r.dataBytes.length :: q.table :: q.head :: bytesOf 2 q.index.toNat)

theorem replyHeader_length (strap : Nat) (code : BitVec 8) (q : Request) (r : Reply) :
    (replyHeader strap code q r).length = 10 := by
  simp [replyHeader, bytesOf_length]

/-- A reply's area is its header, the check, the padded data and the status echo (R171, R191). -/
theorem replyArea_eq (strap : Nat) (code : BitVec 8) (q : Request) (r : Reply) (status : List Byte) :
    replyArea strap code q r status =
      sealArea (replyHeader strap code q r ++ [0, 0] ++ (slice 0 44 r.dataBytes ++ status)) := by
  simp [replyArea, replyHeader]

/-- What the area of a reply shows (R169, R171, R191). -/
structure ShowsReply (strap : BitVec 6) (code : BitVec 8) (q : Request) (r : Reply) (status a : List Byte) : Prop where
  sealed : xorHalves a = 0
  node : fieldU 0 1 a = 128 + strap.toNat
  request : fieldU 1 1 a = code.toNat
  tag : fieldU 2 2 a = q.tag.toNat
  reply : fieldU 4 1 a = r.code.code
  length : fieldU 5 1 a = r.dataBytes.length
  table : fieldU 6 1 a = q.table.toNat
  head : fieldU 7 1 a = q.head.toNat
  index : fieldU 8 2 a = q.index.toNat
  data : (a.drop 12).take 44 = r.dataBytes ++ List.replicate (44 - r.dataBytes.length) 0
  echo : a.drop 56 = status

theorem replyArea_shows (strap : BitVec 6) (code : BitVec 8) (q : Request) (r : Reply) (status : List Byte) :
    ShowsReply strap code q r status (replyArea strap.toNat code q r status) := by
  let header := replyHeader strap.toNat code q r
  let data := slice 0 44 r.dataBytes
  have ten : header.length = 10 := replyHeader_length ..
  let check := checkBytes (xorHalves (header ++ [0, 0] ++ (data ++ status)))
  have area : replyArea strap.toNat code q r status = header ++ check ++ (data ++ status) := by
    rw [replyArea_eq, sealArea_eq ten]
  have sealed : xorHalves (replyArea strap.toNat code q r status) = 0 := by
    rw [replyArea_eq, xorHalves_sealArea ten]
  have whole : data.length = 44 := slice_length ..
  have twelve : (header ++ check).length = 12 := by simp [ten, check, checkBytes]
  have word (v : BitVec 16) : readU (bytesOf 2 v.toNat) = v.toNat := readU_bytesOf_nat v.isLt
  have node : (128 + strap.toNat) % 256 = 128 + strap.toNat := by omega
  have named : r.code.code % 256 = r.code.code := by cases r.code <;> rfl
  have count : r.dataBytes.length % 256 = r.dataBytes.length := by
    have short := r.dataBytes_length
    omega
  refine ⟨sealed, ?_, ?_, ?_, ?_, ?_, ?_, ?_, ?_, ?_, ?_⟩ <;> rw [area]
  case refine_9 =>
    rw [List.drop_left' twelve, List.take_left' whole]
    exact slice_padded r.dataBytes_length
  case refine_10 =>
    rw [← List.append_assoc]
    exact List.drop_left' (by rw [List.length_append, twelve, whole])
  all_goals simp [header, replyHeader, word, node, named, count]

/-- A command that is served ends with its reply written over the area (R171). -/
theorem exec_writesReply {c : Instr} {code : BitVec 8} {r : Request} {s : State} (serving : s.serving = true)
    (asks : (∃ k, asked c = some (k, r) ∧ code = BitVec.ofNat 8 k.code) ∨ c = .unknownRequest code r) :
    ∃ (u : State) (reply : Reply), exec c s = .next (u.writeReply code r reply) := by
  rcases asks with ⟨k, asks, rfl⟩ | rfl
  · exact ⟨_, _, by rw [exec_asked asks, State.request, if_pos serving, State.serve]⟩
  · exact ⟨_, _, exec_unknownRequest serving code r⟩

end Sys2Proof.Machine

namespace Sys2Proof.ServiceRequests

open Sys2Proof.Machine

/-- Settles O19: every served command ends with a reply written over the area (`exec_writesReply`), the fields of the area
stand where its header puts them (`replyArea_shows`), and its check makes the exclusive-or 0 (`xorHalves_sealArea`). -/
theorem areasAreSealed : Obligations.AreasAreSealed := by
  intro c code r s serving asks
  obtain ⟨u, reply, runs⟩ := exec_writesReply serving asks
  obtain ⟨sealed, node, request, tag, code, length, table, head, index, data, echo⟩ :=
    replyArea_shows u.lines.strap code r reply u.statusBytes
  exact ⟨_, _, reply, runs, rfl, rfl, replyArea_length .., sealed, node, request, tag, code, length, table, head, index,
    data, echo⟩

end Sys2Proof.ServiceRequests
end
section
/-! SUPPORT. Items in the bytes of a status page, wherever the free layout puts them, and the images of the latch and the
fault record (O25, R173, R190, R197, log entry 4). -/

namespace Sys2Proof.Machine

open Sys2Proof.Safety

/-! ## Items of a page -/

/-- An image holds some bytes from an offset on. -/
def HoldsAt (image : List Byte) (o : Nat) (bytes : List Byte) : Prop :=
  ∀ i < bytes.length, image[o + i]? = bytes[i]?

/-- An item of a page, if it is present, lies apart from the `w` bytes at `o`. -/
def ApartFrom (o w : Nat) (place : Nat) (item : Option (List Byte)) : Prop :=
  ∀ bytes, item = some bytes → o + w ≤ place ∨ place + bytes.length ≤ o

section
variable {page bytes : List Byte} {o place : Nat}

/-- A page extended with zeros keeps its bytes. -/
theorem slice_getElem? {n i : Nat} (longer : page.length ≤ n) (inside : i < page.length) :
    (slice 0 n page)[i]? = page[i]? := by
  rw [slice_padded longer, List.getElem?_append_left inside]

theorem HoldsAt.of_putItem (page bytes : List Byte) (o : Nat) : HoldsAt (putItem page o (some bytes)) o bytes := by
  intro i inside
  refine overwrite_inside ?_ inside
  rw [slice_length]
  exact le_max_right ..

/-- An item written apart from others leaves them. -/
theorem HoldsAt.putItem {item : Option (List Byte)} (holds : HoldsAt page o bytes)
    (apart : ApartFrom o bytes.length place item) : HoldsAt (putItem page place item) o bytes := by
  intro i inside
  cases item with
  | none => exact holds i inside
  | some new =>
    have held : o + i < page.length := by
      by_contra out
      have missing := holds i inside
      rw [List.getElem?_eq_none (not_lt.1 out), List.getElem?_eq_getElem inside] at missing
      cases missing
    have outside := apart new rfl
    show (overwrite place new _)[o + i]? = _
    rw [overwrite_outside (by omega), slice_getElem? (le_max_left ..) held, holds i inside]

theorem HoldsAt.putItems {items : List (Nat × Option (List Byte))} (holds : HoldsAt page o bytes)
    (apart : ∀ q ∈ items, ApartFrom o bytes.length q.1 q.2) : HoldsAt (putItems page items) o bytes := by
  induction items generalizing page with
  | nil => exact holds
  | cons q items ih =>
    obtain ⟨first, rest⟩ := List.forall_mem_cons.1 apart
    exact ih (holds.putItem first) rest

/-- Bytes that an image holds within its first `n` are found there. -/
theorem HoldsAt.found {image : List Byte} {n : Nat} (holds : HoldsAt image o bytes) (fits : o + bytes.length ≤ n) :
    ((image.take n).drop o).take bytes.length = bytes := by
  refine List.ext_getElem? fun i => ?_
  by_cases inside : i < bytes.length
  · rw [List.getElem?_take_of_lt inside, List.getElem?_drop, List.getElem?_take_of_lt (by omega), holds i inside]
  · have out := Nat.not_lt.1 inside
    rw [List.getElem?_eq_none ((List.length_take_le ..).trans out), List.getElem?_eq_none out]

end

/-! ## Places of the items -/

/-- An item of a page, if it is present, is as wide as it says (R190, R197). -/
def ItemFits (c : Nat × Option (List Byte)) : Prop :=
  ∀ bytes, c.2 = some bytes → bytes.length = c.1

/-- The items of a page are as wide as they say. -/
def ItemsFit (coded : List (Nat × Option (List Byte))) : Prop :=
  ∀ c ∈ coded, ItemFits c

/-- Items whose places lie apart from some bytes lie apart from them. -/
theorem ItemsFit.apart {coded : List (Nat × Option (List Byte))} (fit : ItemsFit coded) {places : List Nat} {o w : Nat}
    (others : ∀ q ∈ places.zip (coded.map Prod.fst), o + w ≤ q.1 ∨ q.1 + q.2 ≤ o) :
    ∀ q ∈ places.zip (coded.map Prod.snd), ApartFrom o w q.1 q.2 := by
  intro q mem bytes present
  rw [List.zip_map_right] at mem others
  obtain ⟨⟨place, c⟩, paired, rfl⟩ := List.mem_map.1 mem
  have width : bytes.length = c.1 := fit c (List.of_mem_zip paired).2 bytes present
  rw [width]
  exact others _ (List.mem_map_of_mem paired)

/-- The places of a page's items are as many as the items, and lie apart within the reply data. -/
theorem pagePlaces_fit (page : Nat) {widths : List Nat} (packed : (packedPlaces 0 widths).length = widths.length)
    (apart : placesFit ((packedPlaces 0 widths).zip widths) = true) :
    (pagePlaces page widths).length = widths.length ∧ placesFit ((pagePlaces page widths).zip widths) = true := by
  unfold pagePlaces
  dsimp only
  split
  next free => exact free
  next => exact ⟨packed, apart⟩

/-- Each item stands at its place, whatever the places are, as they lie apart. -/
theorem putItems_holds {coded : List (Nat × Option (List Byte))} (fit : ItemsFit coded) {places : List Nat}
    (apart : placesFit (places.zip (coded.map Prod.fst)) = true) {j o w : Nat} {bytes : List Byte}
    (place : places[j]? = some o) (item : coded[j]? = some (w, some bytes)) (page : List Byte) :
    HoldsAt (putItems page (places.zip (coded.map Prod.snd))) o bytes ∧ o + bytes.length ≤ 44 := by
  induction coded generalizing places j page with
  | nil => cases item
  | cons c coded ih =>
    cases places with
    | nil => cases place
    | cons p places =>
      obtain ⟨own, rest⟩ := List.forall_mem_cons.1 fit
      simp only [List.map_cons, List.zip_cons_cons, placesFit, Bool.and_eq_true, decide_eq_true_eq, List.all_eq_true,
        Bool.or_eq_true] at apart
      obtain ⟨⟨inside, others⟩, later⟩ := apart
      cases j with
      | succ j => exact ih rest later place item _
      | zero =>
        obtain rfl : p = o := Option.some.inj place
        obtain rfl : c = (w, some bytes) := Option.some.inj item
        obtain rfl : bytes.length = w := own bytes rfl
        exact ⟨(HoldsAt.of_putItem page bytes p).putItems (ItemsFit.apart rest others), inside⟩

/-- The data of READ STATUS hold each item of a page at its place (R171, R173). -/
theorem StatusPage.shown_item (p : StatusPage) {widths : List Nat} (wide : p.coded.map Prod.fst = widths)
    (packed : (packedPlaces 0 widths).length = widths.length)
    (apart : placesFit ((packedPlaces 0 widths).zip widths) = true) (fit : ItemsFit p.coded) {j w : Nat}
    {bytes : List Byte} (item : p.coded[j]? = some (w, some bytes)) :
    (((⟨.done, .page p⟩ : Reply).dataBytes).drop ((pagePlaces p.number widths).getD j 0)).take bytes.length =
      bytes := by
  subst wide
  obtain ⟨many, free⟩ := pagePlaces_fit p.number packed apart
  have named : j < (pagePlaces p.number (p.coded.map Prod.fst)).length := by
    rw [many, List.length_map]
    exact (List.getElem?_eq_some_iff.1 item).1
  rw [List.getD_eq_getElem _ _ named]
  obtain ⟨holds, inside⟩ := putItems_holds fit free (List.getElem?_eq_getElem named) item (Config.pageRest p)
  exact holds.found inside

theorem ItemFits.image {w : Nat} {image : List Byte} (wide : image.length = w) : ItemFits (w, some image) := by
  rintro bytes ⟨⟩
  exact wide

theorem ItemFits.codedByte (n : Nat) : ItemFits (codedByte n) := ItemFits.image rfl

theorem ItemFits.codedOption : (n : Option Nat) → ItemFits (codedOption n)
  | none => fun _ present => nomatch present
  | some _ => ItemFits.image rfl

theorem itemsFit_nil : ItemsFit [] := fun _ mem => nomatch mem

theorem ItemsFit.cons {c : Nat × Option (List Byte)} {coded : List (Nat × Option (List Byte))} (first : ItemFits c)
    (rest : ItemsFit coded) : ItemsFit (c :: coded) :=
  List.forall_mem_cons.2 ⟨first, rest⟩

/-- The image of the latch record stands on page 1 (R173, R197). -/
theorem shown_latch (p : Planner) {image : List Byte} (wide : image.length = 16) :
    (((⟨.done, .page (.planner p image)⟩ : Reply).dataBytes).drop ((pagePlaces 1 [16, 1, 1, 1]).getD 0 0)).take 16 =
      image := by
  have fit : ItemsFit (StatusPage.planner p image).coded :=
    ItemsFit.cons (.image wide) <| ItemsFit.cons (.codedByte _) <| ItemsFit.cons (.codedOption _) <|
      ItemsFit.cons (.codedOption _) itemsFit_nil
  have shown := (StatusPage.planner p image).shown_item (widths := [16, 1, 1, 1]) rfl rfl rfl fit (j := 0) rfl
  rwa [wide] at shown

/-- The image of the fault record stands on page 10 (R173, R197). -/
theorem shown_fault (f : Option FaultRecord) (n : Nat) (mask : BitVec 15) (isOpen : Bool) (c : Stream) (staged : Nat)
    {image : List Byte} (wide : image.length = 16) :
    (((⟨.done, .page (.faults f image n mask isOpen c staged)⟩ : Reply).dataBytes).drop
      ((pagePlaces 10 [16, 1, 1]).getD 0 0)).take 16 = image := by
  have fit : ItemsFit (StatusPage.faults f image n mask isOpen c staged).coded :=
    ItemsFit.cons (.image wide) <| ItemsFit.cons (.codedByte _) <| ItemsFit.cons (.codedByte _) itemsFit_nil
  have shown := (StatusPage.faults f image n mask isOpen c staged).shown_item (widths := [16, 1, 1]) rfl rfl rfl fit
    (j := 0) rfl
  rwa [wide] at shown

/-- The code of the last completed kind stands on pages 2 and 5 (R173, R190). -/
theorem shown_lastKind (h : HeadId) (p : SequencerPage) :
    (⟨.done, .page (.sequencer h p)⟩ : Reply).dataBytes[(pagePlaces (2 + 3 * h.code) [1, 1]).getD 1 0]? =
      some (BitVec.ofNat 8 (lastKindCode p.lastKind)) := by
  have fit : ItemsFit (StatusPage.sequencer h p).coded :=
    ItemsFit.cons (.codedByte _) <| ItemsFit.cons (.codedByte _) itemsFit_nil
  have shown := (StatusPage.sequencer h p).shown_item (widths := [1, 1]) rfl rfl rfl fit (j := 1) rfl
  have first := congrArg (·[0]?) shown
  dsimp only [List.length_singleton] at first
  rwa [List.getElem?_take_of_lt Nat.one_pos, List.getElem?_drop, Nat.add_zero] at first

/-! ## The images of R197 -/

/-- The byte of a number. -/
theorem bytesOf_one (n : Nat) : bytesOf 1 n = [BitVec.ofNat 8 n] := by
  have value : readU (bytesOf 1 n) = n % 256 := by
    rw [bytesOf, readU_bytesOfNat]
    omega
  refine congrArg (fun b => [b]) (BitVec.eq_of_toNat_eq ?_)
  rw [BitVec.toNat_ofNat]
  exact (Nat.add_zero _).symm.trans value

theorem latchImage_some (n : Nat) (e : MarkEdge) : latchImage n (some e) =
    bytesOf 1 n ++ [if e.station = none then 0 else 1, 0, 0] ++ bytesOf 4 e.x ++ bytesOf 4 (e.station.getD 0) ++
      bytesOf 4 e.setNumber := by
  rw [bytesOf_one, latchImage]
  cases e.station <;> rfl

theorem faultImage_some (f : FaultRecord) : faultImage (some f) =
    bytesOf 1 1 ++ bytesOf 1 f.kind.code ++ bytesOf 1 (headCode f.head) ++ bytesOf 1 0 ++ bytesOf 4 f.setNumber ++
      bytesOf 4 f.station ++ bytesOf 4 f.value := by
  rw [bytesOf_one, bytesOf_one]
  rfl

/-! ## READ STATUS by its answer -/

/-- READ STATUS by its answer, which changes no state (R172, R173). -/
theorem exec_readStatus {r : Request} {s : State} {code : ReplyCode} {d : ReplyData} (serving : s.serving = true)
    (length : r.length.toNat = 0) (ha : answerReadStatus s r = ⟨s, code, d⟩) :
    exec (.readStatus r) s = .next (readReply s .readStatus r code d) := by
  have empty : RequestKind.readStatus.lengthOk r.length.toNat = true := by rw [length]; rfl
  have answer : s.checkedAnswer .readStatus r = ⟨s, code, d⟩ := (if_pos empty).trans ha
  rw [exec_asked (k := .readStatus) (r := r) rfl, State.request_served serving, answer]
  rfl

theorem answerReadStatus_page {s : State} {r : Request} {p : StatusPage} (page : s.statusPage r.index.toNat = some p) :
    answerReadStatus s r = s.done (.page p) := by
  rw [answerReadStatus, page]

theorem answerReadStatus_outside {s : State} {r : Request} (out : 10 < r.index.toNat) :
    answerReadStatus s r = s.refuse .index := by
  have none : s.statusPage r.index.toNat = none := by
    unfold State.statusPage
    split
    case h_12 => rfl
    all_goals omega
  rw [answerReadStatus, none]

end Sys2Proof.Machine

namespace Sys2Proof.ServiceRequests

open Sys2Proof.Machine Sys2Proof.Safety

/-- Settles O25: the items of a page stand at its places (`StatusPage.shown_item`), and each index answers its page
(`answerReadStatus_page`) or is refused (`answerReadStatus_outside`). -/
theorem readStatusPages : Obligations.ReadStatusPages := by
  refine ⟨⟨(pagePlaces 1 [16, 1, 1, 1]).getD 0 0, (pagePlaces 10 [16, 1, 1]).getD 0 0,
    fun h => (pagePlaces (2 + 3 * h.code) [1, 1]).getD 1 0, fun p image wide => shown_latch p wide,
    fun f image n mask o c staged wide => shown_fault f n mask o c staged wide, fun n e => ?_, fun f => ?_, fun n => ?_,
    latchImage_some, rfl, fun f => ?_, rfl, fun h p => ?_⟩, fun r s serving length => ?_⟩
  · cases e <;> rfl
  · cases f <;> rfl
  · rw [bytesOf_one]
    rfl
  · rw [faultImage_some]
    rcases f.head with _ | _ | _ <;> rfl
  · refine (shown_lastKind h p).trans ?_
    rcases p.lastKind with _ | k
    · rfl
    · cases k <;> rfl
  · intro page sequencer
    have answers ⦃n p⦄ (holds : s.statusPage n = some p) : page n p := by
      rintro rfl
      exact exec_readStatus serving length (answerReadStatus_page holds)
    exact ⟨answers rfl, answers rfl, answers rfl, answers rfl, answers rfl, answers rfl, answers rfl, answers rfl,
      answers rfl, answers rfl, answers rfl,
      fun out => exec_readStatus serving length (answerReadStatus_outside out)⟩

end Sys2Proof.ServiceRequests
end

section
/-! SUPPORT. The pending set as events are raised, taken and masked, and that every step keeps it well formed and within the
enable mask (O3). -/

namespace Sys2Proof.Machine

open Sys2Proof.Safety

/-! ## Event kinds -/

/-- The kinds are numbered without repetition (R183). -/
theorem EventKind.num_injective : Function.Injective EventKind.num :=
  Function.LeftInverse.injective (g := fun n => .ofNat (n - 1)) fun k => by cases k <;> rfl

/-- The fifteen kinds have a flag each in a mask of 15 bits (R183). -/
theorem EventKind.num_le (k : EventKind) : k.num ≤ 15 := by
  cases k <;> decide

/-! ## A raised event -/

section
variable {k : EventKind} {stamp detail : Nat} {l : List EventEntry}

/-- A raised event counts up its own entry, or stands as a new one in the place of its kind: the entries stay in the order
of priority (R184). -/
theorem insertEvent_ordered (ordered : l.Pairwise fun e f => e.kind.num < f.kind.num) :
    (insertEvent k stamp detail l).Pairwise fun e f => e.kind.num < f.kind.num := by
  induction l with
  | nil => exact List.pairwise_singleton ..
  | cons e l ih =>
    obtain ⟨first, rest⟩ := List.pairwise_cons.1 ordered
    unfold insertEvent
    split
    · exact List.pairwise_cons.2 ⟨first, rest⟩
    next other =>
      split
      next before =>
        refine List.pairwise_cons.2 ⟨fun f mem => ?_, ordered⟩
        rcases List.mem_cons.1 mem with rfl | mem
        · exact before
        · exact before.trans (first f mem)
      next notBefore =>
        have behind : e.kind.num < k.num :=
          (Nat.le_of_not_lt notBefore).lt_of_ne fun same => other (EventKind.num_injective same)
        refine List.pairwise_cons.2 ⟨fun f mem => ?_, ih rest⟩
        rcases insertEvent_kinds mem with same | ⟨g, among, same⟩
        · exact same ▸ behind
        · exact same ▸ first g among

/-- A raised event leaves each count from 1 to 255 (R184). -/
theorem insertEvent_counts (counts : ∀ e ∈ l, 1 ≤ e.count ∧ e.count ≤ 255) :
    ∀ e ∈ insertEvent k stamp detail l, 1 ≤ e.count ∧ e.count ≤ 255 := by
  induction l with
  | nil => simp [insertEvent]
  | cons f l ih =>
    obtain ⟨first, rest⟩ := List.forall_mem_cons.1 counts
    unfold insertEvent
    split
    · have counted : 1 ≤ countUp 255 f.count ∧ countUp 255 f.count ≤ 255 := by
        rw [countUp_eq_min]
        omega
      exact List.forall_mem_cons.2 ⟨counted, rest⟩
    · split
      · exact List.forall_mem_cons.2 ⟨⟨Nat.le_refl 1, Nat.one_le_ofNat⟩, counts⟩
      · exact List.forall_mem_cons.2 ⟨first, ih rest⟩

end

/-! ## Entries masked -/

/-- The entries that stay under a mask are those of the kinds it enables (R186). -/
theorem mem_keepEnabled {mask : BitVec 15} {l : List EventEntry} {e : EventEntry} :
    e ∈ keepEnabled mask l ↔ e ∈ l ∧ mask.getLsbD (e.kind.num - 1) = true :=
  List.mem_filter

theorem keepEnabled_sublist (mask : BitVec 15) (l : List EventEntry) : (keepEnabled mask l).Sublist l :=
  List.filter_sublist

/-! ## Guard records written -/

theorem putGuards_events (k : Nat) (gs : List GuardRecord) (s : State) : (putGuards k gs s).events = s.events := by
  induction gs generalizing k s with
  | nil => rfl
  | cons g gs ih => exact ih (k + 1) (s.putGuard k g)

end Sys2Proof.Machine

namespace Sys2Proof.Safety

open Sys2Proof.Machine

/-! ## A well-formed pending set -/

section
variable {l l' : List EventEntry} {e : EventEntry}

theorem PendingSet.insertEvent {k : EventKind} {stamp detail : Nat} (ok : PendingSet l) :
    PendingSet (Machine.insertEvent k stamp detail l) :=
  ⟨insertEvent_ordered ok.1, insertEvent_counts ok.2⟩

/-- What stays of a well-formed pending set as entries are taken away is well formed. -/
theorem PendingSet.sublist (ok : PendingSet l) (fewer : l'.Sublist l) : PendingSet l' :=
  ⟨ok.1.sublist fewer, fun e mem => ok.2 e (fewer.subset mem)⟩

/-- The entry of the highest priority is the first of the pending set (R183, R185). -/
theorem PendingSet.eq_cons (ok : PendingSet l) (mem : e ∈ l)
    (least : ∀ f ∈ l, e.kind.num ≤ f.kind.num) : ∃ rest, l = e :: rest := by
  cases l with
  | nil => cases mem
  | cons f rest =>
    rcases List.mem_cons.1 mem with rfl | behind
    · exact ⟨rest, rfl⟩
    · have before : f.kind.num < e.kind.num := (List.pairwise_cons.1 ok.1).1 e behind
      exact absurd (least f List.mem_cons_self) before.not_ge

end

/-- The pending set of an event unit is well formed, and of enabled kinds alone (R183, R184, R186). -/
def EntriesOk (u : EventUnit) : Prop :=
  PendingSet u.entries ∧ ∀ e ∈ u.entries, u.enables e.kind = true

/-- An enabled event that is raised joins the pending set in its place, and a fault recorded is no part of it (R184,
R187). -/
theorem eventClosed_entriesOk : EventClosed EntriesOk where
  insert := by
    rintro u k stamp detail ⟨set, enabled⟩ raised
    refine ⟨set.insertEvent, fun e mem => ?_⟩
    rcases insertEvent_kinds mem with same | ⟨f, among, same⟩
    · exact same ▸ raised
    · exact same ▸ enabled f among
  record := fun _ _ ok => ok

/-- The pending set of a state is well formed and within the enable mask (R183, R184, R186). -/
def EventsOk (s : State) : Prop := EntriesOk s.events

theorem eventsOk_iff {s : State} : EventsOk s ↔ PendingOk s ∧ MaskOk s := .rfl

section
variable {s t : State}

theorem EventsOk.same (ok : EventsOk s) (e : t.events = s.events) : EventsOk t := by
  rwa [EventsOk, e]

/-- The blocks raise events and record faults alone. -/
theorem EventsOk.worked (ok : EventsOk s) (w : Worked s t) : EventsOk t :=
  w.events _ eventClosed_entriesOk ok

theorem EventsOk.ofInitial (e : t.events = .initial) : EventsOk t := by
  rw [EventsOk, e]
  exact ⟨⟨.nil, nofun⟩, nofun⟩

/-! ## Requests on the tables and the queues -/

/-- A WRITE RECORD raises MAP_FENCE alone, for a point that the fence forbids (R111, R175). -/
theorem EventsOk.writeRecord (ok : EventsOk s) (r : Request) : EventsOk (answerWriteRecord s r).state :=
  answerWriteRecord_leaves ok (fun x f => ok.same (s.modHead_events x f))
    (fun x k => ok.worked (s.refuseFence_worked x k)) (fun _ _ => ok) (fun _ => ok) (fun _ => ok) r

theorem EventsOk.append (ok : EventsOk s) (r : Request) : EventsOk (answerAppend s r).state := by
  refine State.onHead_leaves ok r fun x => ?_
  unfold appendRecord
  dsimp only
  split
  · exact ok
  · split
    · exact ok
    · split
      · exact ok.same (s.modSeq_events x _)
      · exact ok

/-- A complete stream raises MAP_FENCE alone, for a point that the fence forbids (R112, R180). -/
theorem EventsOk.completeStream (ok : EventsOk s) (c : Stream) (records : List (List Byte)) :
    EventsOk (Machine.completeStream s c records).state := by
  have closed : EventsOk s.closeStream := ok
  unfold Machine.completeStream
  dsimp only
  split
  · exact closed
  · split
    · unfold applySegments
      dsimp only
      split
      · exact closed
      · split
        · exact closed.same (State.modSeq_events ..)
        · exact closed
    · unfold applyPoints
      dsimp only
      split
      · exact closed.same (State.modMap_events ..)
      · split
        · exact closed.worked (State.refuseFence_worked ..)
        · exact closed
    · unfold applyGuards
      split
      · exact closed
      · split
        · exact closed.same (putGuards_events ..)
        · exact closed

theorem EventsOk.streamData (ok : EventsOk s) (r : Request) : EventsOk (answerStreamData s r).state := by
  unfold answerStreamData
  dsimp only
  split
  · exact ok
  · split
    · exact ok
    · split
      · exact ok.completeStream ..
      · exact ok

/-! ## Requests on the events -/

/-- TAKE EVENT takes away the first entry (R185). -/
theorem EventsOk.takeEvent (ok : EventsOk s) (r : Request) : EventsOk (answerTakeEvent s r).state := by
  obtain ⟨set, enabled⟩ := ok
  have fewer := List.tail_sublist s.events.entries
  exact ⟨set.sublist fewer, fun e mem => enabled e (fewer.subset mem)⟩

/-- SET EVENT MASK leaves the entries of the kinds that the new mask enables (R186). -/
theorem EventsOk.setEventMask (ok : EventsOk s) (r : Request) : EventsOk (answerSetEventMask s r).state := by
  unfold answerSetEventMask
  dsimp only
  split
  · exact ok
  · exact ⟨ok.1.sublist (keepEnabled_sublist ..), fun e mem => (mem_keepEnabled.1 mem).2⟩

/-! ## Every request -/

/-- TAKE EVENT and SET EVENT MASK take entries away; the requests on maps and passes raise events; and the others leave
the pending set and the mask as they are. -/
theorem EventsOk.answer (ok : EventsOk s) (k : RequestKind) (r : Request) : EventsOk (k.answer s r).state := by
  cases k <;> simp only [RequestKind.answer]
  case readRecord => exact (answerReadRecord_state s r).symm ▸ ok
  case writeRecord => exact ok.writeRecord r
  case appendSegment => exact ok.append r
  case cancelPending => exact State.onHead_leaves ok r fun x => ok.worked (s.cancel_worked x)
  case streamData => exact ok.streamData r
  case takeEvent => exact ok.takeEvent r
  case setEventMask => exact ok.setEventMask r
  case passStart =>
    have named (o : PassOrder) : EventsOk { s with pass := o.record } := ok
    unfold answerPassStart
    repeat' split
    case h_2 => exact (named _).worked (s.startPass_worked _)
    all_goals exact ok
  case passHold =>
    unfold answerPassHold
    repeat' split
    case isFalse.isFalse => exact ok.worked (s.holdOrder_worked _)
    all_goals exact ok
  case passAbort =>
    unfold answerPassAbort
    repeat' split
    case isFalse.isFalse => exact ok.worked s.abortPass_worked
    all_goals exact ok
  all_goals
    dsimp only [answerReadStatus, answerStreamOpen, answerStreamCancel, answerPassResume, answerEnterReady,
      answerEnterConfig, answerClearFault, answerResetNode]
    repeat' split
    all_goals exact ok

end

/-- Every part of a command keeps the pending set well formed and within the enable mask. -/
theorem eventsOk_kept : Kept EventsOk where
  worked := fun _ _ w ok => ok.worked w
  power := fun _ _ => id
  port := fun _ _ => id
  pending := fun _ _ => id
  reply := fun _ _ => id
  powerOn := fun _ => .ofInitial rfl
  reset := fun _ _ _ _ => .ofInitial rfl
  answer := fun k _ r ok => ok.answer k r
  bad := fun _ => id
  short := fun _ => id
  early := fun _ => id
  accepted := fun _ _ _ => id
  samples := fun _ _ => id
  missed := fun _ _ _ _ => id
  lost := fun _ => id
  idle := fun _ _ _ => id
  close := fun _ => id

end Sys2Proof.Safety

namespace Sys2Proof.EventsAndFaults

open Sys2Proof.Safety

/-- Settles O3: a raised event joins in its place (`insertEvent_ordered`, `insertEvent_counts`), TAKE EVENT and SET EVENT
MASK take entries away (`PendingSet.sublist`), and every step is made of these (`Kept`). -/
theorem stepKeepsPendingEvents : Obligations.StepKeepsPendingEvents :=
  fun _ _ set enabled e => eventsOk_iff.1 (eventsOk_kept.step (eventsOk_iff.2 ⟨set, enabled⟩) e)

end Sys2Proof.EventsAndFaults
end

section
/-! SUPPORT. TAKE EVENT and SET EVENT MASK by what they answer (O40). -/

namespace Sys2Proof.Machine

open Sys2Proof.Safety

section
variable {s : State} {r : Request}

/-- The state with the flags taken as the enable mask, and the entries removed that they disable (R186). -/
def State.masked (s : State) (flags : Nat) : State :=
  { s with events := { s.events with
      mask := BitVec.ofNat 15 flags
      entries := keepEnabled (BitVec.ofNat 15 flags) s.events.entries } }

theorem answerTakeEvent_none (empty : s.events.entries = []) :
    answerTakeEvent s r = s.done (.image (List.replicate 10 0)) := by
  have stands : ({ s with events := { s.events with entries := [] } } : State) = s := by
    rw [← empty]
  rw [answerTakeEvent, empty, List.tail_nil, stands]
  rfl

/-- TAKE EVENT takes the entry of the highest priority (R185). -/
theorem answerTakeEvent_some {e : EventEntry} (ok : PendingOk s) (mem : e ∈ s.events.entries)
    (least : ∀ f ∈ s.events.entries, e.kind.num ≤ f.kind.num) :
    answerTakeEvent s r = ({ s with events := { s.events with entries := s.events.entries.erase e } } : State).done
      (.image (eventImage (some e))) := by
  obtain ⟨rest, entries⟩ := PendingSet.eq_cons ok mem least
  rw [answerTakeEvent, entries, List.erase_cons_head]
  rfl

theorem answerSetEventMask_refused (out : 32768 ≤ fieldU 0 2 r.payload) :
    answerSetEventMask s r = s.refuse .value :=
  if_pos out

theorem answerSetEventMask_done {flags : Nat} (named : fieldU 0 2 r.payload = flags) (inside : flags < 32768) :
    answerSetEventMask s r = (s.masked flags).done (.items [(flags : Int),
      ((s.events.entries.length - (s.masked flags).events.entries.length : Nat) : Int)]) := by
  subst named
  exact if_neg inside.not_ge

/-- Bit k - 1 of the flags enables kind k (R183, R186). -/
theorem getLsbD_flags (flags : Nat) (k : EventKind) :
    (BitVec.ofNat 15 flags).getLsbD (k.num - 1) = flags.testBit (k.num - 1) := by
  have flag : k.num - 1 < 15 := by
    have := k.num_le
    omega
  rw [BitVec.getLsbD_ofNat, decide_eq_true flag, Bool.true_and]

/-- An entry stays under a new mask where the flag of its kind is set (R186). -/
theorem State.mem_masked {flags : Nat} {e : EventEntry} (mem : e ∈ s.events.entries) :
    e ∈ (s.masked flags).events.entries ↔ flags.testBit (e.kind.num - 1) = true := by
  rw [← getLsbD_flags]
  exact mem_keepEnabled.trans (and_iff_right mem)

end

end Sys2Proof.Machine

namespace Sys2Proof.EventsAndFaults

open Sys2Proof.Machine Sys2Proof.Safety

/-- Settles O40: TAKE EVENT by the first entry (`answerTakeEvent_some`), and SET EVENT MASK by the entries whose flag is
set (`State.mem_masked`). -/
theorem eventsTakenAndMasked : Obligations.EventsTakenAndMasked := by
  intro r s serving take flags mask
  have taken ⦃t d⦄ (length : r.length.toNat = 0) (ha : answerTakeEvent s r = ⟨t, .done, d⟩) :
      exec (.takeEvent r) s = .next (replied t .takeEvent r .done d) :=
    exec_answered rfl serving (by rw [length]; rfl) rfl ha
  have answers ⦃t c d⦄ (length : r.length.toNat = 2) (ha : answerSetEventMask s r = ⟨t, c, d⟩) : mask t c d :=
    exec_answered rfl serving (by rw [length]; rfl) rfl ha
  refine ⟨fun length empty => taken length (answerTakeEvent_none empty),
    fun e length ok mem least => taken length (answerTakeEvent_some ok mem least),
    fun length out => answers length (answerSetEventMask_refused out), fun length inside => ?_⟩
  exact ⟨s.masked flags, rfl, keepEnabled_sublist .., fun e mem => State.mem_masked mem,
    answers length (answerSetEventMask_done rfl inside)⟩

end Sys2Proof.EventsAndFaults
end
section
/-! SUPPORT. What a command leaves of the commands waiting behind it, and how a step takes the front one. -/

namespace Sys2Proof.Machine

open Sys2Proof.Safety

/-! ## Requests and areas -/

theorem State.checkedAnswer_pending (s : State) (k : RequestKind) (r : Request) :
    (s.checkedAnswer k r).state.pending = s.pending := by
  unfold State.checkedAnswer
  split
  · exact (answer_sameNode k s r).pending
  · rfl

/-- What is written over the area and into the last reply record is no command (R171, R172). -/
theorem State.request_pending (s : State) (k : RequestKind) (r : Request) : (s.request k r).pending = s.pending := by
  cases serving : s.serving with
  | false => rw [State.request_passed serving]
  | true =>
    rw [State.request_served serving]
    split <;> exact s.checkedAnswer_pending k r

theorem State.requestUnknown_pending (s : State) (code : BitVec 8) (r : Request) :
    (s.requestUnknown code r).pending = s.pending := by
  unfold State.requestUnknown
  split <;> rfl

/-- A frame's area is answered as the request that its code names, or sent on (R169, R170). -/
theorem State.carryFrame_pending (s : State) (f : Frame) : (s.carryFrame f).pending = s.pending := by
  have area : (s.serveArea f.payload).pending = s.pending := by
    unfold State.serveArea
    dsimp only
    split
    next served =>
      unfold State.serveCode
      split
      next k _ =>
        have request := s.request_pending k (readArea (f.payload.take 64))
        rwa [State.request, if_pos served.2.1] at request
      next => rfl
    next => rfl
  exact area

/-! ## The ring's frames and expiries -/

theorem State.countIdle_pending (s : State) : s.countIdle.pending = s.pending := by
  rw [s.countIdle_frame.1]

theorem State.expireStream_pending (s : State) : s.expireStream.pending = s.pending := by
  unfold State.expireStream
  split
  · exact (State.raise_worked ..).pending
  · rfl

theorem State.acceptFrame_pending (s : State) (payload : List Byte) (now : Nat) (pins : Pins) :
    (s.acceptFrame payload now pins).pending = s.pending := by
  refine ((State.sampleSet_worked _).pending.trans (State.countIdle_pending _)).trans ?_
  split
  · exact (State.raise_worked ..).pending
  · rfl

theorem State.testFrame_pending (s : State) (f : PassingFrame) (now : Nat) (pins : Pins) :
    (s.testFrame f now pins).pending = s.pending := by
  unfold State.testFrame
  split
  · rfl
  · split
    · rfl
    · split
      · exact (State.raise_worked ..).pending
      · exact s.acceptFrame_pending ..

/-- A reset taken at a frame's completion retains the commands waiting, as the frame's test does (R155, R176). -/
theorem State.completeFrame_pending (s : State) (now : Nat) (pins : Pins) :
    (s.completeFrame now pins).pending = s.pending := by
  unfold State.completeFrame
  split
  · rfl
  · split
    · exact State.testFrame_pending ..
    · rfl

theorem State.markLost_pending (s : State) : s.markLost.pending = s.pending :=
  (State.raise_worked ..).pending

theorem State.expireWindow_pending (s : State) (stop : Bool) : (s.expireWindow stop).pending = s.pending := by
  unfold State.expireWindow
  split
  · refine ((State.coastSet_worked _ _).pending.trans (State.countIdle_pending _)).trans ?_
    split
    · exact State.markLost_pending _
    · rfl
  · rfl

theorem State.ringLoss_pending (s : State) : s.ringLoss.pending = s.pending := by
  have lost := (State.loseRing_worked s.markLost).pending.trans s.markLost_pending
  unfold State.ringLoss
  split
  · dsimp only
    split
    · exact ((State.takeCause_worked ..).trans (State.testPassEnd_worked _)).pending.trans lost
    · exact lost
  · rfl

/-! ## Every command -/

theorem State.ifRunning_pending {s t : State} (leaves : t.pending = s.pending) : (s.ifRunning t).pending = s.pending := by
  unfold State.ifRunning
  split
  · exact leaves
  · rfl

/-- Every command answers a next state, and leaves the commands waiting: a request by the frame of its answer, an event of
the blocks as their work, and the commands of the supply, the lines and the ring each by the records it writes. -/
theorem exec_next_pending (c : Instr) (s : State) : ∃ t, exec c s = .next t ∧ t.pending = s.pending := by
  cases hc : asked c with
  | some kr => exact ⟨_, exec_asked hc s, s.request_pending kr.1 kr.2⟩
  | none =>
    cases c <;> simp only [asked, reduceCtorEq] at hc <;> refine ⟨_, rfl, ?_⟩
    case powerOn => rfl
    case supplyLoss => rfl
    case resetLine => split <;> rfl
    case resetNegated => split <;> rfl
    case startTime => split <;> rfl
    case cycleFrame f =>
      split
      · exact s.carryFrame_pending f
      · rfl
    case unknownRequest => exact s.requestUnknown_pending ..
    all_goals refine State.ifRunning_pending ?_
    case frameCompletion => exact s.completeFrame_pending ..
    case cycleWindowExpiry => exact s.expireWindow_pending _
    case ringLost => exact s.ringLoss_pending
    case streamExpired => exact s.expireStream_pending
    all_goals refine Worked.pending ?_
    case filteredMarkEdge => exact State.markEdge_worked _
    case arrival => exact State.arrival_worked _
    case spinupStart => exact State.startSpinup_worked ..
    case atSpeed => exact State.atSpeed_worked ..
    case contact => exact State.takeContact_worked ..
    case seatComplete => exact State.seatComplete_worked ..
    case dwellEnd => exact State.dwellEnd_worked ..
    case repetitionEnd => exact State.repetitionEnd_worked ..
    case traverseCompletesAtRest => exact State.completeAtRest_worked ..
    case starvationEnd => exact State.starvationEnd_worked ..
    case appendedStartTaken => exact State.takeAppendedStart_worked ..
    case brakeEnd => exact State.brakeEnd_worked ..
    case runoutEnd => exact State.runoutEnd_worked ..
    case retractEnd => exact State.retractEnd_worked ..
    case spindownEnd => exact State.spindownEnd_worked ..
    case spinstop => exact State.enterSpinstop_worked ..
    case withdrawalEnd => exact State.withdrawalEnd_worked ..
    case passEnd => exact State.testPassEnd_worked ..
    all_goals exact .ite ((State.takeCause_worked ..).trans (State.testPassEnd_worked _)) (.refl _)

/-! ## A step -/

theorem step_front {s : State} {c : Instr} {rest : List Instr} (front : s.pending = c :: rest) :
    step s = exec c (s.afterFront rest) := by
  simp only [step, front]

theorem step_idle {s : State} (empty : s.pending = []) : step s = .next s := by
  simp only [step, empty]

end Sys2Proof.Machine

namespace Sys2Proof.EveryStep

open Sys2Proof.Machine

/-- Settles O2: every command answers a next state with the same commands waiting (`exec_next_pending`). -/
theorem everyCommandAnswersNext : Obligations.EveryCommandAnswersNext :=
  exec_next_pending

/-- Settles O1: a step by whether a command is in front (`step_front`, `step_idle`). -/
theorem stepRunsTheFrontCommand : Obligations.StepRunsTheFrontCommand :=
  ⟨fun _ _ _ front => step_front front, fun _ empty => step_idle empty⟩

end Sys2Proof.EveryStep
end

section
/-! SUPPORT. The eight bytes of the STATUS slot and of the status echo (R192). -/

namespace Sys2Proof.Machine

/-! ## Each field fits a byte -/

theorem NodeMode.code_lt (m : NodeMode) : m.code < 256 := by
  cases m <;> decide

theorem PassState.code_lt (p : PassState) : p.code < 256 := by
  cases p <;> decide

theorem HeadState.code_lt (st : HeadState) : st.code < 256 := by
  cases st <;> decide

theorem RingState.code_le (r : RingState) : r.code ≤ 3 := by
  cases r <;> decide

/-- The highest pending kind is a kind's number, or 0 (R183). -/
theorem EventUnit.highest_le (u : EventUnit) : u.highest ≤ 15 := by
  unfold EventUnit.highest
  split
  · exact Nat.zero_le _
  · exact EventKind.num_le _

theorem State.freeSegments_le (s : State) (h : HeadId) : s.freeSegments h ≤ 16 :=
  Nat.sub_le ..

/-! ## The image -/

/-- A number that fits a byte reads back from the byte it is written as. -/
theorem fieldU_byte_at {off n : Nat} {bs : List Byte} (byte : bs.getD off 0 = BitVec.ofNat 8 n) (fits : n < 256) :
    fieldU off 1 bs = n := by
  have read : fieldU off 1 bs = (bs.getD off 0).toNat := by simp [fieldU_eq_sum]
  rw [read, byte, BitVec.toNat_ofNat, Nat.mod_eq_of_lt fits]

/-- The last byte holds the alert as its bit 0 and the code of the ring state above it. -/
theorem State.statusBytes_flags (s : State) :
    fieldU 7 1 s.statusBytes = Nat.bit s.alert s.ring.state.code := by
  have flags : (if s.alert then 1 else 0) + 2 * s.ring.state.code = Nat.bit s.alert s.ring.state.code := by
    rw [Nat.bit_val, Nat.add_comm]
    cases s.alert <;> rfl
  have code := s.ring.state.code_le
  rw [← flags]
  refine fieldU_byte_at rfl ?_
  split <;> omega

end Sys2Proof.Machine

namespace Sys2Proof.RecordAndFrameLayouts

open Sys2Proof.Machine

/-- Settles O51: each byte holds its number, which fits it (`fieldU_byte_at`), and the last one the alert below the code of
the ring state (`State.statusBytes_flags`). -/
theorem statusImageLayout : Obligations.StatusImageLayout := by
  intro s
  have kind := s.events.highest_le
  have freeA := s.freeSegments_le .a
  have freeB := s.freeSegments_le .b
  refine ⟨rfl, fieldU_byte_at rfl s.service.mode.code_lt, fieldU_byte_at rfl s.pass.state.code_lt,
    fieldU_byte_at rfl (s.headState .a).code_lt, fieldU_byte_at rfl (s.headState .b).code_lt,
    fieldU_byte_at rfl (by omega), kind, fieldU_byte_at rfl (by omega), freeA, fieldU_byte_at rfl (by omega), freeB,
    ?_, ?_⟩
  · rw [s.statusBytes_flags, Nat.testBit_bit_zero]
  · rw [s.statusBytes_flags, Nat.bit_div_two]

end Sys2Proof.RecordAndFrameLayouts
end
